-- ==== Sys2Proof/Word.lean ====
section
/-! DEFINITION. The byte of the part's links, and the plainest arithmetic of its figures: every quantity the part
holds is an integer (00_scope, Conventions: Numbers), so quantities are `Nat` or `Int` and only tags, masks, mode
sets and bytes are bit vectors. -/

namespace Sys2Proof

/-- One byte on a request port, the offtake link or the sample link. -/
abbrev Byte := BitVec 8

/-- The identity of an offtaker (00_scope, Terms: Tag). -/
abbrev Tag := BitVec 24

/-- The top of a 31-bit figure, 2,147,483,647. -/
abbrev maxFigure : Nat := 2147483647

/-- `v` held within `lo` to `hi`. -/
def clampNat (lo hi v : Nat) : Nat := max lo (min v hi)

/-- `v` held within `lo` to `hi`. -/
def clampInt (lo hi v : Int) : Int := max lo (min v hi)

/-- A signed figure with its negative values raised to 0, and saturated at `hi`. -/
def floorZero (hi : Nat) (v : Int) : Nat := min v.toNat hi

end Sys2Proof
end

