-- ==== Sys2Proof/Config.lean ====
section
/-! DEFINITION. What the part fixes (its timer limits, table sizes and counter tops) and the free values: what the
spec leaves open, as constants without a body. -/

namespace Sys2Proof

/-- The offtake slots (R1). -/
abbrev Config.slots : Nat := 24
/-- The meter channels (R66). -/
abbrev Config.channels : Nat := 48
/-- The entries of the Account Table (R159). -/
abbrev Config.accounts : Nat := 32
/-- The tariff pairs (R180). -/
abbrev Config.pairs : Nat := 16
/-- The reservation windows (R90). -/
abbrev Config.windows : Nat := 4
/-- The notice kinds (R200). -/
abbrev Config.notices : Nat := 13

/-- The top of a record's power figures, 1,000,000 kW (R3, R5, R6). -/
abbrev Config.maxPower : Nat := 1000000
/-- The top of an energy counter in kWh (R160). -/
abbrev Config.maxEnergy : Nat := 1099511627775
/-- The top of a charge counter (R160). -/
abbrev Config.maxCharge : Nat := 72057594037927935

/-- The quiet hold, 4 s (R31), in milliseconds. -/
abbrev Config.quietMs : Nat := 4000
/-- The silence limit, 3 s (R28), in milliseconds. -/
abbrev Config.silenceMs : Nat := 3000
/-- The age at which a channel's age expiry is taken, 1 s (R75), in milliseconds. -/
abbrev Config.ageMs : Nat := 1000
/-- The top of a channel's age, 65,535 s (R75), in milliseconds. -/
abbrev Config.maxAgeMs : Nat := 65535000
/-- The stale limit, 30 s (R76), in milliseconds. -/
abbrev Config.staleMs : Nat := 30000
/-- The reply window of an exchange, 20 ms (R26, R51). -/
abbrev Config.replyMs : Nat := 20
/-- The metering tick's period, 1 s (R171), in milliseconds. -/
abbrev Config.tickMs : Nat := 1000
/-- The idle seconds after which a CUT record is released (R58). -/
abbrev Config.idleSeconds : Nat := 10

/-- The items of answer bodies and messages that can be absent and for whose absence the spec gives no code (R207,
R208 and R210 give one for a channel, an account, a price and an activity). -/
inductive Config.OpenItem where
  | grade | efficiency | mode | advertModes | advertRating | advertAck | splitFigure | deviation | deviationResidue
  | statement | condition | chosenPair | missedPrice
  deriving DecidableEq, Repr

/-- FREE VALUE (DESIGN CHOICE, log 9): the figure sent in the place of an absent item. Nothing constrains it. -/
opaque Config.absentCode : Config.OpenItem → Nat

/-- FREE VALUE (DESIGN CHOICE, log 6): how many milliseconds after its beginning the pass with a sequence number is
completed when no command completes it. R105 gives no offset; the interval's end bounds it. -/
opaque Config.completionMs : Nat → Nat

end Sys2Proof
end

