-- ==== Sys2Proof/Syntax.lean ====
section
/-! DEFINITION. The commands of the part: one constructor of `Instr` for each row of spec/opcode_table.json. The
figures of a request stand as they cross the wire (R207): an enumerated value by its code, a figure unchecked, so that
every refusal of the spec can be met. An absent channel, account or price is `none`. -/

namespace Sys2Proof

/-- The two request ports (R195). -/
inductive PortId where
  | portA | portB
  deriving DecidableEq, Repr

/-- The configuration figures that CREATE_OFFTAKE and AMEND_OFFTAKE both carry (R3, R4), in the order of
AMEND_OFFTAKE's mask bits (R209), which is that of R12. -/
structure OfftakeFigures where
  /-- offtaker class, by code (mask bit 0) -/
  cls : Nat
  /-- link address (bit 1) -/
  addr : Nat
  /-- permitted modes, one bit each (bit 2) -/
  modes : Byte
  /-- declared rating (bit 3) -/
  rating : Nat
  /-- declared grade, by code (bit 4) -/
  grade : Nat
  /-- min firing (bit 5) -/
  minFiring : Nat
  /-- max firing (bit 6) -/
  maxFiring : Nat
  /-- priority class (bit 7) -/
  prio : Nat
  /-- weight (bit 8) -/
  weight : Nat
  /-- boiler efficiency (bit 9) -/
  eff : Nat
  /-- the first, second and third meter bindings (bits 10, 11 and 12) -/
  bind1 : Nat
  bind2 : Nat
  bind3 : Nat
  deriving DecidableEq, Repr

/-- What CREATE_OFFTAKE carries (R12). -/
structure CreateBody where
  tag : Tag
  fig : OfftakeFigures
  deriving DecidableEq, Repr

/-- What AMEND_OFFTAKE carries (R14, R209): the record's slot and tag, the mask of the fields it names, and every
field. -/
structure AmendBody where
  slot : Nat
  tag : Tag
  mask : BitVec 16
  fig : OfftakeFigures
  deriving DecidableEq, Repr

/-- What SET_CHANNEL carries (R67). -/
structure ChannelBody where
  channel : Nat
  kind : Nat
  span : Nat
  offset : Int
  onThreshold : Int
  offThreshold : Int
  polarity : Nat
  substitute : Int
  deriving DecidableEq, Repr

/-- What SET_GRADE carries (R93, R209): the list length and four channel places, of which places beyond the length
are not read. -/
structure GradeBody where
  grade : Nat
  supplyLength : Nat
  place1 : Nat
  place2 : Nat
  place3 : Nat
  place4 : Nat
  cv : Option Nat
  level : Option Nat
  low : Int
  target : Int
  high : Int
  gain : Int
  hMax : Int
  deriving DecidableEq, Repr

/-- What SET_WINDOW carries (R95). -/
structure WindowBody where
  window : Nat
  grade : Nat
  value : BitVec 24
  mask : BitVec 24
  reserve : Int
  deriving DecidableEq, Repr

/-- What SET_PLANT carries (R102): every field of R101 but the commitment and the export account, in R101's order. -/
structure PlantBody where
  interval : Nat
  recoveryHold : Nat
  tolerance : Nat
  deadband : Nat
  overdrawLimit : Nat
  lockoutLimit : Nat
  turbineEff : Nat
  extractionCeiling : Nat
  cp : Nat
  policy : Nat
  loopFlow : Option Nat
  loopSupply : Option Nat
  loopReturn : Option Nat
  houseLoad : Option Nat
  exportChannel : Option Nat
  exportTolerance : Nat
  deriving DecidableEq, Repr

/-- What WRITE_TARIFF carries (R186). -/
structure TariffBody where
  pair : Nat
  medium : Nat
  key : Nat
  mask : Nat
  season : Nat
  shared : Bool
  primary : Option Nat
  secondary : Option Nat
  deriving DecidableEq, Repr

/-- One request of a frame: a row of the request table (R209). -/
inductive Request where
  | createOfftake (b : CreateBody)
  | amendOfftake (b : AmendBody)
  | findOfftake (tag : Tag)
  | readOfftake (slot : Nat)
  | retireOfftake (slot : Nat) (tag : Tag)
  | renegotiate (slot : Nat) (tag : Tag)
  | release (slot : Nat) (tag : Tag)
  | setChannel (b : ChannelBody)
  | readChannel (channel : Nat)
  | setGrade (b : GradeBody)
  | readGrade (grade : Nat)
  | setWindow (b : WindowBody)
  | clearWindow (window : Nat)
  | readWindow (window : Nat)
  | setPlant (b : PlantBody)
  | readPlant
  | setCommitment (figure : Int)
  | readBalance
  | pushCurtail (level : Nat)
  | popCurtail
  | readCurtail
  | openAccount (number kind key : Nat)
  | amendAccount (number key : Nat)
  | readAccount (number : Nat)
  | retireAccount (number : Nat)
  | bindAccount (slot : Nat) (tag : Tag) (number : Nat)
  | unbindAccount (slot : Nat) (tag : Tag)
  | setExportAccount (number : Option Nat)
  | closePeriod (number : Nat)
  | takeStatement (number : Nat)
  | reprice (number : Nat)
  | writeTariff (b : TariffBody)
  | invalidateTariff (pair : Nat)
  | readTariff (pair : Nat)
  | probeTariff (medium key : Nat)
  | setSeason (season : Nat)
  | setBand (band : Nat)
  | readNotices
  | clearNotice (kind : Nat)
  | setRouting (port : Nat) (setMask clearMask : BitVec 16)
  | setNoticeMode (mode : Nat)
  | restart
  deriving DecidableEq, Repr

/-- A message received on the offtake link (R211): the address it comes from, its type byte, its payload and its frame
check. -/
structure LinkMsg where
  addr : Byte
  type : Byte
  payload : List Byte
  check : BitVec 16
  deriving DecidableEq, Repr

/-- A transaction with code 0x10 that ends (R195): `bytes` are the bytes after the code; `early` says that it began before
the port's state last changed by other than a transaction. -/
structure WriteTransaction where
  early : Bool
  bytes : List Byte
  deriving DecidableEq, Repr

/-- A transaction with another code that ends (R195): 0x20 reads the answer, any other has the state byte alone. `clocked`
bytes have been clocked out after the state byte; `early` as in a write. -/
structure ReadTransaction where
  code : Byte
  early : Bool
  clocked : Nat
  deriving DecidableEq, Repr

/-- The commands: one constructor for each row of spec/opcode_table.json, in the table's order. -/
inductive Instr where
  | fullReset
  /-- the release of a full reset, with the levels of the MAINT_EN and NOTICE_MODE straps (R205) -/
  | resetRelease (maintEn noticeMode : Bool)
  | writeFrame (p : PortId) (x : WriteTransaction)
  | readAnswer (p : PortId) (x : ReadTransaction)
  | createOfftake (p : PortId) (b : CreateBody)
  | amendOfftake (p : PortId) (b : AmendBody)
  | findOfftake (p : PortId) (tag : Tag)
  | readOfftake (p : PortId) (slot : Nat)
  | retireOfftake (p : PortId) (slot : Nat) (tag : Tag)
  | renegotiate (p : PortId) (slot : Nat) (tag : Tag)
  | release (p : PortId) (slot : Nat) (tag : Tag)
  | setChannel (p : PortId) (b : ChannelBody)
  | readChannel (p : PortId) (channel : Nat)
  | setGrade (p : PortId) (b : GradeBody)
  | readGrade (p : PortId) (grade : Nat)
  | setWindow (p : PortId) (b : WindowBody)
  | clearWindow (p : PortId) (window : Nat)
  | readWindow (p : PortId) (window : Nat)
  | setPlant (p : PortId) (b : PlantBody)
  | readPlant (p : PortId)
  | setCommitment (p : PortId) (figure : Int)
  | readBalance (p : PortId)
  | pushCurtail (p : PortId) (level : Nat)
  | popCurtail (p : PortId)
  | readCurtail (p : PortId)
  | openAccount (p : PortId) (number kind key : Nat)
  | amendAccount (p : PortId) (number key : Nat)
  | readAccount (p : PortId) (number : Nat)
  | retireAccount (p : PortId) (number : Nat)
  | bindAccount (p : PortId) (slot : Nat) (tag : Tag) (number : Nat)
  | unbindAccount (p : PortId) (slot : Nat) (tag : Tag)
  | setExportAccount (p : PortId) (number : Option Nat)
  | closePeriod (p : PortId) (number : Nat)
  | takeStatement (p : PortId) (number : Nat)
  | reprice (p : PortId) (number : Nat)
  | writeTariff (p : PortId) (b : TariffBody)
  | invalidateTariff (p : PortId) (pair : Nat)
  | readTariff (p : PortId) (pair : Nat)
  | probeTariff (p : PortId) (medium key : Nat)
  | setSeason (p : PortId) (season : Nat)
  | setBand (p : PortId) (band : Nat)
  | readNotices (p : PortId)
  | clearNotice (p : PortId) (kind : Nat)
  | setRouting (p : PortId) (port : Nat) (setMask clearMask : BitVec 16)
  | setNoticeMode (p : PortId) (mode : Nat)
  | restart (p : PortId)
  /-- the bytes received on the sample link between two gaps (R212) -/
  | sampleMessage (bytes : List Byte)
  | ageExpiry (channel : Nat)
  | staleTimerExpiry (channel : Nat)
  | quietHoldExpiry (slot : Nat)
  | silenceExpiry (slot : Nat)
  | poll
  | pollTimeout
  /-- a reply is received on the offtake link (R211): in each of the four rows of replies the row's type, or a type that
  is none of the four, which is no reply -/
  | advert (m : LinkMsg)
  | status (m : LinkMsg)
  | legacy (m : LinkMsg)
  | setpoint
  | setpointAck (m : LinkMsg)
  | failedAttempt
  | meteringTick
  | cut (slot : Nat)
  | idleRelease (slot : Nat)
  | passBegin
  | passCompletion
  | recoveryHoldExpiry
  deriving DecidableEq, Repr

/-- The command that applies one request of a frame of port `p`. -/
def Instr.ofRequest (p : PortId) : Request → Instr
  | .createOfftake b => .createOfftake p b
  | .amendOfftake b => .amendOfftake p b
  | .findOfftake t => .findOfftake p t
  | .readOfftake i => .readOfftake p i
  | .retireOfftake i t => .retireOfftake p i t
  | .renegotiate i t => .renegotiate p i t
  | .release i t => .release p i t
  | .setChannel b => .setChannel p b
  | .readChannel c => .readChannel p c
  | .setGrade b => .setGrade p b
  | .readGrade g => .readGrade p g
  | .setWindow b => .setWindow p b
  | .clearWindow w => .clearWindow p w
  | .readWindow w => .readWindow p w
  | .setPlant b => .setPlant p b
  | .readPlant => .readPlant p
  | .setCommitment v => .setCommitment p v
  | .readBalance => .readBalance p
  | .pushCurtail l => .pushCurtail p l
  | .popCurtail => .popCurtail p
  | .readCurtail => .readCurtail p
  | .openAccount n k t => .openAccount p n k t
  | .amendAccount n t => .amendAccount p n t
  | .readAccount n => .readAccount p n
  | .retireAccount n => .retireAccount p n
  | .bindAccount i t n => .bindAccount p i t n
  | .unbindAccount i t => .unbindAccount p i t
  | .setExportAccount n => .setExportAccount p n
  | .closePeriod n => .closePeriod p n
  | .takeStatement n => .takeStatement p n
  | .reprice n => .reprice p n
  | .writeTariff b => .writeTariff p b
  | .invalidateTariff t => .invalidateTariff p t
  | .readTariff t => .readTariff p t
  | .probeTariff m k => .probeTariff p m k
  | .setSeason n => .setSeason p n
  | .setBand b => .setBand p b
  | .readNotices => .readNotices p
  | .clearNotice k => .clearNotice p k
  | .setRouting q a c => .setRouting p q a c
  | .setNoticeMode m => .setNoticeMode p m
  | .restart => .restart p

end Sys2Proof
end

