-- ==== Sys2Proof/WellFormed.lean ====
section
/-! DEFINITION. Which commands can be written on the wire or name a place of the part: each figure fits the bytes R207
and R209 give it, and an event names a slot or a channel the part has. The meanings are total and need none of this;
the encodings do. -/

namespace Sys2Proof

/-- `v` fits `w` unsigned bytes. -/
def fitsBytes (w v : Nat) : Bool := decide (v < 256 ^ w)

/-- `v` fits `w` bytes in two's complement. -/
def fitsSigned (w : Nat) (v : Int) : Bool := decide (-(128 * 256 ^ (w - 1) : Int) ≤ v ∧ v < 128 * 256 ^ (w - 1))

/-- A channel number, or absent, which is sent as 0xFF (R207, section 11.4). -/
def fitsChannel (c : Option Nat) : Bool := decide (c.getD 0 < 255)

/-- A price, or absent, which is sent as 0xFFFFFFFF (section 11.4). -/
def fitsPrice (c : Option Nat) : Bool := decide (c.getD 0 < 4294967295)

/-- An account number, or absent, which is sent as 0 (section 11.4). -/
def fitsAccount (n : Option Nat) : Bool := decide (n ≠ some 0 ∧ n.getD 0 < 65536)

def OfftakeFigures.wf (f : OfftakeFigures) : Bool :=
  fitsBytes 1 f.cls && fitsBytes 1 f.addr && fitsBytes 4 f.rating && fitsBytes 1 f.grade && fitsBytes 4 f.minFiring
    && fitsBytes 4 f.maxFiring && fitsBytes 1 f.prio && fitsBytes 1 f.weight && fitsBytes 2 f.eff
    && fitsBytes 1 f.bind1 && fitsBytes 1 f.bind2 && fitsBytes 1 f.bind3

def ChannelBody.wf (b : ChannelBody) : Bool :=
  fitsBytes 1 b.channel && fitsBytes 1 b.kind && fitsBytes 2 b.span && fitsSigned 4 b.offset
    && fitsSigned 4 b.onThreshold && fitsSigned 4 b.offThreshold && fitsBytes 1 b.polarity && fitsSigned 4 b.substitute

def GradeBody.wf (b : GradeBody) : Bool :=
  fitsBytes 1 b.grade && fitsBytes 1 b.supplyLength && fitsBytes 1 b.place1 && fitsBytes 1 b.place2
    && fitsBytes 1 b.place3 && fitsBytes 1 b.place4 && fitsChannel b.cv && fitsChannel b.level && fitsSigned 4 b.low
    && fitsSigned 4 b.target && fitsSigned 4 b.high && fitsSigned 2 b.gain && fitsSigned 4 b.hMax

def WindowBody.wf (b : WindowBody) : Bool :=
  fitsBytes 1 b.window && fitsBytes 1 b.grade && fitsSigned 4 b.reserve

def PlantBody.wf (b : PlantBody) : Bool :=
  fitsBytes 2 b.interval && fitsBytes 2 b.recoveryHold && fitsBytes 2 b.tolerance && fitsBytes 4 b.deadband
    && fitsBytes 2 b.overdrawLimit && fitsBytes 1 b.lockoutLimit && fitsBytes 2 b.turbineEff
    && fitsBytes 2 b.extractionCeiling && fitsBytes 2 b.cp && fitsBytes 1 b.policy && fitsChannel b.loopFlow
    && fitsChannel b.loopSupply && fitsChannel b.loopReturn && fitsChannel b.houseLoad && fitsChannel b.exportChannel
    && fitsBytes 4 b.exportTolerance

def TariffBody.wf (b : TariffBody) : Bool :=
  fitsBytes 1 b.pair && fitsBytes 1 b.medium && fitsBytes 2 b.key && fitsBytes 2 b.mask && fitsBytes 1 b.season
    && fitsPrice b.primary && fitsPrice b.secondary

/-- The request can be written in a body of the length R209 gives its kind. -/
def Request.wf : Request → Bool
  | .createOfftake b => b.fig.wf
  | .amendOfftake b => fitsBytes 1 b.slot && b.fig.wf
  | .findOfftake _ => true
  | .readOfftake i => fitsBytes 1 i
  | .retireOfftake i _ => fitsBytes 1 i
  | .renegotiate i _ => fitsBytes 1 i
  | .release i _ => fitsBytes 1 i
  | .setChannel b => b.wf
  | .readChannel c => fitsBytes 1 c
  | .setGrade b => b.wf
  | .readGrade g => fitsBytes 1 g
  | .setWindow b => b.wf
  | .clearWindow w => fitsBytes 1 w
  | .readWindow w => fitsBytes 1 w
  | .setPlant b => b.wf
  | .readPlant => true
  | .setCommitment v => fitsSigned 4 v
  | .readBalance => true
  | .pushCurtail l => fitsBytes 1 l
  | .popCurtail => true
  | .readCurtail => true
  | .openAccount n k t => fitsBytes 2 n && fitsBytes 1 k && fitsBytes 2 t
  | .amendAccount n t => fitsBytes 2 n && fitsBytes 2 t
  | .readAccount n => fitsBytes 2 n
  | .retireAccount n => fitsBytes 2 n
  | .bindAccount i _ n => fitsBytes 1 i && fitsBytes 2 n
  | .unbindAccount i _ => fitsBytes 1 i
  | .setExportAccount n => fitsAccount n
  | .closePeriod n => fitsBytes 2 n
  | .takeStatement n => fitsBytes 2 n
  | .reprice n => fitsBytes 2 n
  | .writeTariff b => b.wf
  | .invalidateTariff t => fitsBytes 1 t
  | .readTariff t => fitsBytes 1 t
  | .probeTariff m k => fitsBytes 1 m && fitsBytes 2 k
  | .setSeason n => fitsBytes 1 n
  | .setBand b => fitsBytes 1 b
  | .readNotices => true
  | .clearNotice k => fitsBytes 1 k
  | .setRouting q _ _ => fitsBytes 1 q
  | .setNoticeMode m => fitsBytes 1 m
  | .restart => true

/-- The request a command applies, for the 42 rows that are requests. -/
def Instr.request? : Instr → Option (PortId × Request)
  | .createOfftake p b => some (p, .createOfftake b)
  | .amendOfftake p b => some (p, .amendOfftake b)
  | .findOfftake p t => some (p, .findOfftake t)
  | .readOfftake p i => some (p, .readOfftake i)
  | .retireOfftake p i t => some (p, .retireOfftake i t)
  | .renegotiate p i t => some (p, .renegotiate i t)
  | .release p i t => some (p, .release i t)
  | .setChannel p b => some (p, .setChannel b)
  | .readChannel p c => some (p, .readChannel c)
  | .setGrade p b => some (p, .setGrade b)
  | .readGrade p g => some (p, .readGrade g)
  | .setWindow p b => some (p, .setWindow b)
  | .clearWindow p w => some (p, .clearWindow w)
  | .readWindow p w => some (p, .readWindow w)
  | .setPlant p b => some (p, .setPlant b)
  | .readPlant p => some (p, .readPlant)
  | .setCommitment p v => some (p, .setCommitment v)
  | .readBalance p => some (p, .readBalance)
  | .pushCurtail p l => some (p, .pushCurtail l)
  | .popCurtail p => some (p, .popCurtail)
  | .readCurtail p => some (p, .readCurtail)
  | .openAccount p n k t => some (p, .openAccount n k t)
  | .amendAccount p n t => some (p, .amendAccount n t)
  | .readAccount p n => some (p, .readAccount n)
  | .retireAccount p n => some (p, .retireAccount n)
  | .bindAccount p i t n => some (p, .bindAccount i t n)
  | .unbindAccount p i t => some (p, .unbindAccount i t)
  | .setExportAccount p n => some (p, .setExportAccount n)
  | .closePeriod p n => some (p, .closePeriod n)
  | .takeStatement p n => some (p, .takeStatement n)
  | .reprice p n => some (p, .reprice n)
  | .writeTariff p b => some (p, .writeTariff b)
  | .invalidateTariff p t => some (p, .invalidateTariff t)
  | .readTariff p t => some (p, .readTariff t)
  | .probeTariff p m k => some (p, .probeTariff m k)
  | .setSeason p n => some (p, .setSeason n)
  | .setBand p b => some (p, .setBand b)
  | .readNotices p => some (p, .readNotices)
  | .clearNotice p k => some (p, .clearNotice k)
  | .setRouting p q a c => some (p, .setRouting q a c)
  | .setNoticeMode p m => some (p, .setNoticeMode m)
  | .restart p => some (p, .restart)
  | .fullReset => none
  | .resetRelease _ _ => none
  | .writeFrame _ _ => none
  | .readAnswer _ _ => none
  | .sampleMessage _ => none
  | .ageExpiry _ => none
  | .staleTimerExpiry _ => none
  | .quietHoldExpiry _ => none
  | .silenceExpiry _ => none
  | .poll => none
  | .pollTimeout => none
  | .advert _ => none
  | .status _ => none
  | .legacy _ => none
  | .setpoint => none
  | .setpointAck _ => none
  | .failedAttempt => none
  | .meteringTick => none
  | .cut _ => none
  | .idleRelease _ => none
  | .passBegin => none
  | .passCompletion => none
  | .recoveryHoldExpiry => none

/-- A reply's type byte is its row's, or none of the four listed (R211). -/
def LinkMsg.fitsRow (m : LinkMsg) (own : Byte) : Bool :=
  m.type == own || !([0x81#8, 0x82#8, 0x83#8, 0x84#8].contains m.type)

/-- The slot or channel an event command names is one the part has; a transaction and a reply stand in their own row. -/
def Instr.placeWf : Instr → Bool
  | .ageExpiry c => decide (c < Config.channels)
  | .staleTimerExpiry c => decide (c < Config.channels)
  | .quietHoldExpiry i => decide (i < Config.slots)
  | .silenceExpiry i => decide (i < Config.slots)
  | .cut i => decide (i < Config.slots)
  | .idleRelease i => decide (i < Config.slots)
  | .readAnswer _ x => x.code != 0x10#8
  | .advert m => m.fitsRow 0x81#8
  | .status m => m.fitsRow 0x82#8
  | .legacy m => m.fitsRow 0x83#8
  | .setpointAck m => m.fitsRow 0x84#8
  | _ => true

/-- A command is well formed when its request fits its body and its place exists. -/
def Instr.wf (i : Instr) : Bool := (i.request?.all fun r => r.2.wf) && i.placeWf

end Sys2Proof
end

