-- ==== Sys2Proof/Decode.lean ====
section
/-! DEFINITION. The wire: byte order and checks (section 11.4), request frames (R196, R207, R209), messages of the
offtake link (R211) and of the sample link (R212), each read and written. Reading is total on any bytes. -/

namespace Sys2Proof

/-! ### Bytes, most significant first (section 11.4) -/

/-- The figure that a row of bytes spells, most significant byte first. -/
def beNat (bs : List Byte) : Nat := bs.foldl (fun acc b => acc * 256 + b.toNat) 0

/-- `v` in `w` bytes, most significant first. -/
def beBytes : Nat → Nat → List Byte
  | 0, _ => []
  | w + 1, v => BitVec.ofNat 8 (v / 256 ^ w) :: beBytes w v

/-- The signed figure of `w` bytes in two's complement whose unsigned figure is `v`. -/
def signedOf (w v : Nat) : Int := if 2 * v < 256 ^ w then v else (v : Int) - 256 ^ w

/-- The unsigned figure of `w` bytes that stands for the signed figure `v` in two's complement. -/
def unsignedOf (w : Nat) (v : Int) : Nat := (v % (256 ^ w : Int)).toNat

/-- The next `w` bytes as a figure, and what follows them. -/
def takeNat (w : Nat) (bs : List Byte) : Option (Nat × List Byte) :=
  if bs.length < w then none else some (beNat (bs.take w), bs.drop w)

/-- The next `w` bytes as a signed figure. -/
def takeInt (w : Nat) (bs : List Byte) : Option (Int × List Byte) :=
  (takeNat w bs).map fun x => (signedOf w x.1, x.2)

/-- The next byte as a channel, 0xFF being an absent one. -/
def takeChannel (bs : List Byte) : Option (Option Nat × List Byte) :=
  (takeNat 1 bs).map fun x => (if x.1 = 255 then none else some x.1, x.2)

/-- The next four bytes as a price, 0xFFFFFFFF being an absent one. -/
def takePrice (bs : List Byte) : Option (Option Nat × List Byte) :=
  (takeNat 4 bs).map fun x => (if x.1 = 4294967295 then none else some x.1, x.2)

/-- The next two bytes as an account number, 0 being an absent one. -/
def takeAccount (bs : List Byte) : Option (Option Nat × List Byte) :=
  (takeNat 2 bs).map fun x => (if x.1 = 0 then none else some x.1, x.2)

def putInt (w : Nat) (v : Int) : List Byte := beBytes w (unsignedOf w v)
def putChannel (c : Option Nat) : List Byte := beBytes 1 (c.getD 255)
def putPrice (p : Option Nat) : List Byte := beBytes 4 (p.getD 4294967295)
def putAccount (n : Option Nat) : List Byte := beBytes 2 (n.getD 0)

/-! ### The checks (section 11.4, R207, R212) -/

/-- One bit of the 16-bit CRC with polynomial 0x1021, not reflected. -/
def crc16Bit (c : BitVec 16) : BitVec 16 := if c.msb then (c <<< 1) ^^^ 0x1021#16 else c <<< 1

/-- One byte of it. -/
def crc16Byte (c : BitVec 16) (b : Byte) : BitVec 16 :=
  Nat.repeat crc16Bit 8 (c ^^^ (b.zeroExtend 16 <<< 8))

/-- The frame check of the request ports and the offtake link: initial value 0xFFFF, no final XOR. -/
def crc16 (bs : List Byte) : BitVec 16 := bs.foldl crc16Byte 0xFFFF#16

/-- One bit of the 8-bit CRC with polynomial 0x07, not reflected. -/
def crc8Bit (c : BitVec 8) : BitVec 8 := if c.msb then (c <<< 1) ^^^ 0x07#8 else c <<< 1

def crc8Byte (c : BitVec 8) (b : Byte) : BitVec 8 := Nat.repeat crc8Bit 8 (c ^^^ b)

/-- The check of a sample message (R212): initial value 0. -/
def crc8 (bs : List Byte) : BitVec 8 := bs.foldl crc8Byte 0#8

/-- Bytes closed with their frame check. -/
def sealed (bs : List Byte) : List Byte := bs ++ beBytes 2 (crc16 bs).toNat

/-! ### Request bodies (R207, R209) -/

/-- The configuration figures in the order R12 and R209 give them. -/
def takeFigures (bs : List Byte) : Option (OfftakeFigures × List Byte) := do
  let (cls, bs) ← takeNat 1 bs
  let (addr, bs) ← takeNat 1 bs
  let (modes, bs) ← takeNat 1 bs
  let (rating, bs) ← takeNat 4 bs
  let (grade, bs) ← takeNat 1 bs
  let (minFiring, bs) ← takeNat 4 bs
  let (maxFiring, bs) ← takeNat 4 bs
  let (prio, bs) ← takeNat 1 bs
  let (weight, bs) ← takeNat 1 bs
  let (eff, bs) ← takeNat 2 bs
  let (bind1, bs) ← takeNat 1 bs
  let (bind2, bs) ← takeNat 1 bs
  let (bind3, bs) ← takeNat 1 bs
  some (⟨cls, addr, BitVec.ofNat 8 modes, rating, grade, minFiring, maxFiring, prio, weight, eff, bind1, bind2, bind3⟩,
    bs)

def putFigures (f : OfftakeFigures) : List Byte :=
  beBytes 1 f.cls ++ (beBytes 1 f.addr ++ (beBytes 1 f.modes.toNat ++ (beBytes 4 f.rating ++ (beBytes 1 f.grade ++
    (beBytes 4 f.minFiring ++ (beBytes 4 f.maxFiring ++ (beBytes 1 f.prio ++ (beBytes 1 f.weight ++
      (beBytes 2 f.eff ++ (beBytes 1 f.bind1 ++ (beBytes 1 f.bind2 ++ beBytes 1 f.bind3)))))))))))

/-- The next three bytes as a tag. -/
def takeTag (bs : List Byte) : Option (Tag × List Byte) := (takeNat 3 bs).map fun x => (BitVec.ofNat 24 x.1, x.2)

/-- The next two bytes as sixteen bits. -/
def takeBits16 (bs : List Byte) : Option (BitVec 16 × List Byte) :=
  (takeNat 2 bs).map fun x => (BitVec.ofNat 16 x.1, x.2)

def putTag (t : Tag) : List Byte := beBytes 3 t.toNat
def putBits16 (m : BitVec 16) : List Byte := beBytes 2 m.toNat

def takeCreate (bs : List Byte) : Option (CreateBody × List Byte) := do
  let (tag, bs) ← takeTag bs
  let (fig, bs) ← takeFigures bs
  some (⟨tag, fig⟩, bs)

def takeAmend (bs : List Byte) : Option (AmendBody × List Byte) := do
  let (slot, bs) ← takeNat 1 bs
  let (tag, bs) ← takeTag bs
  let (mask, bs) ← takeBits16 bs
  let (fig, bs) ← takeFigures bs
  some (⟨slot, tag, mask, fig⟩, bs)

def takeChannelBody (bs : List Byte) : Option (ChannelBody × List Byte) := do
  let (channel, bs) ← takeNat 1 bs
  let (kind, bs) ← takeNat 1 bs
  let (span, bs) ← takeNat 2 bs
  let (offset, bs) ← takeInt 4 bs
  let (onThreshold, bs) ← takeInt 4 bs
  let (offThreshold, bs) ← takeInt 4 bs
  let (polarity, bs) ← takeNat 1 bs
  let (substitute, bs) ← takeInt 4 bs
  some (⟨channel, kind, span, offset, onThreshold, offThreshold, polarity, substitute⟩, bs)

def putChannelBody (b : ChannelBody) : List Byte :=
  beBytes 1 b.channel ++ (beBytes 1 b.kind ++ (beBytes 2 b.span ++ (putInt 4 b.offset ++ (putInt 4 b.onThreshold ++
    (putInt 4 b.offThreshold ++ (beBytes 1 b.polarity ++ putInt 4 b.substitute))))))

def takeGradeBody (bs : List Byte) : Option (GradeBody × List Byte) := do
  let (grade, bs) ← takeNat 1 bs
  let (supplyLength, bs) ← takeNat 1 bs
  let (place1, bs) ← takeNat 1 bs
  let (place2, bs) ← takeNat 1 bs
  let (place3, bs) ← takeNat 1 bs
  let (place4, bs) ← takeNat 1 bs
  let (cv, bs) ← takeChannel bs
  let (level, bs) ← takeChannel bs
  let (low, bs) ← takeInt 4 bs
  let (target, bs) ← takeInt 4 bs
  let (high, bs) ← takeInt 4 bs
  let (gain, bs) ← takeInt 2 bs
  let (hMax, bs) ← takeInt 4 bs
  some (⟨grade, supplyLength, place1, place2, place3, place4, cv, level, low, target, high, gain, hMax⟩, bs)

def putGradeBody (b : GradeBody) : List Byte :=
  beBytes 1 b.grade ++ (beBytes 1 b.supplyLength ++ (beBytes 1 b.place1 ++ (beBytes 1 b.place2 ++ (beBytes 1 b.place3 ++
    (beBytes 1 b.place4 ++ (putChannel b.cv ++ (putChannel b.level ++ (putInt 4 b.low ++ (putInt 4 b.target ++
      (putInt 4 b.high ++ (putInt 2 b.gain ++ putInt 4 b.hMax)))))))))))

/-- The reserve is read as signed, since R95 raises a negative one to 0 (DEDUCED, log 11). -/
def takeWindowBody (bs : List Byte) : Option (WindowBody × List Byte) := do
  let (window, bs) ← takeNat 1 bs
  let (grade, bs) ← takeNat 1 bs
  let (value, bs) ← takeTag bs
  let (mask, bs) ← takeTag bs
  let (reserve, bs) ← takeInt 4 bs
  some (⟨window, grade, value, mask, reserve⟩, bs)

def putWindowBody (b : WindowBody) : List Byte :=
  beBytes 1 b.window ++ (beBytes 1 b.grade ++ (putTag b.value ++ (putTag b.mask ++ putInt 4 b.reserve)))

def takePlantBody (bs : List Byte) : Option (PlantBody × List Byte) := do
  let (interval, bs) ← takeNat 2 bs
  let (recoveryHold, bs) ← takeNat 2 bs
  let (tolerance, bs) ← takeNat 2 bs
  let (deadband, bs) ← takeNat 4 bs
  let (overdrawLimit, bs) ← takeNat 2 bs
  let (lockoutLimit, bs) ← takeNat 1 bs
  let (turbineEff, bs) ← takeNat 2 bs
  let (extractionCeiling, bs) ← takeNat 2 bs
  let (cp, bs) ← takeNat 2 bs
  let (policy, bs) ← takeNat 1 bs
  let (loopFlow, bs) ← takeChannel bs
  let (loopSupply, bs) ← takeChannel bs
  let (loopReturn, bs) ← takeChannel bs
  let (houseLoad, bs) ← takeChannel bs
  let (exportChannel, bs) ← takeChannel bs
  let (exportTolerance, bs) ← takeNat 4 bs
  some (⟨interval, recoveryHold, tolerance, deadband, overdrawLimit, lockoutLimit, turbineEff, extractionCeiling, cp,
    policy, loopFlow, loopSupply, loopReturn, houseLoad, exportChannel, exportTolerance⟩, bs)

def putPlantBody (b : PlantBody) : List Byte :=
  beBytes 2 b.interval ++ (beBytes 2 b.recoveryHold ++ (beBytes 2 b.tolerance ++ (beBytes 4 b.deadband ++
    (beBytes 2 b.overdrawLimit ++ (beBytes 1 b.lockoutLimit ++ (beBytes 2 b.turbineEff ++
      (beBytes 2 b.extractionCeiling ++ (beBytes 2 b.cp ++ (beBytes 1 b.policy ++ (putChannel b.loopFlow ++
        (putChannel b.loopSupply ++ (putChannel b.loopReturn ++ (putChannel b.houseLoad ++
          (putChannel b.exportChannel ++ beBytes 4 b.exportTolerance))))))))))))))

/-- A flag byte reads as set when it is not 0 (R210). -/
def takeTariffBody (bs : List Byte) : Option (TariffBody × List Byte) := do
  let (pair, bs) ← takeNat 1 bs
  let (medium, bs) ← takeNat 1 bs
  let (key, bs) ← takeNat 2 bs
  let (mask, bs) ← takeNat 2 bs
  let (season, bs) ← takeNat 1 bs
  let (shared, bs) ← takeNat 1 bs
  let (primary, bs) ← takePrice bs
  let (secondary, bs) ← takePrice bs
  some (⟨pair, medium, key, mask, season, decide (shared ≠ 0), primary, secondary⟩, bs)

def putTariffBody (b : TariffBody) : List Byte :=
  beBytes 1 b.pair ++ (beBytes 1 b.medium ++ (beBytes 2 b.key ++ (beBytes 2 b.mask ++ (beBytes 1 b.season ++
    (beBytes 1 b.shared.toNat ++ (putPrice b.primary ++ putPrice b.secondary))))))

/-! ### The request table (R209) -/

/-- The kind code of a request. -/
def Request.code : Request → Nat
  | .createOfftake _ => 0x01
  | .amendOfftake _ => 0x02
  | .findOfftake _ => 0x03
  | .readOfftake _ => 0x04
  | .retireOfftake _ _ => 0x05
  | .renegotiate _ _ => 0x06
  | .release _ _ => 0x07
  | .setChannel _ => 0x10
  | .readChannel _ => 0x11
  | .setGrade _ => 0x18
  | .readGrade _ => 0x19
  | .setWindow _ => 0x1A
  | .clearWindow _ => 0x1B
  | .readWindow _ => 0x1C
  | .setPlant _ => 0x20
  | .readPlant => 0x21
  | .setCommitment _ => 0x22
  | .readBalance => 0x23
  | .pushCurtail _ => 0x28
  | .popCurtail => 0x29
  | .readCurtail => 0x2A
  | .openAccount _ _ _ => 0x30
  | .amendAccount _ _ => 0x31
  | .readAccount _ => 0x32
  | .retireAccount _ => 0x33
  | .bindAccount _ _ _ => 0x34
  | .unbindAccount _ _ => 0x35
  | .setExportAccount _ => 0x36
  | .closePeriod _ => 0x37
  | .takeStatement _ => 0x38
  | .reprice _ => 0x39
  | .writeTariff _ => 0x40
  | .invalidateTariff _ => 0x41
  | .readTariff _ => 0x42
  | .probeTariff _ _ => 0x43
  | .setSeason _ => 0x44
  | .setBand _ => 0x45
  | .readNotices => 0x50
  | .clearNotice _ => 0x51
  | .setRouting _ _ _ => 0x52
  | .setNoticeMode _ => 0x53
  | .restart => 0x7F

/-- The body length the table gives a kind code; none for a code that is not in the table. -/
def bodyLength (code : Nat) : Option Nat :=
  match code with
  | 0x01 => some 26 | 0x02 => some 29 | 0x03 => some 3 | 0x04 => some 1 | 0x05 => some 4 | 0x06 => some 4
  | 0x07 => some 4 | 0x10 => some 21 | 0x11 => some 1 | 0x18 => some 26 | 0x19 => some 1 | 0x1A => some 12
  | 0x1B => some 1 | 0x1C => some 1 | 0x20 => some 29 | 0x21 => some 0 | 0x22 => some 4 | 0x23 => some 0
  | 0x28 => some 1 | 0x29 => some 0 | 0x2A => some 0 | 0x30 => some 5 | 0x31 => some 4 | 0x32 => some 2
  | 0x33 => some 2 | 0x34 => some 6 | 0x35 => some 4 | 0x36 => some 2 | 0x37 => some 2 | 0x38 => some 2
  | 0x39 => some 2 | 0x40 => some 16 | 0x41 => some 1 | 0x42 => some 1 | 0x43 => some 3 | 0x44 => some 1
  | 0x45 => some 1 | 0x50 => some 0 | 0x51 => some 1 | 0x52 => some 5 | 0x53 => some 1 | 0x7F => some 0
  | _ => none

/-- The slot and tag by which a request names a record. -/
def takeSlotTag (bs : List Byte) : Option (Nat × Tag × List Byte) := do
  let (slot, bs) ← takeNat 1 bs
  let (tag, bs) ← takeTag bs
  some (slot, tag, bs)

/-- The request whose kind code is `code` and whose body begins `bs`. -/
def takeRequestBody (code : Nat) (bs : List Byte) : Option Request :=
  match code with
  | 0x01 => (takeCreate bs).map (.createOfftake ·.1)
  | 0x02 => (takeAmend bs).map (.amendOfftake ·.1)
  | 0x03 => (takeTag bs).map (.findOfftake ·.1)
  | 0x04 => (takeNat 1 bs).map (.readOfftake ·.1)
  | 0x05 => (takeSlotTag bs).map fun x => .retireOfftake x.1 x.2.1
  | 0x06 => (takeSlotTag bs).map fun x => .renegotiate x.1 x.2.1
  | 0x07 => (takeSlotTag bs).map fun x => .release x.1 x.2.1
  | 0x10 => (takeChannelBody bs).map (.setChannel ·.1)
  | 0x11 => (takeNat 1 bs).map (.readChannel ·.1)
  | 0x18 => (takeGradeBody bs).map (.setGrade ·.1)
  | 0x19 => (takeNat 1 bs).map (.readGrade ·.1)
  | 0x1A => (takeWindowBody bs).map (.setWindow ·.1)
  | 0x1B => (takeNat 1 bs).map (.clearWindow ·.1)
  | 0x1C => (takeNat 1 bs).map (.readWindow ·.1)
  | 0x20 => (takePlantBody bs).map (.setPlant ·.1)
  | 0x21 => some .readPlant
  | 0x22 => (takeInt 4 bs).map (.setCommitment ·.1)
  | 0x23 => some .readBalance
  | 0x28 => (takeNat 1 bs).map (.pushCurtail ·.1)
  | 0x29 => some .popCurtail
  | 0x2A => some .readCurtail
  | 0x30 => do
      let (number, bs) ← takeNat 2 bs
      let (kind, bs) ← takeNat 1 bs
      let (key, _) ← takeNat 2 bs
      some (.openAccount number kind key)
  | 0x31 => do
      let (number, bs) ← takeNat 2 bs
      let (key, _) ← takeNat 2 bs
      some (.amendAccount number key)
  | 0x32 => (takeNat 2 bs).map (.readAccount ·.1)
  | 0x33 => (takeNat 2 bs).map (.retireAccount ·.1)
  | 0x34 => do
      let (slot, tag, bs) ← takeSlotTag bs
      let (number, _) ← takeNat 2 bs
      some (.bindAccount slot tag number)
  | 0x35 => (takeSlotTag bs).map fun x => .unbindAccount x.1 x.2.1
  | 0x36 => (takeAccount bs).map (.setExportAccount ·.1)
  | 0x37 => (takeNat 2 bs).map (.closePeriod ·.1)
  | 0x38 => (takeNat 2 bs).map (.takeStatement ·.1)
  | 0x39 => (takeNat 2 bs).map (.reprice ·.1)
  | 0x40 => (takeTariffBody bs).map (.writeTariff ·.1)
  | 0x41 => (takeNat 1 bs).map (.invalidateTariff ·.1)
  | 0x42 => (takeNat 1 bs).map (.readTariff ·.1)
  | 0x43 => do
      let (medium, bs) ← takeNat 1 bs
      let (key, _) ← takeNat 2 bs
      some (.probeTariff medium key)
  | 0x44 => (takeNat 1 bs).map (.setSeason ·.1)
  | 0x45 => (takeNat 1 bs).map (.setBand ·.1)
  | 0x50 => some .readNotices
  | 0x51 => (takeNat 1 bs).map (.clearNotice ·.1)
  | 0x52 => do
      let (port, bs) ← takeNat 1 bs
      let (setMask, bs) ← takeBits16 bs
      let (clearMask, _) ← takeBits16 bs
      some (.setRouting port setMask clearMask)
  | 0x53 => (takeNat 1 bs).map (.setNoticeMode ·.1)
  | 0x7F => some .restart
  | _ => none

/-- The body of a request. -/
def Request.body : Request → List Byte
  | .createOfftake b => putTag b.tag ++ putFigures b.fig
  | .amendOfftake b => beBytes 1 b.slot ++ (putTag b.tag ++ (putBits16 b.mask ++ putFigures b.fig))
  | .findOfftake t => putTag t
  | .readOfftake i => beBytes 1 i
  | .retireOfftake i t => beBytes 1 i ++ putTag t
  | .renegotiate i t => beBytes 1 i ++ putTag t
  | .release i t => beBytes 1 i ++ putTag t
  | .setChannel b => putChannelBody b
  | .readChannel c => beBytes 1 c
  | .setGrade b => putGradeBody b
  | .readGrade g => beBytes 1 g
  | .setWindow b => putWindowBody b
  | .clearWindow w => beBytes 1 w
  | .readWindow w => beBytes 1 w
  | .setPlant b => putPlantBody b
  | .readPlant => []
  | .setCommitment v => putInt 4 v
  | .readBalance => []
  | .pushCurtail l => beBytes 1 l
  | .popCurtail => []
  | .readCurtail => []
  | .openAccount n k t => beBytes 2 n ++ (beBytes 1 k ++ beBytes 2 t)
  | .amendAccount n t => beBytes 2 n ++ beBytes 2 t
  | .readAccount n => beBytes 2 n
  | .retireAccount n => beBytes 2 n
  | .bindAccount i t n => beBytes 1 i ++ (putTag t ++ beBytes 2 n)
  | .unbindAccount i t => beBytes 1 i ++ putTag t
  | .setExportAccount n => putAccount n
  | .closePeriod n => beBytes 2 n
  | .takeStatement n => beBytes 2 n
  | .reprice n => beBytes 2 n
  | .writeTariff b => putTariffBody b
  | .invalidateTariff t => beBytes 1 t
  | .readTariff t => beBytes 1 t
  | .probeTariff m k => beBytes 1 m ++ beBytes 2 k
  | .setSeason n => beBytes 1 n
  | .setBand b => beBytes 1 b
  | .readNotices => []
  | .clearNotice k => beBytes 1 k
  | .setRouting q a c => beBytes 1 q ++ (putBits16 a ++ putBits16 c)
  | .setNoticeMode m => beBytes 1 m
  | .restart => []

/-- A request as it stands in a frame: kind code, body length, body (R207). -/
def Request.bytes (r : Request) : List Byte := beBytes 1 r.code ++ (beBytes 1 r.body.length ++ r.body)

/-! ### Request frames (R196, R207) -/

/-- Reads `n` requests that fill `bs` exactly: each kind code in the table, each body of its kind's length. -/
def takeRequests : Nat → List Byte → Option (List Request)
  | 0, bs => if bs = [] then some [] else none
  | n + 1, bs => do
      let (code, bs) ← takeNat 1 bs
      let (len, bs) ← takeNat 1 bs
      if bodyLength code = some len ∧ len ≤ bs.length then
        let r ← takeRequestBody code (bs.take len)
        let rs ← takeRequests n (bs.drop len)
        some (r :: rs)
      else none

/-- A frame that is not malformed: its sequence tag and its requests. -/
structure Frame where
  seqTag : Nat
  requests : List Request
  deriving DecidableEq, Repr

/-- RESTART stands alone in its frame (R196, R199). -/
def restartAlone (rs : List Request) : Bool := !rs.contains .restart || rs.length = 1

/-- The frame that the bytes after a write-frame code hold, or none when it is malformed: the checks of R196. -/
def readFrame (bytes : List Byte) : Option Frame := do
  let (len, rest) ← takeNat 2 bytes
  if len < 6 ∨ 256 < len ∨ len ≠ bytes.length then none
  else if crc16 (bytes.take (len - 2)) ≠ BitVec.ofNat 16 (beNat (bytes.drop (len - 2))) then none
  else
    let (seqTag, rest) ← takeNat 1 rest
    let (count, rest) ← takeNat 1 rest
    if count = 0 ∨ 8 < count then none
    else
      let rs ← takeRequests count (rest.take (len - 6))
      if restartAlone rs then some ⟨seqTag, rs⟩ else none

/-- The sequence tag echoed in the answer, 0 when the frame was shorter than 3 bytes (R208). -/
def frameTag (bytes : List Byte) : Nat := match bytes[2]? with
  | some b => b.toNat
  | none => 0

/-- The requests of a frame, one behind the other. -/
def requestBytes (rs : List Request) : List Byte := (rs.map Request.bytes).flatten

/-- The bytes of a frame, its check included. -/
def Frame.bytes (f : Frame) : List Byte :=
  sealed (beBytes 2 ((requestBytes f.requests).length + 6) ++ (beBytes 1 f.seqTag ++
    (beBytes 1 f.requests.length ++ requestBytes f.requests)))

/-- The frame can be written and is not malformed. -/
def Frame.wf (f : Frame) : Bool :=
  fitsBytes 1 f.seqTag && decide (1 ≤ f.requests.length) && decide (f.requests.length ≤ 8) && f.requests.all Request.wf
    && decide ((requestBytes f.requests).length + 6 ≤ 256) && restartAlone f.requests

/-! ### Messages of the offtake link (R211) -/

/-- The type byte of each message. -/
inductive LinkType where
  | poll | setpoint | advert | status | legacy | setpointAck
  deriving DecidableEq, Repr

def LinkType.code : LinkType → Byte
  | .poll => 0x01#8
  | .setpoint => 0x02#8
  | .advert => 0x81#8
  | .status => 0x82#8
  | .legacy => 0x83#8
  | .setpointAck => 0x84#8

/-- The message is of type `t` and its frame check passes; the check of a message of another type fails (R211). -/
def LinkMsg.checkPasses (t : LinkType) (m : LinkMsg) : Bool :=
  m.type == t.code && m.check == crc16 (m.addr :: m.type :: m.payload)

/-- A message with the frame check its bytes call for. -/
def LinkMsg.closed (t : LinkType) (addr : Byte) (payload : List Byte) : LinkMsg :=
  ⟨addr, t.code, payload, crc16 (addr :: t.code :: payload)⟩

/-- The bytes of a message the part sends. -/
def linkBytes (t : LinkType) (addr : Byte) (payload : List Byte) : List Byte := sealed (addr :: t.code :: payload)

/-- What an ADVERT says: the supported modes of bits 0 to 5, the ack flag of bit 6, the rating. -/
structure AdvertData where
  modes : BitVec 6
  ack : Bool
  rating : Nat
  deriving DecidableEq, Repr

/-- What a STATUS or a LEGACY reply says. -/
structure CallData where
  call : Nat
  trip : Bool
  deriving DecidableEq, Repr

/-- An ADVERT that passes its frame check and has its type's length. Bit 7 of its mode byte, to which R211 gives no
meaning, is not read (DESIGN CHOICE, log 12). -/
def readAdvert (m : LinkMsg) : Option AdvertData :=
  match m.payload with
  | [b, r3, r2, r1, r0] =>
    if m.checkPasses .advert then some ⟨b.setWidth 6, b.getLsbD 6, beNat [r3, r2, r1, r0]⟩ else none
  | _ => none

/-- A STATUS: the call, then flags with bit 0 TRIP. Bits 1 to 7 of the flags, to which R211 gives no meaning, are not
read, and the reply is valid whatever they are (DESIGN CHOICE, log 12). -/
def readStatus (m : LinkMsg) : Option CallData :=
  match m.payload with
  | [c3, c2, c1, c0, f] => if m.checkPasses .status then some ⟨beNat [c3, c2, c1, c0], f.getLsbD 0⟩ else none
  | _ => none

/-- A LEGACY reply: flags with bit 0 set for trip, then the call. Bits 1 to 7 of the flags are not read, and the reply is
valid whatever they are (DESIGN CHOICE, log 12). -/
def readLegacy (m : LinkMsg) : Option CallData :=
  match m.payload with
  | [f, c3, c2, c1, c0] => if m.checkPasses .legacy then some ⟨beNat [c3, c2, c1, c0], f.getLsbD 0⟩ else none
  | _ => none

/-- A SETPOINT_ACK: the echoed grant. -/
def readAck (m : LinkMsg) : Option Nat :=
  match m.payload with
  | [g3, g2, g1, g0] => if m.checkPasses .setpointAck then some (beNat [g3, g2, g1, g0]) else none
  | _ => none

def writeAdvert (addr : Byte) (a : AdvertData) : LinkMsg :=
  .closed .advert addr
    ((a.modes.setWidth 8 ||| (if a.ack then 0x40#8 else 0#8)) :: beBytes 4 a.rating)

def writeStatus (addr : Byte) (c : CallData) : LinkMsg :=
  .closed .status addr (beBytes 4 c.call ++ [if c.trip then 1#8 else 0#8])

def writeLegacy (addr : Byte) (c : CallData) : LinkMsg :=
  .closed .legacy addr ((if c.trip then 1#8 else 0#8) :: beBytes 4 c.call)

def writeAck (addr : Byte) (grant : Nat) : LinkMsg := .closed .setpointAck addr (beBytes 4 grant)

/-! ### Sample messages (R212) -/

/-- The front-end status of a sample message; the fourth code, 3, is no status (R64). -/
inductive FrontEnd where
  | good | overrange | fault
  deriving DecidableEq, Repr

/-- A sample message that passes its check: the channel, the status and the raw reading (R64, R212). -/
structure SampleData where
  channel : Nat
  status : FrontEnd
  raw : Int
  deriving DecidableEq, Repr

/-- The front-end status of a code (R212). -/
def frontEndOf : Nat → Option FrontEnd
  | 0 => some .good
  | 1 => some .overrange
  | 2 => some .fault
  | _ => none

def FrontEnd.code : FrontEnd → Nat
  | .good => 0
  | .overrange => 1
  | .fault => 2

/-- A message of four bytes whose check passes and whose status is not 3. -/
def readSample (bytes : List Byte) : Option SampleData :=
  match bytes with
  | [b0, b1, b2, b3] =>
    if b3 = crc8 [b0, b1, b2] then
      (frontEndOf (b0.toNat / 64)).map fun st => ⟨b0.toNat % 64, st, signedOf 2 (beNat [b1, b2])⟩
    else none
  | _ => none

def writeSample (d : SampleData) : List Byte :=
  let head := BitVec.ofNat 8 (d.status.code * 64 + d.channel) :: putInt 2 d.raw
  head ++ [crc8 head]

/-! ### Words of the opcode table -/

/-- No row of spec/opcode_table.json gives bits, so no word spells a command (DEDUCED, log 20). -/
def decodeTableWord (_nbits _w : Nat) : Option Instr := none

end Sys2Proof
end

