-- ==== Sys2Proof/Machine/State.lean ====
section
/-! DEFINITION. The state of the part: every record, list, timer, flag and mode the spec gives it, as plain data; the
values a full reset leaves. INVENTORY.md lists each with its rule. -/

namespace Sys2Proof.Machine

open Sys2Proof

/-! ### Names of the spec -/

/-- R3. -/
inductive OffClass where
  | boiler | heatSub
  deriving DecidableEq, Repr

/-- The six modes, in the order of their bit numbers (section 11.4). -/
inductive Mode where
  | blend | rich | lean | fixed | heatMod | heatFixed
  deriving DecidableEq, Repr

/-- The three gas grades. -/
inductive Grade where
  | tg | og | vg
  deriving DecidableEq, Repr

/-- Section 2.1. -/
inductive LinkState where
  | quiet | listen | confirm | bound | legacyBound
  deriving DecidableEq, Repr

/-- Section 1.4; a VACANT slot holds no record. -/
inductive Supply where
  | held | active | shed | cut | lockout
  deriving DecidableEq, Repr

/-- R66. -/
inductive ChannelKind where
  | noKind | gasFlow | cv | temp | waterFlow | level | power
  deriving DecidableEq, Repr

/-- R66. -/
inductive Polarity where
  | fixed | auto
  deriving DecidableEq, Repr

/-- R66. -/
inductive Activity where
  | idle | flowing
  deriving DecidableEq, Repr

/-- R66. -/
inductive Condition where
  | normal | stale | failed
  deriving DecidableEq, Repr

/-- R101. -/
inductive Policy where
  | heatFirst | exportFirst
  deriving DecidableEq, Repr

/-- R139. -/
inductive Origin where
  | auto | manual
  deriving DecidableEq, Repr

/-- R139. -/
inductive Cause where
  | gas | heat | gasAndHeat | operator
  deriving DecidableEq, Repr

/-- R159. -/
inductive AccountKind where
  | heatSale | gasSale | exportKind
  deriving DecidableEq, Repr

/-- R180. -/
inductive Medium where
  | gas | heat | exportMedium
  deriving DecidableEq, Repr

/-- R181. -/
inductive Band where
  | primary | secondary
  deriving DecidableEq, Repr

/-- R200. -/
inductive ClearMode where
  | readClears | checked
  deriving DecidableEq, Repr

/-- R195. -/
inductive PortStatus where
  | idle | executing | answerReady
  deriving DecidableEq, Repr

/-- R197. -/
inductive Right where
  | operate | maintain | settle
  deriving DecidableEq, Repr

/-- The result codes of R208, but MALFORMED, which is a frame's result. -/
inductive Result where
  | ok | noRight | cancelled | noSuchSlot | noSuchTag | duplicateTag | duplicateAddress | tableFull | badValue
  | badChannel | wrongState | wrongKind | retiring | notManual | reserveLimit | noAccount | duplicateAccount
  | accountInUse | accountNotSettled | statementPending | noStatement | noTariff | stillStanding
  deriving DecidableEq, Repr

/-- The notice kinds, in the order of their codes (R200). -/
inductive NoticeKind where
  | noMode | linkDown | cut | lockout | curtailUp | curtailDown | exportShort | reserve | meterStale | meterFailed
  | meterReversed | tariffMiss | tariffOverlap
  deriving DecidableEq, Repr

/-- One value for each grade. -/
structure PerGrade (α : Type) where
  tg : α
  og : α
  vg : α
  deriving DecidableEq, Repr

/-! ### The Offtake Register -/

/-- A draw split (R6). -/
structure Split where
  vg : Nat
  tg : Nat
  og : Nat
  deriving DecidableEq, Repr

/-- An offtake record: R3 to R8, section 1.4, and the Link Controller's items of R28 (timers in milliseconds,
DESIGN CHOICE, log 7). -/
@[ext]
structure Offtake where
  tag : Tag
  cls : OffClass
  addr : Nat
  permitted : BitVec 6
  rating : Nat
  grade : Option Grade
  minFiring : Nat
  maxFiring : Nat
  prio : Nat
  weight : Nat
  eff : Option Nat
  account : Option Nat
  retiring : Bool
  bind1 : Nat
  bind2 : Nat
  bind3 : Option Nat
  link : LinkState
  mode : Option Mode
  advert : Option AdvertData
  call : Nat
  ackGrant : Nat
  grant : Nat
  split : Option Split
  delivered : Nat
  overdrawTimer : Nat
  idleTimer : Nat
  overdrawCount : Nat
  noMode : Bool
  absent : Bool
  legacy : Bool
  trip : Bool
  estimated : Bool
  supply : Supply
  quietMs : Nat
  silenceMs : Nat
  confirmCount : Nat
  legacyRun : Nat
  deriving DecidableEq, Repr

/-! ### The Offtake Link Controller -/

/-- An entry of the setpoint queue (R46); `close` is its kind. -/
structure SetpointEntry where
  slot : Nat
  close : Bool
  attempts : Nat
  inFlight : Bool
  deriving DecidableEq, Repr

/-- The exchange in flight on the offtake link (R25): a poll of the slot at an address, marked when the slot has been
freed since (R27), or a setpoint with the value sent (R50), abandoned when the record's link has lapsed (R29). -/
inductive Exchange where
  | poll (slot addr : Nat) (freed : Bool)
  | setpoint (slot addr sent : Nat) (abandoned : Bool)
  deriving DecidableEq, Repr

/-! ### The Meter Channel Unit -/

/-- A channel record (R66), its age and stale timer in milliseconds (DESIGN CHOICE, log 7). -/
structure Channel where
  kind : ChannelKind
  span : Nat
  offset : Int
  onThreshold : Nat
  offThreshold : Nat
  polarity : Polarity
  substitute : Int
  reversed : Bool
  value : Int
  activity : Option Activity
  condition : Condition
  overrange : Bool
  ageMs : Nat
  staleMs : Nat
  goodRun : Nat
  negativeRun : Nat
  deriving DecidableEq, Repr

/-! ### The Grade Balance Unit -/

/-- A grade's last pass results (R84). -/
structure GradeResults where
  supply : Nat
  correction : Int
  available : Nat
  granted : Nat
  unallocated : Nat
  deriving DecidableEq, Repr

/-- A grade record (R83, R84). -/
structure GradeRecord where
  supplyChannels : List Nat
  cv : Option Nat
  level : Option Nat
  low : Nat
  target : Nat
  high : Nat
  gain : Nat
  hMax : Nat
  reserveTotal : Nat
  inReserve : Bool
  last : GradeResults
  deriving DecidableEq, Repr

/-- A reservation window (R90). -/
structure Window where
  valid : Bool
  grade : Grade
  value : BitVec 24
  mask : BitVec 24
  reserve : Nat
  deriving DecidableEq, Repr

/-! ### The Allocation Engine -/

/-- The plant record (R101). -/
structure Plant where
  interval : Nat
  recoveryHold : Nat
  tolerance : Nat
  deadband : Nat
  overdrawLimit : Nat
  lockoutLimit : Nat
  turbineEff : Nat
  extractionCeiling : Nat
  cp : Nat
  policy : Policy
  loopFlow : Option Nat
  loopSupply : Option Nat
  loopReturn : Option Nat
  houseLoad : Option Nat
  exportChannel : Option Nat
  exportTolerance : Nat
  commitment : Nat
  exportAccount : Option Nat
  deriving DecidableEq, Repr

/-- What a pass reads of a record (R106, part 3). -/
structure RecordView where
  slot : Nat
  supply : Supply
  cls : OffClass
  prio : Nat
  mode : Option Mode
  grade : Option Grade
  tag : Tag
  weight : Nat
  eff : Nat
  effCall : Nat
  effMin : Nat
  effMax : Nat
  deriving DecidableEq, Repr

/-- What a pass is handed of a grade (R89). -/
structure GradeView where
  supply : Nat
  correction : Int
  available : Nat
  inReserve : Bool
  deriving DecidableEq, Repr

/-- The readings of the recovery loop (R124). -/
structure LoopView where
  flow : Int
  supply : Int
  return_ : Int
  deriving DecidableEq, Repr

/-- A pass's view (R106): parts 2 to 5 of its beginning, and the length of the interval that began with it. -/
structure View where
  level : Nat
  policy : Policy
  records : List RecordView
  grades : PerGrade GradeView
  windows : List Window
  turbineEff : Nat
  extractionCeiling : Nat
  cp : Nat
  exportTolerance : Nat
  commitment : Nat
  loop : Option LoopView
  houseLoad : Nat
  interval : Nat
  deriving DecidableEq, Repr

/-- An entry of the pass result table (R109). -/
structure PassEntry where
  slot : Nat
  grant : Nat
  split : Option Split
  void : Bool
  deriving DecidableEq, Repr

/-- The pass in flight: its view and its result table. -/
structure Pass where
  view : View
  table : List PassEntry
  deriving DecidableEq, Repr

/-- The balance figures (R123). -/
structure Balance where
  steam : Nat
  recovered : Nat
  extractionMax : Nat
  extractionCap : Nat
  heatPool : Nat
  heatGranted : Nat
  extraction : Nat
  turbine : Nat
  houseLoad : Nat
  exportCeiling : Nat
  commitment : Nat
  shortfall : Nat
  policy : Policy
  level : Nat
  deriving DecidableEq, Repr

/-! ### The Curtailment Controller -/

/-- A curtailment context (R139). -/
structure Context where
  level : Nat
  origin : Origin
  cause : Cause
  shedList : List Nat
  deriving DecidableEq, Repr

/-! ### The Account Table -/

/-- The three figures of one band (R160). -/
structure BandFigures where
  energy : Nat
  charge : Nat
  unpriced : Nat
  deriving DecidableEq, Repr

/-- The flags of an account (R162). -/
structure AccountFlags where
  estimated : Bool
  overlap : Bool
  unpriced : Bool
  saturated : Bool
  deriving DecidableEq, Repr

/-- A statement (R160); the deviations are present for an EXPORT account. -/
structure Statement where
  period : Nat
  primary : BandFigures
  secondary : BandFigures
  shortfall : Option Nat
  surplus : Option Nat
  flags : AccountFlags
  deriving DecidableEq, Repr

/-- An account (R160). The deviation figures and residues are held by EXPORT accounts and absent in the others. -/
structure Account where
  number : Nat
  kind : AccountKind
  key : BitVec 12
  boundCount : Nat
  period : Nat
  primary : BandFigures
  secondary : BandFigures
  shortfall : Option Nat
  surplus : Option Nat
  residue : Nat
  shortfallResidue : Option Nat
  surplusResidue : Option Nat
  flags : AccountFlags
  statement : Option Statement
  deriving DecidableEq, Repr

/-! ### The Tariff Match Table -/

/-- A tariff pair (R180). -/
structure TariffPair where
  valid : Bool
  medium : Medium
  key : BitVec 12
  mask : BitVec 12
  season : Nat
  shared : Bool
  primary : Option Nat
  secondary : Option Nat
  deriving DecidableEq, Repr

/-! ### The Notice Table -/

/-- An entry of the Notice Table (R200). -/
structure NoticeEntry where
  pendingA : Bool
  pendingB : Bool
  subject : Nat
  count : Nat
  routeA : Bool
  routeB : Bool
  deriving DecidableEq, Repr

/-- What READ_NOTICES returns of an entry (R203). -/
structure NoticeCopy where
  kind : NoticeKind
  subject : Nat
  count : Nat
  standing : Bool
  deriving DecidableEq, Repr

/-! ### Answers -/

/-- What READ_OFFTAKE returns (R18): the record, none for a VACANT slot, and the figures of section 1.3. -/
structure OfftakeCopy where
  record : Option Offtake
  effMin : Nat
  effMax : Nat
  effCall : Nat
  deriving DecidableEq, Repr

/-- What PROBE_TARIFF returns (R189). -/
structure Probe where
  season : Nat
  band : Band
  matched : List Nat
  chosen : Option Nat
  overlap : Bool
  halves : Option (Option Nat × Option Nat)
  primaryAnswer : Option Nat
  secondaryAnswer : Option Nat
  deriving DecidableEq, Repr

/-- The answer body of a request: a copy of what its rule lists. -/
inductive AnswerBody where
  | empty
  | slotNumber (slot : Nat)
  | found (slot : Nat) (copy : OfftakeCopy)
  | offtake (copy : OfftakeCopy)
  | outcome (retiring : Bool)
  | channel (c : Channel) (effective : Int)
  | grade (g : GradeRecord) (limit : Nat) (conditions : List Condition)
  | window (w : Window)
  | plant (p : Plant) (inFlight : Bool) (seq : Nat)
  | balance (b : Balance) (seq : Nat) (flow supply return_ house : Option Condition)
  | curtail (level : Nat) (stack : List Context) (queue : List Nat) (timer hold : Nat)
  | account (a : Account) (isExport : Bool) (band : Band)
  | period (number : Nat)
  | statement (st : Statement)
  | pair (t : TariffPair)
  | probe (pr : Probe)
  | notices (ns : List NoticeCopy)
  deriving DecidableEq, Repr

/-- The answer of one request in an answer frame (R208). -/
structure RequestAnswer where
  code : Nat
  result : Result
  body : AnswerBody
  deriving DecidableEq, Repr

/-! ### The request ports -/

/-- A request port (R195): its status; the frame in progress (sequence tag, request count, the requests not yet
applied); the answer it builds or holds. `settled` is the state it was left in by the last transaction, which a
transaction that has begun since may have read as its state byte. `miso` is the model's own: the bytes shifted out in
the last transaction. -/
structure Port where
  status : PortStatus
  seqTag : Nat
  count : Nat
  malformed : Bool
  remaining : List Request
  answers : List RequestAnswer
  settled : PortStatus
  miso : List Byte
  deriving DecidableEq, Repr

/-! ### Stops -/

/-- No command of the part stops it with a fault: what cannot be done is refused with a result code (R198) or
discarded (R26, R64). The type has no constructor, so nothing raises it. -/
inductive Fault
  deriving DecidableEq, Repr

/-- Raised by an arm of exec for a command that has no meaning yet; no arm raises it. Safe: the machine stops. -/
inductive Refusal where
  | notModelled (mnemonic : String)
  deriving DecidableEq, Repr

/-! ### The state -/

/-- The whole part, and the queue of commands waiting for it. -/
@[ext]
structure State where
  /-- RESETn is low or power is not good (R205) -/
  inReset : Bool
  /-- the MAINT_EN level latched at the last release (R197) -/
  maintEn : Bool
  portA : Port
  portB : Port
  slots : Vector (Option Offtake) 24
  pollCursor : Nat
  exchange : Option Exchange
  /-- time since the message of the exchange in flight was sent (R26, R51), in milliseconds -/
  replyMs : Nat
  /-- the exchange that ended last was a poll exchange (R25) -/
  afterPoll : Bool
  setpointQueue : List SetpointEntry
  /-- the model's own: the message last sent on LTX (R211) -/
  ltx : List Byte
  channels : Vector Channel 48
  grades : PerGrade GradeRecord
  windows : Vector Window 4
  plant : Plant
  /-- time since the last expiry of the pass timer (R105), in milliseconds -/
  passMs : Nat
  /-- the length of the running interval, in seconds (R105) -/
  passLength : Nat
  /-- the pass in flight; the engine is IN_FLIGHT exactly while there is one (R105) -/
  pass : Option Pass
  passSeq : Nat
  balance : Balance
  /-- the curtailment stack, TOP FIRST (R139) -/
  stack : List Context
  /-- the readmission queue, head first (R140) -/
  readmission : List Nat
  recoveryTimer : Nat
  accounts : Vector (Option Account) 32
  band : Band
  pairs : Vector TariffPair 16
  season : Nat
  notices : Vector NoticeEntry 13
  clearMode : ClearMode
  /-- time since the last metering tick (R171), in milliseconds -/
  tickMs : Nat
  /-- the model's own: the commands waiting, first in first out -/
  pending : List Instr
  deriving DecidableEq, Repr

/-! ### Full reset -/

/-- A port that is IDLE with no frame or answer (R205). -/
def Port.reset : Port := ⟨.idle, 0, 0, false, [], [], .idle, []⟩

/-- R81. -/
def Channel.reset : Channel where
  kind := .noKind
  span := 16384
  offset := 0
  onThreshold := 0
  offThreshold := 0
  polarity := .fixed
  substitute := 0
  reversed := false
  value := 0
  activity := none
  condition := .stale
  overrange := false
  ageMs := 0
  staleMs := 0
  goodRun := 0
  negativeRun := 0

/-- R84, R99. -/
def GradeResults.reset : GradeResults := ⟨0, 0, 0, 0, 0⟩

/-- R99. -/
def GradeRecord.reset : GradeRecord := ⟨[], none, none, 0, 0, 0, 0, 0, 0, false, .reset⟩

/-- R99. -/
def Window.reset : Window := ⟨false, .tg, 0, 0, 0⟩

/-- R101, R121: the defaults. -/
def Plant.reset : Plant where
  interval := 2
  recoveryHold := 60
  tolerance := 50
  deadband := 2000
  overdrawLimit := 90
  lockoutLimit := 3
  turbineEff := 330
  extractionCeiling := 600
  cp := 4190
  policy := .heatFirst
  loopFlow := none
  loopSupply := none
  loopReturn := none
  houseLoad := none
  exportChannel := none
  exportTolerance := 5000
  commitment := 0
  exportAccount := none

/-- R137. -/
def Balance.reset : Balance := ⟨0, 0, 0, 0, 0, 0, 0, 0, 0, 0, 0, 0, .heatFirst, 0⟩

/-- R193. -/
def TariffPair.reset : TariffPair := ⟨false, .gas, 0, 0, 0, false, none, none⟩

/-- R206: routed to A, and to B as well for the two tariff kinds. -/
def NoticeEntry.reset (toB : Bool) : NoticeEntry := ⟨false, false, 0, 0, true, toB⟩

/-- R206, by kind code. -/
def noticesReset : Vector NoticeEntry 13 :=
  #v[.reset false, .reset false, .reset false, .reset false, .reset false, .reset false, .reset false, .reset false,
    .reset false, .reset false, .reset false, .reset true, .reset true]

/-- The machine right after the release of a full reset with the given strap levels (R205, R206). -/
def State.released (maintEn noticeMode : Bool) : State where
  inReset := false
  maintEn := maintEn
  portA := .reset
  portB := .reset
  slots := Vector.replicate 24 none
  pollCursor := 0
  exchange := none
  replyMs := 0
  afterPoll := false
  setpointQueue := []
  ltx := []
  channels := Vector.replicate 48 .reset
  grades := ⟨.reset, .reset, .reset⟩
  windows := Vector.replicate 4 .reset
  plant := .reset
  passMs := 0
  passLength := 2
  pass := none
  passSeq := 0
  balance := .reset
  stack := []
  readmission := []
  recoveryTimer := 0
  accounts := Vector.replicate 32 none
  band := .primary
  pairs := Vector.replicate 16 .reset
  season := 0
  notices := noticesReset
  clearMode := if noticeMode then .checked else .readClears
  tickMs := 0
  pending := []

/-- The machine right after reset: released with MAINT_EN high and NOTICE_MODE low (DESIGN CHOICE, log 1), its
queue empty. -/
def State.reset : State := State.released true false

end Sys2Proof.Machine
end

