-- ==== Sys2Proof/Machine/Operands.lean ====
section
/-! DEFINITION. The figures that commands and answers carry: the codes of enumerated values (R200, R208, R210), the
sets of modes, the conversion and the effective value of a channel (R70 to R73), the power formulas (R78, R79), and a
record's effective limits and effective call (R9, R10). -/

namespace Sys2Proof.Machine

open Sys2Proof

/-! ### Codes (R210) -/

def OffClass.code : OffClass → Nat
  | .boiler => 0
  | .heatSub => 1

def OffClass.ofCode : Nat → Option OffClass
  | 0 => some .boiler
  | 1 => some .heatSub
  | _ => none

def Grade.code : Grade → Nat
  | .tg => 0
  | .og => 1
  | .vg => 2

def Grade.ofCode : Nat → Option Grade
  | 0 => some .tg
  | 1 => some .og
  | 2 => some .vg
  | _ => none

def ChannelKind.code : ChannelKind → Nat
  | .noKind => 0
  | .gasFlow => 1
  | .cv => 2
  | .temp => 3
  | .waterFlow => 4
  | .level => 5
  | .power => 6

def ChannelKind.ofCode : Nat → Option ChannelKind
  | 0 => some .noKind
  | 1 => some .gasFlow
  | 2 => some .cv
  | 3 => some .temp
  | 4 => some .waterFlow
  | 5 => some .level
  | 6 => some .power
  | _ => none

def Polarity.code : Polarity → Nat
  | .fixed => 0
  | .auto => 1

def Polarity.ofCode : Nat → Option Polarity
  | 0 => some .fixed
  | 1 => some .auto
  | _ => none

def Condition.code : Condition → Nat
  | .normal => 0
  | .stale => 1
  | .failed => 2

def Activity.code : Activity → Nat
  | .idle => 0
  | .flowing => 1

/-- A VACANT slot reads as 0 (R210). -/
def Supply.code : Supply → Nat
  | .held => 1
  | .active => 2
  | .shed => 3
  | .cut => 4
  | .lockout => 5

def LinkState.code : LinkState → Nat
  | .quiet => 0
  | .listen => 1
  | .confirm => 2
  | .bound => 3
  | .legacyBound => 4

def Policy.code : Policy → Nat
  | .heatFirst => 0
  | .exportFirst => 1

def Policy.ofCode : Nat → Option Policy
  | 0 => some .heatFirst
  | 1 => some .exportFirst
  | _ => none

def Origin.code : Origin → Nat
  | .auto => 0
  | .manual => 1

/-- Code 0 is no cause (R210). -/
def Cause.code : Cause → Nat
  | .gas => 1
  | .heat => 2
  | .gasAndHeat => 3
  | .operator => 4

def AccountKind.code : AccountKind → Nat
  | .heatSale => 0
  | .gasSale => 1
  | .exportKind => 2

def AccountKind.ofCode : Nat → Option AccountKind
  | 0 => some .heatSale
  | 1 => some .gasSale
  | 2 => some .exportKind
  | _ => none

def Medium.code : Medium → Nat
  | .gas => 0
  | .heat => 1
  | .exportMedium => 2

def Medium.ofCode : Nat → Option Medium
  | 0 => some .gas
  | 1 => some .heat
  | 2 => some .exportMedium
  | _ => none

def Band.code : Band → Nat
  | .primary => 0
  | .secondary => 1

def Band.ofCode : Nat → Option Band
  | 0 => some .primary
  | 1 => some .secondary
  | _ => none

def ClearMode.code : ClearMode → Nat
  | .readClears => 0
  | .checked => 1

def ClearMode.ofCode : Nat → Option ClearMode
  | 0 => some .readClears
  | 1 => some .checked
  | _ => none

def portOfCode : Nat → Option PortId
  | 0 => some .portA
  | 1 => some .portB
  | _ => none

def PortStatus.code : PortStatus → Nat
  | .idle => 0
  | .executing => 1
  | .answerReady => 2

/-- R208. -/
def Result.code : Result → Nat
  | .ok => 0x00
  | .noRight => 0x01
  | .cancelled => 0x03
  | .noSuchSlot => 0x04
  | .noSuchTag => 0x05
  | .duplicateTag => 0x06
  | .duplicateAddress => 0x07
  | .tableFull => 0x08
  | .badValue => 0x09
  | .badChannel => 0x0A
  | .wrongState => 0x0B
  | .wrongKind => 0x0C
  | .retiring => 0x0D
  | .notManual => 0x0E
  | .reserveLimit => 0x0F
  | .noAccount => 0x10
  | .duplicateAccount => 0x11
  | .accountInUse => 0x12
  | .accountNotSettled => 0x13
  | .statementPending => 0x14
  | .noStatement => 0x15
  | .noTariff => 0x16
  | .stillStanding => 0x17

/-- R200. -/
def NoticeKind.code : NoticeKind → Nat
  | .noMode => 0
  | .linkDown => 1
  | .cut => 2
  | .lockout => 3
  | .curtailUp => 4
  | .curtailDown => 5
  | .exportShort => 6
  | .reserve => 7
  | .meterStale => 8
  | .meterFailed => 9
  | .meterReversed => 10
  | .tariffMiss => 11
  | .tariffOverlap => 12

/-- The thirteen kinds in ascending code. -/
def NoticeKind.all : List NoticeKind :=
  [.noMode, .linkDown, .cut, .lockout, .curtailUp, .curtailDown, .exportShort, .reserve, .meterStale, .meterFailed,
    .meterReversed, .tariffMiss, .tariffOverlap]

def NoticeKind.ofCode (c : Nat) : Option NoticeKind := NoticeKind.all[c]?

/-! ### Grades -/

def PerGrade.get {α : Type} (p : PerGrade α) : Grade → α
  | .tg => p.tg
  | .og => p.og
  | .vg => p.vg

def PerGrade.set {α : Type} (p : PerGrade α) (g : Grade) (a : α) : PerGrade α :=
  match g with
  | .tg => { p with tg := a }
  | .og => { p with og := a }
  | .vg => { p with vg := a }

def PerGrade.map {α β : Type} (f : α → β) (p : PerGrade α) : PerGrade β := ⟨f p.tg, f p.og, f p.vg⟩

/-- One value for each grade, made from the grade. -/
def PerGrade.ofFn {α : Type} (f : Grade → α) : PerGrade α := ⟨f .tg, f .og, f .vg⟩

/-! ### Modes (R3, R33, section 11.4) -/

/-- The bit number of a mode. -/
def Mode.bit : Mode → Nat
  | .blend => 0
  | .rich => 1
  | .lean => 2
  | .fixed => 3
  | .heatMod => 4
  | .heatFixed => 5

/-- The modes of a class, from highest to lowest (R33). -/
def OffClass.modes : OffClass → List Mode
  | .boiler => [.blend, .rich, .lean, .fixed]
  | .heatSub => [.heatMod, .heatFixed]

/-- BLEND, RICH, LEAN and HEAT_MOD are modulating (R9). -/
def Mode.modulating : Mode → Bool
  | .blend => true
  | .rich => true
  | .lean => true
  | .fixed => false
  | .heatMod => true
  | .heatFixed => false

/-- The mode in which a partner of the class that does not negotiate is served (R35). -/
def OffClass.fixedMode : OffClass → Mode
  | .boiler => .fixed
  | .heatSub => .heatFixed

/-- Bits 0 to 3 are a BOILER's modes, bits 4 and 5 a HEAT_SUB's. -/
def OffClass.modeMask : OffClass → BitVec 6
  | .boiler => 0x0F#6
  | .heatSub => 0x30#6

/-- The mode stands in the set. -/
def modeIn (m : Mode) (set : BitVec 6) : Bool := set.getLsbD m.bit

/-- A mode byte of a request is a non-empty set of modes of the class, with bits 6 and 7 clear (R3; DESIGN
CHOICE, log 12). -/
def validModes (c : OffClass) (b : Byte) : Bool :=
  b != 0#8 && decide (b.toNat < 64) && (b.setWidth 6 &&& ~~~c.modeMask) == 0#6

/-- The highest mode of the class in both sets (R33). -/
def highestCommon (c : OffClass) (permitted supported : BitVec 6) : Option Mode :=
  c.modes.find? fun m => modeIn m permitted && modeIn m supported

/-- The outcome of a mode resolution (R33): the highest common mode, but a modulating one is refused when the rating
advertised is below min firing. -/
def resolveMode (o : Offtake) (a : AdvertData) : Option Mode :=
  match highestCommon o.cls o.permitted a.modes with
  | some m => if m.modulating && decide (a.rating < o.minFiring) then none else some m
  | none => none

/-! ### Effective limits and call (R9, R10) -/

/-- R9: the effective minimum and the effective maximum. -/
def Offtake.limits (o : Offtake) : Nat × Nat :=
  match o.mode with
  | none => (0, 0)
  | some m =>
    if m.modulating then
      match o.advert with
      | some a => (o.minFiring, min o.maxFiring a.rating)
      | none => (0, 0)
    else (o.rating, o.rating)

/-- R10. -/
def Offtake.effCall (o : Offtake) : Nat :=
  if o.trip || o.call = 0 then 0
  else
    match o.mode with
    | none => 0
    | some m =>
      if m.modulating then
        if o.limits.2 < o.call then o.limits.2 else if o.call < o.limits.1 then o.limits.1 else o.call
      else o.rating

/-- A record is linked in BOUND and LEGACY_BOUND (section 2.1). -/
def LinkState.linked : LinkState → Bool
  | .bound => true
  | .legacyBound => true
  | .quiet => false
  | .listen => false
  | .confirm => false

abbrev Offtake.linked (o : Offtake) : Bool := o.link.linked

/-- Every link state but QUIET is polled (R24). -/
def LinkState.polled : LinkState → Bool
  | .quiet => false
  | .listen => true
  | .confirm => true
  | .bound => true
  | .legacyBound => true

/-- The class bound by a curtailment level: it is admitted (R107), or held out (R142). -/
def admits (level prio : Nat) : Bool :=
  match level with
  | 2 => decide (prio ≤ 2)
  | 3 => decide (prio ≤ 1)
  | 4 => decide (prio ≤ 0)
  | _ => true

/-! ### Channels -/

/-- GAS_FLOW and WATER_FLOW (R66). -/
def ChannelKind.isFlow : ChannelKind → Bool
  | .gasFlow => true
  | .waterFlow => true
  | .noKind => false
  | .cv => false
  | .temp => false
  | .level => false
  | .power => false

/-- R71: a figure held within the value range of the kind; for NONE, which R71 does not list, the widest (DESIGN
CHOICE, log 13). -/
def ChannelKind.clamp : ChannelKind → Int → Int
  | .cv, v => clampInt 0 60000 v
  | .level, v => clampInt 0 2147483647 v
  | .gasFlow, v => clampInt (-2147483647) 2147483647 v
  | .waterFlow, v => clampInt (-2147483647) 2147483647 v
  | .temp, v => clampInt (-2147483647) 2147483647 v
  | .power, v => clampInt (-2147483647) 2147483647 v
  | .noKind, v => clampInt (-2147483647) 2147483647 v

/-- R70, step 1: the raw reading used. -/
def Channel.reading (c : Channel) (raw : Int) : Int :=
  if c.reversed then (if raw = -32768 then 32767 else -raw) else raw

/-- R70 and R71: the value of a raw reading. -/
def Channel.convert (c : Channel) (raw : Int) : Int :=
  c.kind.clamp (clampInt (-2147483647) 2147483647 (c.offset + (c.reading raw * c.span).tdiv 16384))

/-- R72: the activity after a good sample that wrote value `v`. -/
def Channel.activityAfter (c : Channel) (v : Int) : Option Activity :=
  if c.kind.isFlow then
    if (c.onThreshold : Int) ≤ v then some .flowing
    else if v ≤ c.offThreshold then some .idle
    else c.activity
  else none

/-- R73: the effective value. -/
def Channel.effective (c : Channel) : Int :=
  match c.condition with
  | .failed => c.substitute
  | .normal => if c.kind.isFlow && c.activity != some .flowing then 0 else c.value
  | .stale => if c.kind.isFlow && c.activity != some .flowing then 0 else c.value

/-! ### Power (R78, R79) -/

/-- R78. -/
def gasPower (flow cv : Int) : Nat := min maxFigure (flow.toNat * cv.toNat / 360)

/-- R79. -/
def heatPower (flow : Int) (cp : Nat) (supply return_ : Int) : Nat :=
  min maxFigure (flow.toNat * cp * (supply - return_).toNat / 360000)

/-! ### Figures of requests (R3, R67, R93, R101) -/

/-- A power figure saturated at 1,000,000 kW (R3, R5). -/
def satPower (v : Nat) : Nat := min v Config.maxPower

/-- The efficiency clamped to 300 to 990 per mille (R3). -/
def clampEff (v : Nat) : Nat := clampNat 300 990 v

/-- A weight of 0 raised to 1 (R3). -/
def clampWeight (v : Nat) : Nat := clampNat 1 255 v

/-- The reserve limit of a working range (R92). -/
def reserveLimit (low high : Nat) : Nat := 3 * (high - low) / 4

/-- R91: the tag agrees with the match value in the bits the mask demands. -/
def Window.covers (w : Window) (t : Tag) : Bool := (t &&& w.mask) == (w.value &&& w.mask)

end Sys2Proof.Machine
end

