-- ==== Sys2Proof/Machine/Flags.lean ====
section
/-! DEFINITION. The flags: a record's flags at an event of the link, an account's SATURATED flag (R161), a channel's
conditions (R75 to R77), a notice's pending flags and standing condition (R200, R201), the alert lines (R202). -/

namespace Sys2Proof.Machine

open Sys2Proof

/-! ### Counters that saturate (R161) -/

/-- The counter after an addition, held at its top. -/
def satAdd (top a b : Nat) : Nat := min top (a + b)

/-- The addition would carry the counter past its top. -/
def overflows (top a b : Nat) : Bool := decide (top < a + b)

/-! ### Notices (R200 to R203) -/

/-- An entry left with both pending flags clear has count and subject 0 (R201). -/
def NoticeEntry.settle (e : NoticeEntry) : NoticeEntry :=
  if e.pendingA || e.pendingB then e else { e with subject := 0, count := 0 }

/-- R201: a raising is taken by the entry. -/
def NoticeEntry.raise (subject : Nat) (e : NoticeEntry) : NoticeEntry :=
  if e.routeA || e.routeB then
    { e with pendingA := e.pendingA || e.routeA, pendingB := e.pendingB || e.routeB, subject := subject,
             count := min 255 (e.count + 1) }
  else e

/-- The pending flag of a port. -/
def NoticeEntry.pendingFor (e : NoticeEntry) : PortId → Bool
  | .portA => e.pendingA
  | .portB => e.pendingB

/-- A port's pending flag is cleared (R203). -/
def NoticeEntry.clearFor (e : NoticeEntry) : PortId → NoticeEntry
  | .portA => { e with pendingA := false }.settle
  | .portB => { e with pendingB := false }.settle

/-- A port is added to the routing (R204). -/
def NoticeEntry.addRoute (e : NoticeEntry) : PortId → NoticeEntry
  | .portA => { e with routeA := true }
  | .portB => { e with routeB := true }

/-- A port is removed from the routing, and its pending flag cleared (R204). -/
def NoticeEntry.dropRoute (e : NoticeEntry) : PortId → NoticeEntry
  | .portA => ({ e with routeA := false, pendingA := false } : NoticeEntry).settle
  | .portB => ({ e with routeB := false, pendingB := false } : NoticeEntry).settle

/-- RESTART clears the entry and keeps its routing (R206). -/
def NoticeEntry.restarted (e : NoticeEntry) : NoticeEntry :=
  { e with pendingA := false, pendingB := false, subject := 0, count := 0 }

/-- R200: the standing condition of a kind, judged for a subject. -/
def standing (s : State) (k : NoticeKind) (subject : Nat) : Bool :=
  match k with
  | .noMode => ((s.slots[subject]?).join).any (·.noMode)
  | .linkDown => false
  | .cut => ((s.slots[subject]?).join).any (·.supply = .cut)
  | .lockout => ((s.slots[subject]?).join).any (·.supply = .lockout)
  | .curtailUp => false
  | .curtailDown => false
  | .exportShort => decide (0 < s.balance.shortfall)
  | .reserve => (Grade.ofCode subject).any fun g => (s.grades.get g).inReserve
  | .meterStale => (s.channels[subject]?).any (·.condition ≠ .normal)
  | .meterFailed => (s.channels[subject]?).any (·.condition = .failed)
  | .meterReversed => (s.channels[subject]?).any (·.reversed)
  | .tariffMiss => s.accounts.toList.any fun a => a.any fun a => a.number = subject && a.flags.unpriced
  | .tariffOverlap => false

/-- R202, R205: a port's alert line is asserted. -/
def alertLine (s : State) (p : PortId) : Bool := !s.inReset && s.notices.toList.any (·.pendingFor p)

/-! ### Channels (R75 to R77) -/

/-- R75: the age expiry of a channel. -/
def Channel.ageExpired (c : Channel) : Channel :=
  { c with
    ageMs := max c.ageMs Config.ageMs
    goodRun := 0
    condition := if c.condition = .normal then .stale else c.condition
    staleMs := if c.condition = .normal then 0 else c.staleMs }

/-- R76: the stale timer has reached 30 s. -/
def Channel.failedNow (c : Channel) : Channel := { c with condition := .failed, staleMs := Config.staleMs }

/-- R77: the good run is one sample longer, and its third sample makes a STALE or FAILED channel NORMAL. -/
def Channel.goodRunGrown (c : Channel) : Channel :=
  { c with
    goodRun := min 3 (c.goodRun + 1)
    condition := if c.goodRun + 1 = 3 then .normal else c.condition
    staleMs := if c.goodRun + 1 = 3 && c.condition != .normal then 0 else c.staleMs }

/-- R74: the sample that wrote value `v` counts toward a reversal. -/
def Channel.judgesReversal (c : Channel) : Bool := c.kind.isFlow && c.polarity = .auto && !c.reversed

/-- R74: the negative run after a good sample that wrote value `v`. -/
def Channel.negativeAfter (c : Channel) (v : Int) : Nat :=
  if c.judgesReversal then (if v < -(c.onThreshold : Int) then c.negativeRun + 1 else 0) else 0

/-- R74: the sample that wrote `v` completes a run of eight. -/
def Channel.turnsReversed (c : Channel) (v : Int) : Bool := decide (8 ≤ c.negativeAfter v)

end Sys2Proof.Machine
end

