-- ==== Sys2Proof/Machine/Ops.lean ====
section
/-! DEFINITION. The named operations over the tables and lists of the part, which the meanings are made of: reading and
writing a slot, a channel, an account; raising a notice; the setpoint queue (R47, R48); leaving service, entering QUIET
and joining supply (R29, R30, R41); freeing (R21); cutting (R57); shedding, pushing, popping and readmitting (R141,
R142, R147, R151); delivering a request of a frame (R198). -/

namespace Sys2Proof.Machine

open Sys2Proof

/-! ### Tables -/

/-- Entry `i` of a table rewritten; no entry beyond its end. -/
def modAt {α : Type} {n : Nat} (v : Vector α n) (i : Nat) (f : α → α) : Vector α n :=
  match v[i]? with
  | some a => v.setIfInBounds i (f a)
  | none => v

/-- The record in a slot, none for a VACANT slot or a number above 23. -/
def State.offtake (s : State) (i : Nat) : Option Offtake := (s.slots[i]?).join

/-- The slot now holds `o`. -/
def State.putOfftake (s : State) (i : Nat) (o : Option Offtake) : State :=
  { s with slots := s.slots.setIfInBounds i o }

/-- The record in the slot, if there is one, rewritten; a change asked for on a VACANT slot is not made (R11). -/
def State.modOfftake (s : State) (i : Nat) (f : Offtake → Offtake) : State :=
  match s.offtake i with
  | some o => s.putOfftake i (some (f o))
  | none => s

/-- The slot numbers in ascending order. -/
def slotNumbers : List Nat := List.range Config.slots

def State.modChannel (s : State) (c : Nat) (f : Channel → Channel) : State :=
  { s with channels := modAt s.channels c f }

/-- The effective value of a channel (R73); 0 for a number the part has not. -/
def State.effValue (s : State) (c : Nat) : Int :=
  match s.channels[c]? with
  | some ch => ch.effective
  | none => 0

/-- The condition of a channel. -/
def State.condition (s : State) (c : Nat) : Condition :=
  match s.channels[c]? with
  | some ch => ch.condition
  | none => .failed

/-- The channel has the kind (R4, R93, R102: judged when the naming request is applied). -/
def State.channelIs (s : State) (k : ChannelKind) (c : Nat) : Bool := (s.channels[c]?).any (·.kind = k)

def State.putGrade (s : State) (g : Grade) (r : GradeRecord) : State := { s with grades := s.grades.set g r }

/-! ### Ports -/

def State.port (s : State) : PortId → Port
  | .portA => s.portA
  | .portB => s.portB

def State.setPort (s : State) (p : PortId) (q : Port) : State :=
  match p with
  | .portA => { s with portA := q }
  | .portB => { s with portB := q }

/-- R197. -/
def State.hasRight (s : State) (p : PortId) (r : Right) : Bool :=
  match p, r with
  | .portA, .operate => true
  | .portA, .maintain => s.maintEn
  | .portA, .settle => false
  | .portB, .operate => false
  | .portB, .maintain => false
  | .portB, .settle => true

/-! ### Notices -/

/-- A notice is raised (R201). -/
def State.raise (s : State) (k : NoticeKind) (subject : Nat) : State :=
  { s with notices := modAt s.notices k.code (NoticeEntry.raise subject) }

/-! ### The setpoint queue (R46 to R48) -/

/-- A close entry placed directly behind the last close entry, or at the head if there is none (R47). -/
def insertClose (e : SetpointEntry) (q : List SetpointEntry) : List SetpointEntry :=
  q.takeWhile (·.close) ++ e :: q.dropWhile (·.close)

/-- The queue after the record of slot `i`, linked, is handed over with its grant and acknowledged grant (R47, R48). -/
def queueAfterGrant (i grant ackGrant : Nat) (q : List SetpointEntry) : List SetpointEntry :=
  match q.find? (·.slot = i) with
  | none =>
    if grant = ackGrant then q
    else if grant = 0 then insertClose ⟨i, true, 0, false⟩ q
    else q ++ [⟨i, false, 0, false⟩]
  | some e =>
    if !e.close && decide (grant = 0) then insertClose { e with close := true } (q.filter (·.slot ≠ i)) else q

/-- A record whose grant was written is handed to the Link Controller (R47). -/
def State.handGrant (s : State) (i : Nat) : State :=
  match s.offtake i with
  | some o =>
    if o.linked then { s with setpointQueue := queueAfterGrant i o.grant o.ackGrant s.setpointQueue } else s
  | none => s

/-- The slot's entry, if one stands, is removed. -/
def State.dropEntry (s : State) (i : Nat) : State :=
  { s with setpointQueue := s.setpointQueue.filter (·.slot ≠ i) }

/-- A setpoint exchange in flight for the slot is abandoned (R29). -/
def State.abandon (s : State) (i : Nat) : State :=
  match s.exchange with
  | some (.setpoint slot addr sent _) =>
    if slot = i then { s with exchange := some (.setpoint slot addr sent true) } else s
  | some (.poll _ _ _) => s
  | none => s

/-- A poll exchange in flight for the slot takes no reply any more, since the slot is freed (R27). -/
def State.dropPoll (s : State) (i : Nat) : State :=
  match s.exchange with
  | some (.poll slot addr _) => if slot = i then { s with exchange := some (.poll slot addr true) } else s
  | some (.setpoint _ _ _ _) => s
  | none => s

/-- A setpoint exchange that is not abandoned is in flight for the slot and carries a non-zero grant (R19). -/
def State.sendsNonzero (s : State) (i : Nat) : Bool :=
  match s.exchange with
  | some (.setpoint slot _ sent abandoned) => slot = i && sent ≠ 0 && !abandoned
  | some (.poll _ _ _) => false
  | none => false

/-! ### The pass in flight -/

/-- The slot's entry in the pass result table is marked void (R109). -/
def State.voidEntry (s : State) (i : Nat) : State :=
  { s with pass := s.pass.map fun p =>
      { p with table := p.table.map fun e => if e.slot = i then { e with void := true } else e } }

/-! ### Curtailment lists (R140) -/

/-- The effective level (R139). -/
def State.level (s : State) : Nat :=
  match s.stack with
  | c :: _ => c.level
  | [] => 0

/-- The slot is taken out of every shed list and of the readmission queue. -/
def State.unlist (s : State) (i : Nat) : State :=
  { s with
    stack := s.stack.map fun c => { c with shedList := c.shedList.filter (· ≠ i) }
    readmission := s.readmission.filter (· ≠ i) }

/-- The slot is appended to the end of the top context's list. -/
def State.appendTop (s : State) (i : Nat) : State :=
  match s.stack with
  | c :: cs => { s with stack := { c with shedList := c.shedList ++ [i] } :: cs }
  | [] => s

/-! ### Accounts (R167) -/

/-- The entry that holds an account number. -/
def State.accountEntry (s : State) (n : Nat) : Option Nat :=
  (List.range Config.accounts).find? fun i => ((s.accounts[i]?).join).any (·.number = n)

/-- The account with a number. -/
def State.account (s : State) (n : Nat) : Option Account :=
  match s.accountEntry n with
  | some i => (s.accounts[i]?).join
  | none => none

/-- The account with a number, if there is one, rewritten. -/
def State.modAccount (s : State) (n : Nat) (f : Account → Account) : State :=
  match s.accountEntry n with
  | some i => { s with accounts := modAt s.accounts i (Option.map f) }
  | none => s

/-- The bound count of the account, if one is named, rises by 1. -/
def State.bindCount (s : State) (n : Option Nat) : State :=
  match n with
  | some k => s.modAccount k fun a => { a with boundCount := a.boundCount + 1 }
  | none => s

/-- The bound count of the account, if one is named, falls by 1. -/
def State.unbindCount (s : State) (n : Option Nat) : State :=
  match n with
  | some k => s.modAccount k fun a => { a with boundCount := a.boundCount - 1 }
  | none => s

/-! ### Records leaving supply and leaving the link -/

/-- The grant and any draw split written to 0 (R6). -/
def Offtake.zeroGrant (o : Offtake) : Offtake := { o with grant := 0, split := o.split.map fun _ => ⟨0, 0, 0⟩ }

/-- The resolved mode written, with the draw split present exactly in BLEND (R6). -/
def Offtake.withMode (o : Offtake) (m : Option Mode) : Offtake :=
  { o with mode := m, split := if m = some .blend then some ⟨0, 0, 0⟩ else none }

/-- The record leaves ACTIVE, or another state, for supply state `st` with grant 0 (R11): its entry in a pass in
flight is void and the grant is handed on (R47). -/
def State.withdraw (s : State) (i : Nat) (st : Supply) : State :=
  ((s.modOfftake i fun o => { o.zeroGrant with supply := st }).voidEntry i).handGrant i

/-- R21: the slot is freed. -/
def State.free (s : State) (i : Nat) : State :=
  match s.offtake i with
  | some o => (((((s.unbindCount o.account).dropEntry i).abandon i).dropPoll i).voidEntry i).putOfftake i none
  | none => s

/-- R29, but for the change of link state itself: the record leaves BOUND or LEGACY_BOUND. -/
def State.leaveLinked (s : State) (i : Nat) : State :=
  match s.offtake i with
  | some o =>
    let s := if o.supply = .active then s.withdraw i .held else s
    let s := s.modOfftake i fun o =>
      { o with ackGrant := 0, legacy := if o.link = .legacyBound then false else o.legacy }
    let s := (s.dropEntry i).abandon i
    if o.retiring then s.free i else s
  | none => s

/-- R29 where it applies. -/
def State.unlink (s : State) (i : Nat) : State :=
  match s.offtake i with
  | some o => if o.linked then s.leaveLinked i else s
  | none => s

/-- The fields R30 writes at an entry into QUIET. -/
def Offtake.quieted (o : Offtake) : Offtake :=
  { o.withMode none with
    link := .quiet
    quietMs := 0
    advert := none
    call := 0
    trip := false
    noMode := false
    absent := false
    legacy := false
    confirmCount := 0
    legacyRun := 0 }

/-- R30: the record enters QUIET, with R29 first if it was linked. -/
def State.enterQuiet (s : State) (i : Nat) : State := (s.unlink i).modOfftake i Offtake.quieted

/-- R38: link loss. -/
def State.linkLoss (s : State) (i : Nat) : State := (s.enterQuiet i).raise .linkDown i

/-- R41: a record that has just entered BOUND or LEGACY_BOUND joins supply. -/
def State.joinSupply (s : State) (i : Nat) : State :=
  match s.offtake i with
  | some o =>
    if o.supply = .held then
      if admits s.level o.prio then s.modOfftake i fun o => { o with supply := .active }
      else (s.modOfftake i fun o => { o with supply := .shed }).appendTop i
    else s
  | none => s

/-- R57: a cut. -/
def State.cutRecord (s : State) (i : Nat) : State :=
  ((((s.withdraw i .cut).modOfftake i fun o => { o with overdrawTimer := 0, idleTimer := 0 })).unlist i).raise .cut i

/-- R59: the idle release of a CUT record. -/
def State.releaseIdle (s : State) (i : Nat) : State :=
  match s.offtake i with
  | some o =>
    if o.retiring then s.free i
    else
      let count := o.overdrawCount + 1
      let locked := decide (s.plant.lockoutLimit ≤ count)
      let s := s.modOfftake i fun o =>
        { o with idleTimer := 0, overdrawCount := count, supply := if locked then .lockout else .held }
      let s := if locked then s.raise .lockout i else s
      s.enterQuiet i
  | none => s

/-! ### Curtailment (R141, R142, R147, R151, R152) -/

/-- R141, but for the list: the ACTIVE record of a slot is shed. -/
def State.shed (s : State) (i : Nat) : State := s.withdraw i .shed

/-- The record in the slot is ACTIVE. -/
def State.isActive (s : State) (i : Nat) : Bool := (s.offtake i).any (·.supply = .active)

/-- The ACTIVE records of the slots are shed in their order; the slots shed, in that order. -/
def State.shedEach (s : State) : List Nat → State × List Nat
  | [] => (s, [])
  | i :: is =>
    if s.isActive i then (((s.shed i).shedEach is).1, i :: ((s.shed i).shedEach is).2) else s.shedEach is

/-- The priority class of the record in a slot, as it stands. -/
def State.prioOf (s : State) (i : Nat) : Nat := ((s.offtake i).map (·.prio)).getD 0

/-- The slot's record is ACTIVE and its class is held out at the level (R142). -/
def State.sweeps (s : State) (level i : Nat) : Bool :=
  (s.offtake i).any fun o => o.supply = .active && !admits level o.prio

/-- A push at a level (R142): the lead is shed, then the ACTIVE records held out at the level in slot order, then the
queue entries held out are moved; CURTAIL_UP is raised and the recovery timer set to 0 (R143, R148). -/
def State.push (s : State) (level : Nat) (origin : Origin) (cause : Cause) (lead : List Nat) : State :=
  let lead := s.shedEach lead
  let swept := lead.1.shedEach (slotNumbers.filter (lead.1.sweeps level))
  let s := swept.1
  let moved := s.readmission.filter fun i => !admits level (s.prioOf i)
  let s := { s with
    readmission := s.readmission.filter fun i => admits level (s.prioOf i)
    stack := ⟨level, origin, cause, lead.2 ++ swept.2 ++ moved⟩ :: s.stack
    recoveryTimer := 0 }
  s.raise .curtailUp level

/-- Slots by ascending priority class, then ascending number (R147). -/
def insertByClass (prio : Nat → Nat) (i : Nat) : List Nat → List Nat
  | [] => [i]
  | j :: js =>
    if prio i < prio j ∨ (prio i = prio j ∧ i < j) then i :: j :: js else j :: insertByClass prio i js

def sortByClass (prio : Nat → Nat) (is : List Nat) : List Nat := is.foldr (insertByClass prio) []

/-- R147: the top context is popped. -/
def State.pop (s : State) : State :=
  match s.stack with
  | [] => s
  | c :: below =>
    let level := match below with
      | d :: _ => d.level
      | [] => 0
    let slots := sortByClass s.prioOf c.shedList
    let held := slots.filter fun i => !admits level (s.prioOf i)
    let free := slots.filter fun i => admits level (s.prioOf i)
    let s := { s with
      stack := match below with
        | d :: ds => { d with shedList := d.shedList ++ held } :: ds
        | [] => []
      readmission := s.readmission ++ free
      recoveryTimer := 0 }
    s.raise .curtailDown level

/-- The fields of a record taken back by readmission (R151). -/
def Offtake.readmitted (o : Offtake) : Offtake := { o with supply := if o.linked then .active else .held }

/-- R151, R152: the heads of the queue `q` are taken until one is readmitted; a held-out head moves to the top
context's list. -/
def State.readmitFrom (s : State) : List Nat → State
  | [] => { s with readmission := [] }
  | i :: rest =>
    if admits s.level (s.prioOf i) then { s.modOfftake i Offtake.readmitted with readmission := rest }
    else (s.appendTop i).readmitFrom rest

/-- Readmission at the beginning of a pass (R151). -/
def State.readmit (s : State) : State := s.readmitFrom s.readmission

/-! ### Requests of a frame (R195, R197, R198) -/

/-- What a request does: its result, its answer body, and the part after it. -/
structure Reply where
  result : Result
  body : AnswerBody
  state : State

/-- A refusal: the part is unchanged. -/
def State.refuse (s : State) (r : Result) : Reply := ⟨r, .empty, s⟩

/-- A success with an empty answer body. -/
def State.accept (s : State) : Reply := ⟨.ok, .empty, s⟩

/-- The port as it is to answer request `r`: the request is the next of the frame it works through, or, on an IDLE
port, stands for a frame that holds it alone (DESIGN CHOICE, log 2). None where the request reaches a port that is not
to apply it: it is discarded with the frame that carries it (R195). -/
def Port.taking (q : Port) (r : Request) : Option Port :=
  match q.status with
  | .executing =>
    match q.remaining with
    | r' :: rest => if r' = r then some { q with remaining := rest } else none
    | [] => none
  | .idle =>
    some { q with
      status := .executing, seqTag := 0, count := 1, malformed := false, remaining := [], answers := []
      settled := .executing }
  | .answerReady => none

/-- R198: the request's answer is appended; a result other than OK cancels the requests left; after the last answer the
port is ANSWER_READY. -/
def Port.answered (q : Port) (code : Nat) (result : Result) (body : AnswerBody) : Port :=
  let answers := q.answers ++ [⟨code, result, body⟩]
  if result = .ok then
    { q with answers := answers, status := if q.remaining = [] then .answerReady else .executing }
  else
    { q with
      answers := answers ++ q.remaining.map fun r => ⟨r.code, .cancelled, .empty⟩
      remaining := []
      status := .answerReady }

/-- One request is applied on a port, as one event (R198). The part in reset takes no transaction (R205). -/
def applyRequest (p : PortId) (r : Request) (f : State → Reply) (s : State) : Host.Outcome State Fault Refusal :=
  if s.inReset then .next s
  else
    match (s.port p).taking r with
    | some q =>
      let a := f s
      .next (a.state.setPort p (q.answered r.code a.result a.body))
    | none => .next s

/-- One event of the part. In reset nothing of it runs (R205; DEDUCED, log 5). -/
def runEvent (f : State → State) (s : State) : Host.Outcome State Fault Refusal :=
  .next (if s.inReset then s else f s)

/-- The record a request names by slot and tag, or the result that refuses it (R14, R19, R43, R61, R168). -/
def State.findRecord (s : State) (slot : Nat) (tag : Tag) : Except Result Offtake :=
  match s.offtake slot with
  | some o => if o.tag = tag then .ok o else .error .noSuchTag
  | none => .error .noSuchSlot

end Sys2Proof.Machine
end

