-- ==== Sys2Proof/Machine/Link.lean ====
section
/-! DEFINITION. The Offtake Link Controller: polling (R24 to R27, R32), the link states and mode resolution (R31, R33 to
R40), and setpoint exchanges (R50 to R53). -/

namespace Sys2Proof.Machine

open Sys2Proof

/-! ### Timers of the link -/

/-- QUIET_HOLD_EXPIRY (R31): the quiet timer of the slot's record has reached 4 s. -/
def State.quietExpiry (s : State) (i : Nat) : State :=
  match s.offtake i with
  | none => s
  | some o =>
    if o.link = .quiet then
      s.modOfftake i fun o => { o with link := .listen, quietMs := Config.quietMs, silenceMs := 0, legacyRun := 0 }
    else s

def execQuietHoldExpiry (i : Nat) (s : State) : Host.Outcome State Fault Refusal := runEvent (·.quietExpiry i) s

/-- SILENCE_EXPIRY (R36, R38): the silence timer of the slot's record has reached 3 s. -/
def State.silenceExpiry (s : State) (i : Nat) : State :=
  match s.offtake i with
  | none => s
  | some o =>
    match o.link with
    | .quiet => s
    | .listen => s.modOfftake i fun o => { o with silenceMs := Config.silenceMs, absent := true }
    | .confirm => s.linkLoss i
    | .bound => s.linkLoss i
    | .legacyBound => s.linkLoss i

def execSilenceExpiry (i : Nat) (s : State) : Host.Outcome State Fault Refusal := runEvent (·.silenceExpiry i) s

/-! ### Polling -/

/-- The slot's record is polled (R24). -/
def State.pollable (s : State) (i : Nat) : Bool := (s.offtake i).any fun o => o.link.polled

/-- R24: the lowest pollable slot above the cursor or, if there is none, the lowest pollable slot. -/
def State.nextPoll (s : State) : Option Nat :=
  (slotNumbers.find? fun i => s.pollable i && decide (s.pollCursor < i)).or (slotNumbers.find? s.pollable)

/-- The mode byte of a POLL (R32, R211): the offer in bits 0 to 5, the ack flag in bit 6, bit 7 set when an offer is
carried. -/
def Offtake.pollByte (o : Offtake) : Byte :=
  match o.link with
  | .listen => o.permitted.setWidth 8 ||| 0x80#8
  | .confirm => o.permitted.setWidth 8 ||| 0xC0#8
  | .quiet => 0#8
  | .bound => 0#8
  | .legacyBound => 0#8

/-- A setpoint exchange is the next exchange: a poll exchange ended last and the setpoint queue is not empty (R25). -/
def State.setpointTurn (s : State) : Bool := s.afterPoll && !s.setpointQueue.isEmpty

/-- R24: a poll exchange begins. It does not begin while an exchange is in flight or when a setpoint exchange is next
(R25), nor while no record is pollable. -/
def State.beginPoll (s : State) : State :=
  if s.exchange.isSome || s.setpointTurn then s
  else
    match s.nextPoll with
    | none => s
    | some i =>
      match s.offtake i with
      | none => s
      | some o =>
        { s with
          pollCursor := i
          exchange := some (.poll i o.addr false)
          replyMs := 0
          ltx := linkBytes .poll (BitVec.ofNat 8 o.addr) [o.pollByte] }

/-- POLL (R24). -/
def execPoll (s : State) : Host.Outcome State Fault Refusal := runEvent State.beginPoll s

/-- The poll exchange has ended (R26). -/
def State.pollEnded (s : State) : State := { s with exchange := none, replyMs := 0, afterPoll := true }

/-- The setpoint exchange, or the reply window of an abandoned one, has ended. -/
def State.setpointEnded (s : State) : State := { s with exchange := none, replyMs := 0, afterPoll := false }

/-- R26: 20 ms have passed since a POLL with no valid reply. -/
def State.pollTimedOut (s : State) : State :=
  match s.exchange with
  | some (.poll _ _ _) => s.pollEnded
  | some (.setpoint _ _ _ _) => s
  | none => s

/-- POLL_TIMEOUT (R26). -/
def execPollTimeout (s : State) : Host.Outcome State Fault Refusal := runEvent State.pollTimedOut s

/-! ### Failed attempts -/

/-- The entry's attempt count of a slot. -/
def State.attempts (s : State) (i : Nat) : Nat := ((s.setpointQueue.find? (·.slot = i)).map (·.attempts)).getD 0

/-- R53: the setpoint exchange in flight ends without a valid acknowledgement; the third failure of the entry is link
loss. An abandoned exchange ends with neither (R51). -/
def State.failAttempt (s : State) : State :=
  match s.exchange with
  | some (.setpoint i _ _ false) =>
    let s := s.setpointEnded
    if 2 ≤ s.attempts i then s.linkLoss i
    else { s with setpointQueue := s.setpointQueue.map fun e =>
             if e.slot = i then { e with attempts := e.attempts + 1, inFlight := false } else e }
  | some (.setpoint _ _ _ true) => s.setpointEnded
  | some (.poll _ _ _) => s
  | none => s

/-- FAILED_ATTEMPT (R53). -/
def execFailedAttempt (s : State) : Host.Outcome State Fault Refusal := runEvent State.failAttempt s

/-! ### Replies -/

/-- The slot whose record takes a reply that comes from address `addr`: the slot polled, when the reply comes from the
address polled and the slot has not been freed since and holds a record with that address that is not in QUIET (R26,
R27). -/
def State.replySlot (s : State) (addr : Byte) : Option Nat :=
  match s.exchange with
  | some (.poll i a freed) =>
    if !freed && addr.toNat = a && (s.offtake i).any (fun o => o.addr = a && o.link ≠ .quiet) then some i else none
  | some (.setpoint _ _ _ _) => none
  | none => none

/-- A reply received on the link, taken by `f` on the polled slot when R26 and R27 let it be taken. Received in a poll
exchange it ends the exchange, taken or not (DESIGN CHOICE, log 15); in a setpoint exchange it is a reply of another
kind, a failed attempt (R51); with no exchange in flight it is discarded (R26). -/
def State.takeReply {α : Type} (s : State) (addr : Byte) (data : Option α) (f : State → Nat → α → State) : State :=
  match s.exchange with
  | some (.poll _ _ _) =>
    match data, s.replySlot addr with
    | some d, some i => f s.pollEnded i d
    | some _, none => s.pollEnded
    | none, _ => s.pollEnded
  | some (.setpoint _ _ _ _) => s.failAttempt
  | none => s

/-- An advert as it is stored, its rating saturated (R5). -/
def storedAdvert (a : AdvertData) : AdvertData := { a with rating := satPower a.rating }

/-- R34: an ADVERT taken in LISTEN, or by a record that has just gone back to it (R37, R40). -/
def State.listenAdvert (s : State) (i : Nat) (a : AdvertData) : State :=
  match s.offtake i with
  | none => s
  | some o =>
    let o := { o with advert := some a, legacyRun := 0, absent := false, silenceMs := 0 }
    match resolveMode o a with
    | some m =>
      s.putOfftake i (some { o.withMode (some m) with noMode := false, link := .confirm, confirmCount := 0 })
    | none =>
      let s := s.putOfftake i (some { o.withMode none with link := .listen, noMode := true })
      if o.noMode then s else s.raise .noMode i

/-- R37: an ADVERT taken in CONFIRM. A differing one leaves no count behind (section 2.10's worked example). -/
def State.confirmAdvert (s : State) (i : Nat) (o : Offtake) (a : AdvertData) : State :=
  if o.advert.any fun b => b.modes = a.modes && b.rating = a.rating then
    if a.ack then
      if 3 ≤ o.confirmCount + 1 then
        (s.putOfftake i (some { o with
          advert := some a, silenceMs := 0, confirmCount := o.confirmCount + 1, link := .bound })).joinSupply i
      else s.putOfftake i (some { o with advert := some a, silenceMs := 0, confirmCount := o.confirmCount + 1 })
    else s.putOfftake i (some { o with advert := some a, silenceMs := 0 })
  else
    (s.putOfftake i (some { o.withMode none with
      link := .listen, confirmCount := 0, legacyRun := 0, silenceMs := 0 })).listenAdvert i a

/-- R40: an ADVERT taken in BOUND or LEGACY_BOUND. -/
def State.boundAdvert (s : State) (i : Nat) (a : AdvertData) : State :=
  let s := s.leaveLinked i
  (s.modOfftake i fun o =>
    { o.withMode none with link := .listen, call := 0, trip := false, legacyRun := 0, silenceMs := 0 }).listenAdvert i a

/-- An ADVERT is taken by the record of a slot according to its link state. -/
def State.takeAdvert (s : State) (i : Nat) (a : AdvertData) : State :=
  match s.offtake i with
  | none => s
  | some o =>
    match o.link with
    | .listen => s.listenAdvert i (storedAdvert a)
    | .confirm => s.confirmAdvert i o (storedAdvert a)
    | .bound => s.boundAdvert i (storedAdvert a)
    | .legacyBound => s.boundAdvert i (storedAdvert a)
    | .quiet => s

/-- ADVERT (R34, R37, R40). -/
def execAdvert (m : LinkMsg) (s : State) : Host.Outcome State Fault Refusal :=
  runEvent (fun s => s.takeReply m.addr (readAdvert m) State.takeAdvert) s

/-- R39: the call and TRIP of a reply, and the silence timer restarted. -/
def Offtake.called (c : CallData) (o : Offtake) : Offtake :=
  { o with call := satPower c.call, trip := c.trip, silenceMs := 0 }

/-- A STATUS is taken in BOUND (R39). -/
def State.takeStatus (s : State) (i : Nat) (c : CallData) : State :=
  if (s.offtake i).any (·.link = .bound) then s.modOfftake i (Offtake.called c) else s

/-- STATUS (R39). -/
def execStatus (m : LinkMsg) (s : State) : Host.Outcome State Fault Refusal :=
  runEvent (fun s => s.takeReply m.addr (readStatus m) State.takeStatus) s

/-- R35: a LEGACY reply taken in LISTEN. -/
def State.listenLegacy (s : State) (i : Nat) (o : Offtake) (c : CallData) : State :=
  let run := o.legacyRun + 1
  let o := { o with absent := false, silenceMs := 0 }
  if run < 3 then s.putOfftake i (some { o with legacyRun := run })
  else if modeIn o.cls.fixedMode o.permitted then
    (s.putOfftake i (some (Offtake.called c { o.withMode (some o.cls.fixedMode) with
      legacyRun := run, legacy := true, noMode := false, link := .legacyBound }))).joinSupply i
  else
    let s := s.putOfftake i (some { o with legacyRun := 0, noMode := true })
    if o.noMode then s else s.raise .noMode i

/-- A LEGACY reply is taken in LISTEN (R35) or LEGACY_BOUND (R39). -/
def State.takeLegacy (s : State) (i : Nat) (c : CallData) : State :=
  match s.offtake i with
  | none => s
  | some o =>
    match o.link with
    | .listen => s.listenLegacy i o c
    | .legacyBound => s.modOfftake i (Offtake.called c)
    | .quiet => s
    | .confirm => s
    | .bound => s

/-- LEGACY (R35, R39). -/
def execLegacy (m : LinkMsg) (s : State) : Host.Outcome State Fault Refusal :=
  runEvent (fun s => s.takeReply m.addr (readLegacy m) State.takeLegacy) s

/-! ### Setpoint exchanges -/

/-- R50: a setpoint exchange begins with the entry at the head of the queue, when the link is given to the queue
(R25). -/
def State.beginSetpoint (s : State) : State :=
  if s.exchange.isSome || !s.afterPoll then s
  else
    match s.setpointQueue with
    | [] => s
    | e :: rest =>
      match s.offtake e.slot with
      | none => s
      | some o =>
        { s with
          setpointQueue := { e with inFlight := true } :: rest
          exchange := some (.setpoint e.slot o.addr o.grant false)
          replyMs := 0
          ltx := linkBytes .setpoint (BitVec.ofNat 8 o.addr)
            (beBytes 4 o.grant ++ beBytes 1 ((o.mode.map (·.bit)).getD (Config.absentCode .mode))) }

/-- SETPOINT (R50). -/
def execSetpoint (s : State) : Host.Outcome State Fault Refusal := runEvent State.beginSetpoint s

/-- R52: a valid acknowledgement of the value `v` is taken for slot `i`. -/
def State.acknowledge (s : State) (i v : Nat) : State :=
  match s.offtake i with
  | none => s.setpointEnded
  | some o =>
    let s := (s.setpointEnded.modOfftake i fun o => { o with ackGrant := v }).dropEntry i
    if o.retiring && decide (v = 0) then s.free i else s.handGrant i

/-- A SETPOINT_ACK is received: a valid acknowledgement when it comes in a setpoint exchange, from the address it was
sent to, echoing the value sent (R51). -/
def State.takeAck (s : State) (m : LinkMsg) : State :=
  match s.exchange with
  | some (.setpoint i addr sent false) =>
    if m.addr.toNat = addr ∧ readAck m = some sent then s.acknowledge i sent else s.failAttempt
  | some (.setpoint _ _ _ true) => s.setpointEnded
  | some (.poll _ _ _) => s.pollEnded
  | none => s

/-- SETPOINT_ACK (R52). -/
def execSetpointAck (m : LinkMsg) (s : State) : Host.Outcome State Fault Refusal := runEvent (·.takeAck m) s

end Sys2Proof.Machine
end

