-- ==== Sys2Proof/Machine/Pricing.lean ====
section
/-! DEFINITION. The lookup of the Tariff Match Table (R182 to R184), and the carry and its pricing (R161, R172, R173),
which METERING_TICK, REPRICE and PROBE_TARIFF share. -/

namespace Sys2Proof.Machine

open Sys2Proof

/-! ### Lookup -/

/-- R182: the pair matches a medium and a key in a season. -/
def TariffPair.covers (t : TariffPair) (m : Medium) (key : BitVec 12) (season : Nat) : Bool :=
  t.valid && t.medium = m && (key &&& t.mask) == (t.key &&& t.mask) && (t.shared || t.season = season)

/-- The match set, as pair numbers in ascending order (R182). -/
def State.matchSet (s : State) (m : Medium) (key : BitVec 12) : List Nat :=
  (List.range Config.pairs).filter fun i => (s.pairs[i]?).any (·.covers m key s.season)

/-- The half of a pair for a band (R180). -/
def TariffPair.half (t : TariffPair) : Band → Option Nat
  | .primary => t.primary
  | .secondary => t.secondary

/-- The answer of a lookup (R183, R184): a price, or none for a miss; and whether more than one pair matched. -/
structure PriceAnswer where
  price : Option Nat
  overlap : Bool
  deriving DecidableEq, Repr

/-- R183, R184: the lowest-numbered matching pair is chosen, and its half for the band read. -/
def State.lookup (s : State) (m : Medium) (key : BitVec 12) (b : Band) : PriceAnswer :=
  match s.matchSet m key with
  | [] => ⟨none, false⟩
  | i :: rest => ⟨(s.pairs[i]?).bind (·.half b), !rest.isEmpty⟩

/-! ### Accounts -/

/-- The medium of an account's carries (R159). -/
def AccountKind.medium : AccountKind → Medium
  | .heatSale => .heat
  | .gasSale => .gas
  | .exportKind => .exportMedium

def Account.figures (a : Account) : Band → BandFigures
  | .primary => a.primary
  | .secondary => a.secondary

def Account.withFigures (a : Account) (b : Band) (f : BandFigures) : Account :=
  match b with
  | .primary => { a with primary := f }
  | .secondary => { a with secondary := f }

/-- Flags set in the event of an addition or a lookup (R161, R162); none is cleared. -/
def AccountFlags.with (f : AccountFlags) (overlap unpriced saturated : Bool) : AccountFlags :=
  { f with overlap := f.overlap || overlap, unpriced := f.unpriced || unpriced, saturated := f.saturated || saturated }

/-- R173: `n` kWh are counted in band `b` and charged at the price found, or counted as unpriced; each counter
saturates on its own (R161). -/
def Account.counted (a : Account) (b : Band) (n : Nat) (ans : PriceAnswer) : Account :=
  let f := a.figures b
  match ans.price with
  | some p =>
    { a.withFigures b { f with
        energy := satAdd Config.maxEnergy f.energy n
        charge := satAdd Config.maxCharge f.charge (n * p) } with
      flags := a.flags.with ans.overlap false
        (overflows Config.maxEnergy f.energy n || overflows Config.maxCharge f.charge (n * p)) }
  | none =>
    { a.withFigures b { f with
        energy := satAdd Config.maxEnergy f.energy n
        unpriced := satAdd Config.maxEnergy f.unpriced n } with
      flags := a.flags.with ans.overlap true
        (overflows Config.maxEnergy f.energy n || overflows Config.maxEnergy f.unpriced n) }

/-- The notices of a carry's lookup (R173). -/
def State.raiseCarry (s : State) (n : Nat) (ans : PriceAnswer) : State :=
  let s := if ans.price.isNone then s.raise .tariffMiss n else s
  if ans.overlap then s.raise .tariffOverlap n else s

/-- R172, R173: `amount` kW·s are added to the energy residue of account `n`, and the whole kWh carried and priced. -/
def State.carry (s : State) (n amount : Nat) : State :=
  match s.account n with
  | none => s
  | some a =>
    let total := a.residue + amount
    let s := s.modAccount n fun a => { a with residue := total % 3600 }
    if total / 3600 = 0 then s
    else
      let ans := s.lookup a.kind.medium a.key s.band
      (s.modAccount n fun a => a.counted s.band (total / 3600) ans).raiseCarry n ans

end Sys2Proof.Machine
end

