-- ==== Sys2Proof/Machine/Metering.lean ====
section
/-! DEFINITION. METERING_TICK (R171): delivered power (R80), the feeding of the accounts (R172, R174), the draw monitor
(R55 to R59); and its parts that are rows of their own, CUT (R57) and IDLE_RELEASE (R59). -/

namespace Sys2Proof.Machine

open Sys2Proof

/-! ### Delivered power (R80) -/

/-- The channels bound to a record. -/
def Offtake.bindings (o : Offtake) : List Nat := o.bind1 :: o.bind2 :: o.bind3.toList

/-- Every bound channel is NORMAL. -/
def State.bindingsNormal (s : State) (o : Offtake) : Bool := o.bindings.all fun c => s.condition c = .normal

/-- R80: the power a record takes, from its bound channels. -/
def State.deliveredPower (s : State) (o : Offtake) : Nat :=
  match o.cls with
  | .boiler => gasPower (s.effValue o.bind1) (s.effValue o.bind2)
  | .heatSub =>
    heatPower (s.effValue o.bind1) s.plant.cp (s.effValue o.bind2) ((o.bind3.map s.effValue).getD 0)

/-- R80, R8: the delivered power and the ESTIMATED flag of a record at a tick. -/
def State.measured (s : State) (o : Offtake) : Offtake :=
  { o with delivered := s.deliveredPower o, estimated := !s.bindingsNormal o }

/-- The delivered powers of every non-vacant record are written. -/
def State.measure (s : State) : State := { s with slots := s.slots.map (Option.map s.measured) }

/-! ### The accounts (R172, R174) -/

/-- The records that name an account. -/
def State.namedBy (s : State) (n : Nat) : List Offtake :=
  (slotNumbers.filterMap s.offtake).filter fun o => o.account = some n

/-- ESTIMATED is set in an account when a figure taken in was estimated; it is not cleared (R162). -/
def State.markEstimated (s : State) (n : Nat) (est : Bool) : State :=
  s.modAccount n fun a => { a with flags := { a.flags with estimated := a.flags.estimated || est } }

/-- R172: an account takes in the delivered powers of the records that name it. -/
def State.feedRecords (s : State) (n : Nat) : State :=
  match s.namedBy n with
  | [] => s
  | o :: os =>
    (s.markEstimated n ((o :: os).any (·.estimated))).carry n ((o :: os).map (·.delivered)).sum

/-- R174, part 2: `d` kW·s are added to the shortfall residue and carried into the shortfall kWh. -/
def Account.addShortfall (d : Nat) (a : Account) : Account :=
  match a.shortfall, a.shortfallResidue with
  | some k, some r =>
    { a with
      shortfallResidue := some ((r + d) % 3600)
      shortfall := some (satAdd Config.maxEnergy k ((r + d) / 3600))
      flags := a.flags.with false false (overflows Config.maxEnergy k ((r + d) / 3600)) }
  | some _, none => a
  | none, _ => a

/-- R174, part 3: likewise for the surplus. -/
def Account.addSurplus (d : Nat) (a : Account) : Account :=
  match a.surplus, a.surplusResidue with
  | some k, some r =>
    { a with
      surplusResidue := some ((r + d) % 3600)
      surplus := some (satAdd Config.maxEnergy k ((r + d) / 3600))
      flags := a.flags.with false false (overflows Config.maxEnergy k ((r + d) / 3600)) }
  | some _, none => a
  | none, _ => a

/-- R174: the export account takes in the metered export of channel `c`. -/
def State.feedExport (s : State) (n c : Nat) : State :=
  let x := (s.effValue c).toNat
  let below := s.plant.commitment - s.plant.exportTolerance - x
  let above := x - s.plant.commitment - s.plant.exportTolerance
  let s := (s.markEstimated n (decide (s.condition c ≠ .normal))).carry n x
  let s := if 0 < below then s.modAccount n (Account.addShortfall below) else s
  if 0 < above then s.modAccount n (Account.addSurplus above) else s

/-- One account is fed at a tick, by R174 if it is the plant's export account and by R172 if not. -/
def State.feedAccount (s : State) (n : Nat) : State :=
  if s.plant.exportAccount = some n then
    match s.plant.exportChannel with
    | some c => s.feedExport n c
    | none => s
  else s.feedRecords n

/-- The account numbers in ascending order (R171). -/
def State.accountNumbers (s : State) : List Nat :=
  (s.accounts.toList.filterMap fun a => a.map (·.number)).insertionSort (· ≤ ·)

/-! ### The draw monitor (R55 to R59) -/

/-- R56: the over-draw threshold for an acknowledged grant. -/
def Plant.drawThreshold (p : Plant) (ackGrant : Nat) : Nat := ackGrant * (1000 + p.tolerance) / 1000 + p.deadband

/-- R56: the record is over-drawing. -/
def State.overdraws (s : State) (o : Offtake) : Bool := decide (s.plant.drawThreshold o.ackGrant < o.delivered)

/-- R58: a flow channel shows no flow; one that has been given another kind is judged by its effective value. -/
def Channel.flowIdle (c : Channel) : Bool :=
  if c.kind.isFlow then decide (c.activity ≠ some .flowing) else decide (c.effective ≤ 0)

/-- R55, R56: a supervised record at a tick. -/
def State.superviseDraw (s : State) (i : Nat) (o : Offtake) : State :=
  if !s.bindingsNormal o then s.modOfftake i fun o => { o with idleTimer := 0 }
  else if !s.overdraws o then s.modOfftake i fun o => { o with overdrawTimer := 0, idleTimer := 0 }
  else
    let t := s.modOfftake i fun o => { o with overdrawTimer := o.overdrawTimer + 1, idleTimer := 0 }
    if s.plant.overdrawLimit ≤ o.overdrawTimer + 1 then t.cutRecord i else t

/-- R58: a CUT record at a tick. -/
def State.superviseIdle (s : State) (i : Nat) (o : Offtake) : State :=
  let s := s.modOfftake i fun o => { o with overdrawTimer := 0 }
  match s.channels[o.bind1]? with
  | none => s
  | some c =>
    if c.condition ≠ .normal then s
    else if !c.flowIdle then s.modOfftake i fun o => { o with idleTimer := 0 }
    else
      let t := s.modOfftake i fun o => { o with idleTimer := o.idleTimer + 1 }
      if Config.idleSeconds ≤ o.idleTimer + 1 then t.releaseIdle i else t

/-- R55: the draw monitor treats the record of a slot by its supply state. -/
def State.supervise (s : State) (i : Nat) : State :=
  match s.offtake i with
  | none => s
  | some o =>
    match o.supply with
    | .active => s.superviseDraw i o
    | .shed => s.superviseDraw i o
    | .cut => s.superviseIdle i o
    | .held => s.modOfftake i fun o => { o with overdrawTimer := 0, idleTimer := 0 }
    | .lockout => s.modOfftake i fun o => { o with overdrawTimer := 0, idleTimer := 0 }

/-! ### The commands -/

/-- R171: a metering tick, its parts in order. -/
def State.meteringTick (s : State) : State :=
  let s := s.measure
  let s := s.accountNumbers.foldl State.feedAccount s
  { slotNumbers.foldl State.supervise s with tickMs := 0 }

/-- METERING_TICK (R171). -/
def execMeteringTick (s : State) : Host.Outcome State Fault Refusal := runEvent State.meteringTick s

/-- R57: the overdraw timer of a supervised record has reached the limit. -/
def State.cutSlot (s : State) (i : Nat) : State :=
  match s.offtake i with
  | some o => if o.supply = .active ∨ o.supply = .shed then s.cutRecord i else s
  | none => s

/-- CUT (R57; DEDUCED, log 3). -/
def execCut (i : Nat) (s : State) : Host.Outcome State Fault Refusal := runEvent (·.cutSlot i) s

/-- R59: the idle timer of a CUT record has reached 10 s. -/
def State.idleSlot (s : State) (i : Nat) : State :=
  match s.offtake i with
  | some o => if o.supply = .cut then s.releaseIdle i else s
  | none => s

/-- IDLE_RELEASE (R59; DEDUCED, log 3). -/
def execIdleRelease (i : Nat) (s : State) : Host.Outcome State Fault Refusal := runEvent (·.idleSlot i) s

end Sys2Proof.Machine
end

