-- ==== Sys2Proof/Machine/Curtailment.lean ====
section
/-! DEFINITION. The requests of the Curtailment Controller: PUSH_CURTAIL (R148), POP_CURTAIL (R149), READ_CURTAIL (R150),
and RECOVERY_HOLD_EXPIRY (R146). -/

namespace Sys2Proof.Machine

open Sys2Proof

def reqPushCurtail (p : PortId) (level : Nat) (s : State) : Reply :=
  if !s.hasRight p .operate then s.refuse .noRight
  else if level < 1 ∨ 4 < level then s.refuse .badValue
  else if level ≤ s.level then s.refuse .wrongState
  else (s.push level .manual .operator []).accept

/-- PUSH_CURTAIL (R148). -/
def execPushCurtail (p : PortId) (level : Nat) (s : State) : Host.Outcome State Fault Refusal :=
  applyRequest p (.pushCurtail level) (reqPushCurtail p level) s

def reqPopCurtail (p : PortId) (s : State) : Reply :=
  if !s.hasRight p .operate then s.refuse .noRight
  else
    match s.stack with
    | [] => s.refuse .wrongState
    | c :: _ => if c.origin = .auto then s.refuse .notManual else s.pop.accept

/-- POP_CURTAIL (R149). -/
def execPopCurtail (p : PortId) (s : State) : Host.Outcome State Fault Refusal :=
  applyRequest p .popCurtail (reqPopCurtail p) s

def reqReadCurtail (s : State) : Reply :=
  ⟨.ok, .curtail s.level s.stack.reverse s.readmission s.recoveryTimer s.plant.recoveryHold, s⟩

/-- READ_CURTAIL (R150). -/
def execReadCurtail (p : PortId) (s : State) : Host.Outcome State Fault Refusal :=
  applyRequest p .readCurtail reqReadCurtail s

/-- R146: the recovery timer stands at the recovery hold and the top context is AUTO. -/
def State.recovers (s : State) : Bool :=
  match s.stack with
  | c :: _ => c.origin = .auto && s.recoveryTimer = s.plant.recoveryHold
  | [] => false

/-- R146: the top context is popped if the timer calls for it. -/
def State.recover (s : State) : State := if s.recovers then s.pop else s

/-- RECOVERY_HOLD_EXPIRY (R146). The recovery timer is not the clock's: it is read from the state (DEDUCED, log 3). -/
def execRecoveryHoldExpiry (s : State) : Host.Outcome State Fault Refusal := runEvent State.recover s

end Sys2Proof.Machine
end

