-- ==== Sys2Proof/Machine/Pass.lean ====
section
/-! DEFINITION. The stages of an allocation pass, computed from its view alone (R106): the class pass (R110 to R112),
the gas stages (R113 to R117), the heat stages and the balance (R123 to R133). -/

namespace Sys2Proof.Machine

open Sys2Proof

/-! ### The class pass (R110 to R112) -/

/-- What a class pass takes of a candidate. -/
structure Cand where
  slot : Nat
  call : Nat
  min : Nat
  weight : Nat
  deriving DecidableEq, Repr

/-- What a class pass gives a candidate. -/
structure Share where
  slot : Nat
  grant : Nat
  shed : Bool
  deriving DecidableEq, Repr

/-- R111: call per weight, compared by cross-multiplication, the lowest first; equal ratios by slot. -/
def Cand.before (c d : Cand) : Bool :=
  decide (c.call * d.weight < d.call * c.weight) || (c.call * d.weight = d.call * c.weight && decide (c.slot ≤ d.slot))

def insertCand (c : Cand) : List Cand → List Cand
  | [] => [c]
  | d :: ds => if c.before d then c :: d :: ds else d :: insertCand c ds

/-- The candidates in the order of R111. -/
def orderCands (cs : List Cand) : List Cand := cs.foldr insertCand []

/-- R111: the candidates are visited with a running pool and a running weight. -/
def shareOut (pool weight : Nat) : List Cand → List Share × Nat
  | [] => ([], pool)
  | c :: cs =>
    let offer := min c.call (pool * c.weight / weight)
    if offer < c.min then
      let r := shareOut pool (weight - c.weight) cs
      (⟨c.slot, 0, true⟩ :: r.1, r.2)
    else
      let r := shareOut (pool - offer) (weight - c.weight) cs
      (⟨c.slot, offer, false⟩ :: r.1, r.2)

/-- The class pass on a pool: what each candidate is given, and the pool left (R110, R111). -/
def classPass (pool : Nat) (cs : List Cand) : List Share × Nat :=
  if (cs.map (·.call)).sum ≤ pool then
    (cs.map fun c => ⟨c.slot, c.call, false⟩, pool - (cs.map (·.call)).sum)
  else shareOut pool (cs.map (·.weight)).sum (orderCands cs)

/-- The grant a slot was given, 0 if it took part in no class pass. -/
def grantIn (shares : List Share) (i : Nat) : Nat := ((shares.find? (·.slot = i)).map (·.grant)).getD 0

/-! ### Candidates (R108) -/

def RecordView.cand (r : RecordView) : Cand := ⟨r.slot, r.effCall, r.effMin, r.weight⟩

/-- The record is a candidate of the pass. -/
def View.candidate (v : View) (r : RecordView) : Bool :=
  r.supply = .active && admits v.level r.prio && decide (0 < r.effCall)

/-- The grade whose pool a grade-bound record draws on. -/
def RecordView.boundGrade (r : RecordView) : Option Grade :=
  match r.mode with
  | some .lean => some .tg
  | some .rich => some .og
  | some .fixed => r.grade
  | some .blend => none
  | some .heatMod => none
  | some .heatFixed => none
  | none => none

/-- The record draws on the heat pool. -/
def RecordView.heats (r : RecordView) : Bool := r.mode = some .heatMod || r.mode = some .heatFixed

/-- A tag matches a valid window of the grade (R91), judged on the windows handed to the pass. -/
def View.windowed (v : View) (g : Grade) (t : Tag) : Bool :=
  v.windows.any fun w => w.valid && w.grade = g && w.covers t

/-- The records of class `c` that enter the class pass of grade `g` (R113). -/
def View.gradeCands (v : View) (c : Nat) (g : Grade) : List Cand :=
  (v.records.filter fun r => v.candidate r && r.prio = c && r.boundGrade = some g
    && (!(v.grades.get g).inReserve || v.windowed g r.tag)).map (·.cand)

/-- The blend candidates of class `c` (R114). -/
def View.blendCands (v : View) (c : Nat) : List Cand :=
  (v.records.filter fun r => v.candidate r && r.prio = c && r.mode = some .blend).map (·.cand)

/-- The heat candidates of class `c` (R128). -/
def View.heatCands (v : View) (c : Nat) : List Cand :=
  (v.records.filter fun r => v.candidate r && r.prio = c && r.heats).map (·.cand)

/-! ### The gas stages (R113 to R117) -/

/-- A member of the shed set (R117). -/
structure ShedMember where
  slot : Nat
  prio : Nat
  heat : Bool
  deriving DecidableEq, Repr

/-- What the gas stages hand on: the grades' pools, the grants given, the draw splits, the shed set. -/
structure Stages where
  pools : PerGrade Nat
  shares : List Share
  splits : List (Nat × Split)
  shed : List ShedMember
  deriving DecidableEq, Repr

/-- The sheds of a class pass, in its order. -/
def shedOf (c : Nat) (heat : Bool) (shares : List Share) : List ShedMember :=
  (shares.filter (·.shed)).map fun x => ⟨x.slot, c, heat⟩

/-- R113: the class pass of one grade for class `c`. -/
def Stages.gradeBound (v : View) (c : Nat) (st : Stages) (g : Grade) : Stages :=
  let r := classPass (st.pools.get g) (v.gradeCands c g)
  { st with pools := st.pools.set g r.2, shares := st.shares ++ r.1, shed := st.shed ++ shedOf c false r.1 }

/-- What grade `g` offers to the blend stage: its remainder, or nothing when it is in reserve (R114). -/
def View.offered (v : View) (pools : PerGrade Nat) (g : Grade) : Nat :=
  if (v.grades.get g).inReserve then 0 else pools.get g

/-- R114. -/
def View.blendPool (v : View) (pools : PerGrade Nat) : Nat :=
  v.offered pools .tg + v.offered pools .og + v.offered pools .vg

/-- R115: a grant is drawn in the order VG, TG, OG. -/
def View.drawSplit (v : View) (pools : PerGrade Nat) (grant : Nat) : Split :=
  let vg := min grant (v.offered pools .vg)
  let tg := min (grant - vg) (v.offered pools .tg)
  ⟨vg, tg, min (grant - vg - tg) (v.offered pools .og)⟩

/-- The pools after a split has been drawn. -/
def drawn (pools : PerGrade Nat) (sp : Split) : PerGrade Nat :=
  ⟨pools.tg - sp.tg, pools.og - sp.og, pools.vg - sp.vg⟩

/-- R115: the grants of the slots are drawn one after another. -/
def View.drawAll (v : View) (shares : List Share) : List Nat → PerGrade Nat → PerGrade Nat × List (Nat × Split)
  | [], pools => (pools, [])
  | i :: is, pools =>
    let sp := v.drawSplit pools (grantIn shares i)
    let r := v.drawAll shares is (drawn pools sp)
    (r.1, (i, sp) :: r.2)

/-- R114, R115: the blend stage of class `c`. The view's records stand in slot order, so its candidates do. -/
def Stages.blend (v : View) (c : Nat) (st : Stages) : Stages :=
  let cands := v.blendCands c
  let r := classPass (v.blendPool st.pools) cands
  let d := v.drawAll r.1 (cands.map (·.slot)) st.pools
  ⟨d.1, st.shares ++ r.1, st.splits ++ d.2, st.shed ++ shedOf c false r.1⟩

/-- The grade-bound stage of class `c`, then its blend stage (R116). -/
def Stages.gasClass (v : View) (st : Stages) (c : Nat) : Stages :=
  (([.tg, .og, .vg] : List Grade).foldl (Stages.gradeBound v c) st).blend v c

/-- The gas stages, class 0 first (R116). -/
def View.gasStages (v : View) : Stages :=
  [0, 1, 2, 3].foldl (Stages.gasClass v) ⟨v.grades.map (·.available), [], [], []⟩

/-- A grade's results: what was left, and what was drawn (R116). -/
def View.gradeResults (v : View) (pools : PerGrade Nat) (g : Grade) : GradeResults :=
  let w := v.grades.get g
  ⟨w.supply, w.correction, w.available, w.available - pools.get g, pools.get g⟩

/-! ### The heat stages (R123 to R133) -/

/-- R125. -/
def View.steam (v : View) (shares : List Share) : Nat :=
  ((v.records.filter fun r => v.candidate r && r.cls = .boiler).map fun r => grantIn shares r.slot * r.eff / 1000).sum

/-- R126. -/
def View.recovered (v : View) : Nat :=
  match v.loop with
  | some l => heatPower l.flow v.cp l.supply l.return_
  | none => 0

/-- R127: the extraction maximum. -/
def View.extractionMax (v : View) (steam : Nat) : Nat := steam * v.extractionCeiling / 1000

/-- R127: the steam the turbine needs to carry the house load and the commitment. -/
def View.steamNeeded (v : View) : Nat := ((v.commitment + v.houseLoad) * 1000 + (v.turbineEff - 1)) / v.turbineEff

/-- R127: the extraction cap under the policy in force. -/
def View.extractionCap (v : View) (steam : Nat) : Nat :=
  match v.policy with
  | .heatFirst => v.extractionMax steam
  | .exportFirst => min (steam - v.steamNeeded) (v.extractionMax steam)

/-- What the heat stages hand on: the pool left, the grants given, the sheds. -/
structure HeatStages where
  pool : Nat
  shares : List Share
  shed : List ShedMember
  deriving DecidableEq, Repr

/-- R128: the heat pass of class `c`. -/
def HeatStages.heatClass (v : View) (st : HeatStages) (c : Nat) : HeatStages :=
  let r := classPass st.pool (v.heatCands c)
  ⟨r.2, st.shares ++ r.1, st.shed ++ shedOf c true r.1⟩

/-- The heat stages on a heat pool (R128). -/
def View.heatStages (v : View) (pool : Nat) : HeatStages := [0, 1, 2, 3].foldl (HeatStages.heatClass v) ⟨pool, [], []⟩

/-- R133: the shortfall of a pass, 0 when it is not short. -/
def View.shortfallOf (v : View) (ceiling : Nat) : Nat :=
  if ceiling + v.exportTolerance < v.commitment then v.commitment - ceiling else 0

/-- The balance figures (R125 to R133) from the grants of the gas stages and of the heat stages. -/
def View.balanceOf (v : View) (gas heat : List Share) : Balance :=
  let q := v.steam gas
  let r := v.recovered
  let cap := v.extractionCap q
  let granted := (heat.map (·.grant)).sum
  let e := min (granted - r) cap
  let p := (q - e) * v.turbineEff / 1000
  let x := p - v.houseLoad
  { steam := q
    recovered := r
    extractionMax := v.extractionMax q
    extractionCap := cap
    heatPool := min maxFigure (r + cap)
    heatGranted := granted
    extraction := e
    turbine := p
    houseLoad := v.houseLoad
    exportCeiling := x
    commitment := v.commitment
    shortfall := v.shortfallOf x
    policy := v.policy
    level := v.level }

/-- The heat pool (R128). -/
def View.heatPool (v : View) (gas : List Share) : Nat :=
  min maxFigure (v.recovered + v.extractionCap (v.steam gas))

/-- All that the stages of a pass give. -/
structure PassResult where
  shares : List Share
  splits : List (Nat × Split)
  shed : List ShedMember
  grades : PerGrade GradeResults
  balance : Balance
  deriving DecidableEq, Repr

/-- The stages of a pass, from its view (R113 to R133). -/
def View.result (v : View) : PassResult :=
  let gas := v.gasStages
  let heat := v.heatStages (v.heatPool gas.shares)
  ⟨gas.shares ++ heat.shares, gas.splits, gas.shed ++ heat.shed, .ofFn (v.gradeResults gas.pools),
    v.balanceOf gas.shares heat.shares⟩

/-- The result draw split of a slot, zeros if the blend stages drew nothing for it (R109, R115). -/
def PassResult.splitOf (r : PassResult) (i : Nat) : Split :=
  ((r.splits.find? (·.1 = i)).map (·.2)).getD ⟨0, 0, 0⟩

/-! ### The outcome (R120) -/

/-- The observed level: the highest of 4 minus the class. -/
def observedLevel (ms : List ShedMember) : Nat := (ms.map fun m => 4 - m.prio).foldl max 0

/-- The cause; an empty set has none, and none is asked for it. -/
def causeOf (ms : List ShedMember) : Cause :=
  if ms.all (·.heat) then .heat else if ms.any (·.heat) then .gasAndHeat else .gas

/-- The slots whose entries are void in a result table. -/
def voided (table : List PassEntry) (i : Nat) : Bool := table.any fun e => e.slot = i && e.void

end Sys2Proof.Machine
end

