-- ==== Sys2Proof/Machine/Passes.lean ====
section
/-! DEFINITION. PASS_BEGIN (R106 to R109, R85 to R89, R124) and PASS_COMPLETION (R118 to R120, R133, R134, R143 to
R146). -/

namespace Sys2Proof.Machine

open Sys2Proof

/-! ### The figures of a grade (R85 to R88) -/

/-- R85. -/
def State.supplyPower (s : State) (r : GradeRecord) : Nat :=
  let cv := (r.cv.map s.effValue).getD 0
  min maxFigure ((r.supplyChannels.map fun c => gasPower (s.effValue c) cv).sum)

/-- R86. -/
def State.holderCorrection (s : State) (r : GradeRecord) : Int :=
  match r.level with
  | some c => clampInt (-r.hMax) r.hMax (r.gain * (s.effValue c - r.target))
  | none => 0

/-- R88: the level read stands below the low level plus the reserve total. -/
def State.judgedInReserve (s : State) (r : GradeRecord) : Bool :=
  match r.level with
  | some c => decide (s.effValue c < (r.low + r.reserveTotal : Nat))
  | none => false

/-- R85 to R88: what the pass is handed of a grade. With no CV channel the supply is 0, and a holder above its target still
makes gas available: R87's sum is followed, where R85's prose says that such a grade offers no gas (DESIGN CHOICE,
log 24). -/
def State.gradeView (s : State) (g : Grade) : GradeView :=
  let r := s.grades.get g
  let supply := s.supplyPower r
  let correction := s.holderCorrection r
  ⟨supply, correction, min maxFigure ((supply : Int) + correction).toNat, s.judgedInReserve r⟩

/-- R88: the in-reserve flag of a grade is written, with a notice at each entry into reserve. -/
def State.judgeReserve (s : State) (g : Grade) : State :=
  let r := s.grades.get g
  let now := s.judgedInReserve r
  let t := s.putGrade g { r with inReserve := now }
  if now && !r.inReserve then t.raise .reserve g.code else t

/-! ### The view (R106, R107, R124) -/

/-- R107: the policy in force at a level. -/
def policyAt (level : Nat) (p : Policy) : Policy := if level < 3 then p else .heatFirst

/-- What the pass reads of a record (R106, part 3). -/
def Offtake.view (o : Offtake) (i : Nat) : RecordView where
  slot := i
  supply := o.supply
  cls := o.cls
  prio := o.prio
  mode := o.mode
  grade := o.grade
  tag := o.tag
  weight := o.weight
  eff := o.eff.getD 0
  effCall := o.effCall
  effMin := o.limits.1
  effMax := o.limits.2

/-- The non-vacant records in ascending slot order. -/
def State.recordViews (s : State) : List RecordView := slotNumbers.filterMap fun i => (s.offtake i).map (·.view i)

/-- R124: the readings of the recovery loop, when its channels are present. -/
def State.loopView (s : State) : Option LoopView :=
  match s.plant.loopFlow, s.plant.loopSupply, s.plant.loopReturn with
  | some f, some a, some b => some ⟨s.effValue f, s.effValue a, s.effValue b⟩
  | some _, some _, none => none
  | some _, none, _ => none
  | none, _, _ => none

/-- R124: the house load, an import or an absent channel counting as 0. -/
def State.houseLoad (s : State) : Nat := ((s.plant.houseLoad.map s.effValue).getD 0).toNat

/-- The view of a pass that begins now (R106, parts 2 to 5). -/
def State.view (s : State) : View where
  level := s.level
  policy := policyAt s.level s.plant.policy
  records := s.recordViews
  grades := .ofFn s.gradeView
  windows := s.windows.toList.filter (·.valid)
  turbineEff := s.plant.turbineEff
  extractionCeiling := s.plant.extractionCeiling
  cp := s.plant.cp
  exportTolerance := s.plant.exportTolerance
  commitment := s.plant.commitment
  loop := s.loopView
  houseLoad := s.houseLoad
  interval := s.plant.interval

/-- The result table at the beginning (R109). -/
def View.entries (v : View) : List PassEntry :=
  (v.records.filter (·.supply = .active)).map fun r =>
    ⟨r.slot, 0, if r.mode = some .blend then some ⟨0, 0, 0⟩ else none, false⟩

/-- R106: an expiry of the pass timer. It is not taken while a pass is in flight (R105; DESIGN CHOICE, log 22). -/
def State.beginPass (s : State) : State :=
  if s.pass.isSome then s
  else
    let s := s.readmit
    let v := s.view
    let s := ([.tg, .og, .vg] : List Grade).foldl State.judgeReserve s
    { s with pass := some ⟨v, v.entries⟩, passMs := 0, passLength := v.interval }

/-- PASS_BEGIN (R106). -/
def execPassBegin (s : State) : Host.Outcome State Fault Refusal := runEvent State.beginPass s

/-! ### The completion -/

/-- R118: the record with its result grant and, in BLEND, its result split. -/
def Offtake.granted (r : PassResult) (i : Nat) (o : Offtake) : Offtake :=
  { o with
    grant := grantIn r.shares i
    split := if o.mode = some .blend then some (r.splitOf i) else o.split }

/-- R118: one entry of the result table is written into its record and handed on. -/
def State.writeGrant (r : PassResult) (s : State) (e : PassEntry) : State :=
  if e.void || !s.isActive e.slot then s
  else (s.modOfftake e.slot (Offtake.granted r e.slot)).handGrant e.slot

/-- R119: the last pass results of each grade. -/
def State.writeResults (s : State) (r : PassResult) : State :=
  { s with grades := .ofFn fun g => { s.grades.get g with last := r.grades.get g } }

/-- R134, R133: the balance figures are written, and a short pass raises EXPORT_SHORT. -/
def State.writeBalance (s : State) (b : Balance) : State :=
  let t := { s with balance := b }
  if 0 < b.shortfall then t.raise .exportShort b.shortfall else t

/-- R144: a member of the shed set is shed into the top context's list. -/
def State.shedToTop (s : State) (i : Nat) : State := if s.isActive i then (s.shed i).appendTop i else s

/-- R143, R144: the sheds of an outcome are taken. -/
def State.takeSheds (s : State) (ms : List ShedMember) : State :=
  if s.level < observedLevel ms then s.push (observedLevel ms) .auto (causeOf ms) (ms.map (·.slot))
  else (ms.map (·.slot)).foldl State.shedToTop s

/-- R145: the recovery timer is judged. -/
def State.judgeTimer (s : State) (level interval : Nat) : State :=
  { s with recoveryTimer :=
      if level < s.level then min (s.recoveryTimer + interval) s.plant.recoveryHold else 0 }

/-- R143 to R146: the outcome is taken whole. -/
def State.takeOutcome (s : State) (ms : List ShedMember) (interval : Nat) : State :=
  ((s.takeSheds ms).judgeTimer (observedLevel ms) interval).recover

/-- R118 to R120: the pass in flight is completed. -/
def State.completePass (s : State) : State :=
  match s.pass with
  | none => s
  | some p =>
    let r := p.view.result
    let s := ((p.table.foldl (State.writeGrant r) s).writeResults r).writeBalance r.balance
    let s := { s with passSeq := (s.passSeq + 1) % 65536 }
    let s := s.takeOutcome (r.shed.filter fun m => !voided p.table m.slot) p.view.interval
    { s with pass := none }

/-- PASS_COMPLETION (R118). -/
def execPassCompletion (s : State) : Host.Outcome State Fault Refusal := runEvent State.completePass s

end Sys2Proof.Machine
end

