-- ==== Sys2Proof/Machine/Clock.lean ====
section
/-! DEFINITION. What the part does when no command waits (DESIGN CHOICE, log 4): the event that is due is
taken, or one millisecond passes. Every event is a row of the opcode table. The spec settles no order of events that
fall together; the order here is the model's. -/

namespace Sys2Proof.Machine

open Sys2Proof

/-! ### What is due -/

/-- A port works through its frame (R198). -/
def Port.dueRequest (q : Port) (p : PortId) : Option Instr :=
  match q.status with
  | .executing => q.remaining.head?.map (Instr.ofRequest p)
  | .idle => none
  | .answerReady => none

/-- The reply window of the exchange in flight is over (R26, R51). -/
def State.dueReply (s : State) : Option Instr :=
  if s.replyMs < Config.replyMs then none
  else
    match s.exchange with
    | some (.poll _ _ _) => some .pollTimeout
    | some (.setpoint _ _ _ _) => some .failedAttempt
    | none => none

/-- The channel's age has reached 1 s and its expiry has something to do (R75). -/
def Channel.ageDue (c : Channel) : Bool :=
  c.kind ≠ .noKind && decide (Config.ageMs ≤ c.ageMs) && (c.condition = .normal || c.goodRun ≠ 0)

/-- The channel's stale timer has reached 30 s (R76). -/
def Channel.staleDue (c : Channel) : Bool :=
  c.kind ≠ .noKind && c.condition = .stale && decide (Config.staleMs ≤ c.staleMs)

/-- The lowest channel with an expiry due. -/
def State.dueChannel (s : State) : Option Instr :=
  let channels := List.range Config.channels
  ((channels.find? fun c => (s.channels[c]?).any (·.ageDue)).map .ageExpiry).or
    ((channels.find? fun c => (s.channels[c]?).any (·.staleDue)).map .staleTimerExpiry)

/-- The quiet hold is over (R31). -/
def Offtake.quietDue (o : Offtake) : Bool := o.link = .quiet && decide (Config.quietMs ≤ o.quietMs)

/-- The silence limit is reached and has not been acted on (R36, R38). -/
def Offtake.silenceDue (o : Offtake) : Bool :=
  o.link ≠ .quiet && decide (Config.silenceMs ≤ o.silenceMs) && !(o.link = .listen && o.absent)

/-- The lowest slot with an expiry due. -/
def State.dueSlot (s : State) : Option Instr :=
  ((slotNumbers.find? fun i => (s.offtake i).any (·.quietDue)).map .quietHoldExpiry).or
    ((slotNumbers.find? fun i => (s.offtake i).any (·.silenceDue)).map .silenceExpiry)

/-- The pass timer has expired (R105), or the pass in flight is completed: at a point of its interval that
the spec leaves open, at the latest in its last millisecond (DESIGN CHOICE, log 6). -/
def State.duePass (s : State) : Option Instr :=
  if s.pass.isSome then
    if min (Config.completionMs s.passSeq) (s.passLength * 1000 - 1) ≤ s.passMs then some .passCompletion else none
  else if s.passLength * 1000 ≤ s.passMs then some .passBegin
  else none

/-- R171. -/
def State.dueTick (s : State) : Option Instr := if Config.tickMs ≤ s.tickMs then some .meteringTick else none

/-- The next exchange on the offtake link (R24, R25). -/
def State.dueExchange (s : State) : Option Instr :=
  if s.exchange.isSome then none
  else if s.setpointTurn then some .setpoint
  else s.nextPoll.map fun _ => .poll

/-- The event that is taken next, if one is due. -/
def State.due (s : State) : Option Instr :=
  (s.portA.dueRequest .portA).or <| (s.portB.dueRequest .portB).or <| s.dueReply.or <| s.dueChannel.or <|
    s.dueSlot.or <| s.duePass.or <| s.dueTick.or s.dueExchange

/-! ### One millisecond -/

/-- The timers of a channel (R75, R76). -/
def Channel.elapse (c : Channel) : Channel :=
  if c.kind = .noKind then c
  else
    { c with
      ageMs := min Config.maxAgeMs (c.ageMs + 1)
      staleMs := if c.condition = .stale then min Config.staleMs (c.staleMs + 1) else c.staleMs }

/-- The timers of a record's link (R28). -/
def Offtake.elapse (o : Offtake) : Offtake :=
  if o.link = .quiet then { o with quietMs := min Config.quietMs (o.quietMs + 1) }
  else { o with silenceMs := min Config.silenceMs (o.silenceMs + 1) }

/-- One millisecond passes. -/
def State.elapse (s : State) : State :=
  { s with
    slots := s.slots.map (Option.map Offtake.elapse)
    replyMs := if s.exchange.isSome then s.replyMs + 1 else s.replyMs
    channels := s.channels.map Channel.elapse
    passMs := s.passMs + 1
    tickMs := s.tickMs + 1 }

end Sys2Proof.Machine
end

