-- ==== Sys2Proof/Machine/Accounts.lean ====
section
/-! DEFINITION. The requests of the Account Table: OPEN_ACCOUNT (R163), AMEND_ACCOUNT (R164), READ_ACCOUNT (R165),
RETIRE_ACCOUNT (R166), BIND_ACCOUNT (R168), UNBIND_ACCOUNT (R169), SET_EXPORT_ACCOUNT (R170), CLOSE_PERIOD (R175),
TAKE_STATEMENT (R176), REPRICE (R177). -/

namespace Sys2Proof.Machine

open Sys2Proof

/-! ### Opening, amending, reading, retiring -/

def BandFigures.zero : BandFigures := ⟨0, 0, 0⟩

def AccountFlags.clear : AccountFlags := ⟨false, false, false, false⟩

/-- A figure that only EXPORT accounts hold (R160). -/
def AccountKind.deviation (k : AccountKind) (v : Nat) : Option Nat := if k = .exportKind then some v else none

/-- The new account of R160. -/
def newAccount (number : Nat) (k : AccountKind) (key : BitVec 12) : Account where
  number := number
  kind := k
  key := key
  boundCount := 0
  period := 0
  primary := .zero
  secondary := .zero
  shortfall := k.deviation 0
  surplus := k.deviation 0
  residue := 0
  shortfallResidue := k.deviation 0
  surplusResidue := k.deviation 0
  flags := .clear
  statement := none

/-- A VACANT entry, the lowest (DESIGN CHOICE, log 17: an account's place is never visible). -/
def State.vacantEntry (s : State) : Option Nat :=
  (List.range Config.accounts).find? fun i => ((s.accounts[i]?).join).isNone

def reqOpenAccount (p : PortId) (n k key : Nat) (s : State) : Reply :=
  if !s.hasRight p .settle then s.refuse .noRight
  else
    match AccountKind.ofCode k with
    | none => s.refuse .badValue
    | some kind =>
      if n = 0 ∨ 65535 < n ∨ 4095 < key then s.refuse .badValue
      else if (s.account n).isSome then s.refuse .duplicateAccount
      else
        match s.vacantEntry with
        | none => s.refuse .tableFull
        | some i =>
          { s with accounts := s.accounts.setIfInBounds i (some (newAccount n kind (BitVec.ofNat 12 key))) }.accept

/-- OPEN_ACCOUNT (R163). -/
def execOpenAccount (p : PortId) (n k key : Nat) (s : State) : Host.Outcome State Fault Refusal :=
  applyRequest p (.openAccount n k key) (reqOpenAccount p n k key) s

def reqAmendAccount (p : PortId) (n key : Nat) (s : State) : Reply :=
  if !s.hasRight p .settle then s.refuse .noRight
  else if 4095 < key then s.refuse .badValue
  else if (s.account n).isNone then s.refuse .noAccount
  else (s.modAccount n fun a => { a with key := BitVec.ofNat 12 key }).accept

/-- AMEND_ACCOUNT (R164). -/
def execAmendAccount (p : PortId) (n key : Nat) (s : State) : Host.Outcome State Fault Refusal :=
  applyRequest p (.amendAccount n key) (reqAmendAccount p n key) s

def reqReadAccount (n : Nat) (s : State) : Reply :=
  match s.account n with
  | none => s.refuse .noAccount
  | some a => ⟨.ok, .account a (decide (s.plant.exportAccount = some n)) s.band, s⟩

/-- READ_ACCOUNT (R165). -/
def execReadAccount (p : PortId) (n : Nat) (s : State) : Host.Outcome State Fault Refusal :=
  applyRequest p (.readAccount n) (reqReadAccount n) s

/-- Every counter is 0 (R160). -/
def Account.countersZero (a : Account) : Bool :=
  a.primary = .zero && a.secondary = .zero && a.shortfall.getD 0 = 0 && a.surplus.getD 0 = 0

/-- The account's entry becomes VACANT. -/
def State.closeEntry (s : State) (n : Nat) : State :=
  match s.accountEntry n with
  | some i => { s with accounts := s.accounts.setIfInBounds i none }
  | none => s

def reqRetireAccount (p : PortId) (n : Nat) (s : State) : Reply :=
  if !s.hasRight p .settle then s.refuse .noRight
  else
    match s.account n with
    | none => s.refuse .noAccount
    | some a =>
      if 0 < a.boundCount then s.refuse .accountInUse
      else if !a.countersZero || a.statement.isSome then s.refuse .accountNotSettled
      else (s.closeEntry n).accept

/-- RETIRE_ACCOUNT (R166). -/
def execRetireAccount (p : PortId) (n : Nat) (s : State) : Host.Outcome State Fault Refusal :=
  applyRequest p (.retireAccount n) (reqRetireAccount p n) s

/-! ### Binding -/

/-- The kind of account a record may be bound to (R168). -/
def OffClass.accountKind : OffClass → AccountKind
  | .boiler => .gasSale
  | .heatSub => .heatSale

def reqBindAccount (p : PortId) (i : Nat) (t : Tag) (n : Nat) (s : State) : Reply :=
  if !s.hasRight p .settle then s.refuse .noRight
  else
    match s.findRecord i t with
    | .error r => s.refuse r
    | .ok o =>
      if o.retiring then s.refuse .retiring
      else
        match s.account n with
        | none => s.refuse .noAccount
        | some a =>
          if a.kind ≠ o.cls.accountKind then s.refuse .wrongKind
          else if o.account = some n then s.accept
          else
            (((s.modOfftake i fun o => { o with account := some n }).unbindCount o.account).bindCount (some n)).accept

/-- BIND_ACCOUNT (R168). -/
def execBindAccount (p : PortId) (i : Nat) (t : Tag) (n : Nat) (s : State) : Host.Outcome State Fault Refusal :=
  applyRequest p (.bindAccount i t n) (reqBindAccount p i t n) s

def reqUnbindAccount (p : PortId) (i : Nat) (t : Tag) (s : State) : Reply :=
  if !s.hasRight p .settle then s.refuse .noRight
  else
    match s.findRecord i t with
    | .error r => s.refuse r
    | .ok o =>
      if o.retiring then s.refuse .retiring
      else ((s.modOfftake i fun o => { o with account := none }).unbindCount o.account).accept

/-- UNBIND_ACCOUNT (R169). -/
def execUnbindAccount (p : PortId) (i : Nat) (t : Tag) (s : State) : Host.Outcome State Fault Refusal :=
  applyRequest p (.unbindAccount i t) (reqUnbindAccount p i t) s

/-- The plant's export account becomes `n`, and the bound counts follow (R167, R170). -/
def State.setExport (s : State) (n : Option Nat) : State :=
  if s.plant.exportAccount = n then s
  else
    ({ s with plant := { s.plant with exportAccount := n } }.unbindCount s.plant.exportAccount).bindCount n

def reqSetExportAccount (p : PortId) (n : Option Nat) (s : State) : Reply :=
  if !s.hasRight p .settle then s.refuse .noRight
  else
    match n with
    | none => (s.setExport none).accept
    | some k =>
      match s.account k with
      | none => s.refuse .noAccount
      | some a => if a.kind ≠ .exportKind then s.refuse .wrongKind else (s.setExport (some k)).accept

/-- SET_EXPORT_ACCOUNT (R170). -/
def execSetExportAccount (p : PortId) (n : Option Nat) (s : State) : Host.Outcome State Fault Refusal :=
  applyRequest p (.setExportAccount n) (reqSetExportAccount p n) s

/-! ### Periods and statements -/

/-- The statement a close makes (R175). -/
def Account.closing (a : Account) : Statement := ⟨a.period, a.primary, a.secondary, a.shortfall, a.surplus, a.flags⟩

/-- The account after a close (R175). -/
def Account.closed (a : Account) : Account :=
  { a with
    statement := some a.closing
    primary := .zero
    secondary := .zero
    shortfall := a.shortfall.map fun _ => 0
    surplus := a.surplus.map fun _ => 0
    flags := .clear
    period := (a.period + 1) % 65536 }

def reqClosePeriod (p : PortId) (n : Nat) (s : State) : Reply :=
  if !s.hasRight p .settle then s.refuse .noRight
  else
    match s.account n with
    | none => s.refuse .noAccount
    | some a =>
      if a.statement.isSome then s.refuse .statementPending
      else ⟨.ok, .period a.period, s.modAccount n Account.closed⟩

/-- CLOSE_PERIOD (R175). -/
def execClosePeriod (p : PortId) (n : Nat) (s : State) : Host.Outcome State Fault Refusal :=
  applyRequest p (.closePeriod n) (reqClosePeriod p n) s

def reqTakeStatement (p : PortId) (n : Nat) (s : State) : Reply :=
  if !s.hasRight p .settle then s.refuse .noRight
  else
    match s.account n with
    | none => s.refuse .noAccount
    | some a =>
      match a.statement with
      | none => s.refuse .noStatement
      | some st => ⟨.ok, .statement st, s.modAccount n fun a => { a with statement := none }⟩

/-- TAKE_STATEMENT (R176). -/
def execTakeStatement (p : PortId) (n : Nat) (s : State) : Host.Outcome State Fault Refusal :=
  applyRequest p (.takeStatement n) (reqTakeStatement p n) s

/-! ### REPRICE -/

/-- R177: one band of an account is repriced at the answer of its lookup. -/
def Account.repriced (a : Account) (b : Band) (ans : PriceAnswer) : Account :=
  let f := a.figures b
  match ans.price with
  | some p =>
    { a.withFigures b { f with charge := satAdd Config.maxCharge f.charge (f.unpriced * p), unpriced := 0 } with
      flags := a.flags.with ans.overlap false (overflows Config.maxCharge f.charge (f.unpriced * p)) }
  | none => { a with flags := a.flags.with ans.overlap false false }

/-- R177: band `b` of account `n` is repriced if it has unpriced kWh. -/
def State.repriceBand (s : State) (n : Nat) (b : Band) : State :=
  match s.account n with
  | none => s
  | some a =>
    if (a.figures b).unpriced = 0 then s
    else
      let ans := s.lookup a.kind.medium a.key b
      let t := s.modAccount n fun a => a.repriced b ans
      if ans.overlap then t.raise .tariffOverlap n else t

/-- UNPRICED is cleared when both bands' unpriced kWh are 0 (R177). -/
def Account.settleUnpriced (a : Account) : Account :=
  if a.primary.unpriced = 0 ∧ a.secondary.unpriced = 0 then { a with flags := { a.flags with unpriced := false } } else a

/-- The band has unpriced kWh and its lookup answers a price (R177). -/
def State.pricesBand (s : State) (a : Account) (b : Band) : Bool :=
  (a.figures b).unpriced ≠ 0 && (s.lookup a.kind.medium a.key b).price.isSome

def reqReprice (p : PortId) (n : Nat) (s : State) : Reply :=
  if !s.hasRight p .settle then s.refuse .noRight
  else
    match s.account n with
    | none => s.refuse .noAccount
    | some a =>
      let after := ((s.repriceBand n .primary).repriceBand n .secondary).modAccount n Account.settleUnpriced
      if (a.primary.unpriced = 0 ∧ a.secondary.unpriced = 0) ∨ s.pricesBand a .primary ∨ s.pricesBand a .secondary then
        after.accept
      else after.refuse .noTariff

/-- REPRICE (R177). -/
def execReprice (p : PortId) (n : Nat) (s : State) : Host.Outcome State Fault Refusal :=
  applyRequest p (.reprice n) (reqReprice p n) s

end Sys2Proof.Machine
end

