-- ==== Sys2Proof/Machine/Grades.lean ====
section
/-! DEFINITION. The requests of the Grade Balance Unit: SET_GRADE (R93, R94), READ_GRADE (R97), SET_WINDOW (R95),
CLEAR_WINDOW (R96), READ_WINDOW (R98). -/

namespace Sys2Proof.Machine

open Sys2Proof

/-- The supply list: the channel places within the list length (R209). -/
def supplyList (b : GradeBody) : List Nat := [b.place1, b.place2, b.place3, b.place4].take b.supplyLength

/-- The levels after a negative one is raised to 0 (R93). -/
def lowOf (b : GradeBody) : Nat := floorZero maxFigure b.low
def targetOf (b : GradeBody) : Nat := floorZero maxFigure b.target
def highOf (b : GradeBody) : Nat := floorZero maxFigure b.high

/-- Check 2 of R93 but for the grade. -/
def gradeValuesOk (b : GradeBody) : Bool :=
  decide (b.supplyLength ≤ 4) && decide (lowOf b ≤ targetOf b) && decide (targetOf b ≤ highOf b)

/-- Check 3 of R93. -/
def gradeChannelsOk (s : State) (b : GradeBody) : Bool :=
  (supplyList b).all (s.channelIs .gasFlow) && decide (supplyList b).Nodup && b.cv.all (s.channelIs .cv)
    && b.level.all (s.channelIs .level)

/-- The grade record after an accepted SET_GRADE (R94). -/
def configuredGrade (b : GradeBody) (r : GradeRecord) : GradeRecord :=
  { r with
    supplyChannels := supplyList b
    cv := b.cv
    level := b.level
    low := lowOf b
    target := targetOf b
    high := highOf b
    gain := floorZero 10000 b.gain
    hMax := floorZero 500000 b.hMax }

def reqSetGrade (p : PortId) (b : GradeBody) (s : State) : Reply :=
  if !s.hasRight p .maintain then s.refuse .noRight
  else
    match Grade.ofCode b.grade with
    | none => s.refuse .badValue
    | some g =>
      if !gradeValuesOk b then s.refuse .badValue
      else if !gradeChannelsOk s b then s.refuse .badChannel
      else if reserveLimit (lowOf b) (highOf b) < (s.grades.get g).reserveTotal then s.refuse .reserveLimit
      else (s.putGrade g (configuredGrade b (s.grades.get g))).accept

/-- SET_GRADE (R93, R94). -/
def execSetGrade (p : PortId) (b : GradeBody) (s : State) : Host.Outcome State Fault Refusal :=
  applyRequest p (.setGrade b) (reqSetGrade p b) s

/-- The channels a grade names (R97): its supply list, then its CV and level channels. R97 gives no order of their
conditions in the answer; this one is the order in which R83 lists the channels (DEDUCED, log 25). -/
def GradeRecord.channels (r : GradeRecord) : List Nat := r.supplyChannels ++ r.cv.toList ++ r.level.toList

def reqReadGrade (g : Nat) (s : State) : Reply :=
  match Grade.ofCode g with
  | none => s.refuse .badValue
  | some g =>
    let r := s.grades.get g
    ⟨.ok, .grade r (reserveLimit r.low r.high) (r.channels.map s.condition), s⟩

/-- READ_GRADE (R97). -/
def execReadGrade (p : PortId) (g : Nat) (s : State) : Host.Outcome State Fault Refusal :=
  applyRequest p (.readGrade g) (reqReadGrade g) s

/-! ### Windows -/

/-- The reserve total of a grade: the sum of the reserves of its valid windows (R84). -/
def windowTotal (ws : List Window) (g : Grade) : Nat :=
  ((ws.filter fun w => w.valid && w.grade = g).map (·.reserve)).sum

/-- The reserve totals of every grade recomputed from the windows (R95, R96). -/
def State.retotal (s : State) : State :=
  { s with grades := PerGrade.ofFn fun g =>
      { s.grades.get g with reserveTotal := windowTotal s.windows.toList g } }

/-- The reserve a window already counts toward the total of grade `g` (R95). -/
def Window.share (w : Window) (g : Grade) : Nat := if w.valid && w.grade = g then w.reserve else 0

def reqSetWindow (p : PortId) (b : WindowBody) (s : State) : Reply :=
  if !s.hasRight p .maintain then s.refuse .noRight
  else
    match s.windows[b.window]?, Grade.ofCode b.grade with
    | some w, some g =>
      let reserve := floorZero maxFigure b.reserve
      let r := s.grades.get g
      if reserveLimit r.low r.high < r.reserveTotal - w.share g + reserve then s.refuse .reserveLimit
      else
        { s with windows := s.windows.setIfInBounds b.window ⟨true, g, b.value, b.mask, reserve⟩ }.retotal.accept
    | some _, none => s.refuse .badValue
    | none, _ => s.refuse .badValue

/-- SET_WINDOW (R95). -/
def execSetWindow (p : PortId) (b : WindowBody) (s : State) : Host.Outcome State Fault Refusal :=
  applyRequest p (.setWindow b) (reqSetWindow p b) s

def reqClearWindow (p : PortId) (w : Nat) (s : State) : Reply :=
  if !s.hasRight p .maintain then s.refuse .noRight
  else
    match s.windows[w]? with
    | none => s.refuse .badValue
    | some win =>
      if win.valid then
        { s with windows := s.windows.setIfInBounds w { win with valid := false } }.retotal.accept
      else s.accept

/-- CLEAR_WINDOW (R96). -/
def execClearWindow (p : PortId) (w : Nat) (s : State) : Host.Outcome State Fault Refusal :=
  applyRequest p (.clearWindow w) (reqClearWindow p w) s

def reqReadWindow (w : Nat) (s : State) : Reply :=
  match s.windows[w]? with
  | some win => ⟨.ok, .window win, s⟩
  | none => s.refuse .badValue

/-- READ_WINDOW (R98). -/
def execReadWindow (p : PortId) (w : Nat) (s : State) : Host.Outcome State Fault Refusal :=
  applyRequest p (.readWindow w) (reqReadWindow w) s

end Sys2Proof.Machine
end

