-- ==== Sys2Proof/Machine/Meters.lean ====
section
/-! DEFINITION. The Meter Channel Unit: SET_CHANNEL (R67, R68), READ_CHANNEL (R69), SAMPLE_MESSAGE (R64, R65, R70 to
R74, R77), AGE_EXPIRY (R75), STALE_TIMER_EXPIRY (R76). -/

namespace Sys2Proof.Machine

open Sys2Proof

/-- A threshold as stored: 0 for a kind that is not a flow kind, a negative one raised to 0 (R67). -/
def storedThreshold (k : ChannelKind) (v : Int) : Nat := if k.isFlow then floorZero maxFigure v else 0

/-- The channel as an accepted SET_CHANNEL leaves it (R67, R68). -/
def configuredChannel (b : ChannelBody) (k : ChannelKind) (pol : Polarity) : Channel where
  kind := k
  span := clampNat 1 65535 b.span
  offset := clampInt (-2147483647) 2147483647 b.offset
  onThreshold := storedThreshold k b.onThreshold
  offThreshold := min (storedThreshold k b.offThreshold) (storedThreshold k b.onThreshold)
  polarity := pol
  substitute := k.clamp b.substitute
  reversed := false
  value := 0
  activity := if k.isFlow then some .idle else none
  condition := .stale
  overrange := false
  ageMs := 0
  staleMs := 0
  goodRun := 0
  negativeRun := 0

def reqSetChannel (p : PortId) (b : ChannelBody) (s : State) : Reply :=
  if !s.hasRight p .maintain then s.refuse .noRight
  else if Config.channels ≤ b.channel then s.refuse .badChannel
  else
    match ChannelKind.ofCode b.kind, Polarity.ofCode b.polarity with
    | some k, some pol =>
      if pol = .auto && !k.isFlow then s.refuse .badValue
      else (s.modChannel b.channel fun _ => configuredChannel b k pol).accept
    | some _, none => s.refuse .badValue
    | none, _ => s.refuse .badValue

/-- SET_CHANNEL (R67, R68). -/
def execSetChannel (p : PortId) (b : ChannelBody) (s : State) : Host.Outcome State Fault Refusal :=
  applyRequest p (.setChannel b) (reqSetChannel p b) s

def reqReadChannel (c : Nat) (s : State) : Reply :=
  match s.channels[c]? with
  | some ch => ⟨.ok, .channel ch ch.effective, s⟩
  | none => s.refuse .badChannel

/-- READ_CHANNEL (R69). -/
def execReadChannel (p : PortId) (c : Nat) (s : State) : Host.Outcome State Fault Refusal :=
  applyRequest p (.readChannel c) (reqReadChannel c) s

/-- The raw reading a good sample uses (R65). -/
def usedReading (st : FrontEnd) (raw : Int) : Int :=
  match st with
  | .overrange => if raw = -32768 then -32767 else raw
  | .good => raw
  | .fault => raw

/-- A good sample with raw reading `raw` is taken by a channel (R65, R70 to R77). -/
def Channel.takeGood (c : Channel) (overrange : Bool) (raw : Int) : Channel :=
  let v := c.convert raw
  { c.goodRunGrown with
    value := v
    activity := c.activityAfter v
    overrange := overrange
    ageMs := 0
    reversed := c.reversed || c.turnsReversed v
    negativeRun := if c.turnsReversed v then 0 else c.negativeAfter v }

/-- A sample that passed its check is taken by the channel it names (R64, R65). -/
def State.takeSample (s : State) (d : SampleData) : State :=
  match s.channels[d.channel]? with
  | none => s
  | some c =>
    if c.kind = .noKind then s
    else
      match d.status with
      | .fault => s.modChannel d.channel fun c => { c with goodRun := 0 }
      | .good =>
        let t := s.modChannel d.channel fun c => c.takeGood false (usedReading .good d.raw)
        if c.turnsReversed (c.convert (usedReading .good d.raw)) then t.raise .meterReversed d.channel else t
      | .overrange =>
        let t := s.modChannel d.channel fun c => c.takeGood true (usedReading .overrange d.raw)
        if c.turnsReversed (c.convert (usedReading .overrange d.raw)) then t.raise .meterReversed d.channel else t

/-- SAMPLE_MESSAGE (R64, R212). -/
def execSampleMessage (bytes : List Byte) (s : State) : Host.Outcome State Fault Refusal :=
  runEvent (fun s =>
    match readSample bytes with
    | some d => s.takeSample d
    | none => s) s

/-- R75: the age of the channel has reached 1 s. -/
def State.ageExpiry (s : State) (c : Nat) : State :=
  match s.channels[c]? with
  | none => s
  | some ch =>
    if ch.kind = .noKind then s
    else
      let t := s.modChannel c Channel.ageExpired
      if ch.condition = .normal then t.raise .meterStale c else t

/-- AGE_EXPIRY (R75). -/
def execAgeExpiry (c : Nat) (s : State) : Host.Outcome State Fault Refusal := runEvent (·.ageExpiry c) s

/-- R76: the stale timer of the channel has reached 30 s. -/
def State.staleExpiry (s : State) (c : Nat) : State :=
  match s.channels[c]? with
  | none => s
  | some ch =>
    if ch.kind = .noKind ∨ ch.condition ≠ .stale then s
    else (s.modChannel c Channel.failedNow).raise .meterFailed c

/-- STALE_TIMER_EXPIRY (R76). -/
def execStaleTimerExpiry (c : Nat) (s : State) : Host.Outcome State Fault Refusal := runEvent (·.staleExpiry c) s

end Sys2Proof.Machine
end

