-- ==== Sys2Proof/Machine/Notices.lean ====
section
/-! DEFINITION. The requests of the Notice Table: READ_NOTICES and CLEAR_NOTICE (R203), SET_ROUTING and SET_NOTICE_MODE
(R204). -/

namespace Sys2Proof.Machine

open Sys2Proof

/-- The entry of a kind. -/
def State.notice (s : State) (k : NoticeKind) : NoticeEntry := (s.notices[k.code]?).getD (.reset false)

/-- What READ_NOTICES returns on port `p`: each entry pending for it, in ascending kind code. -/
def State.noticesFor (s : State) (p : PortId) : List NoticeCopy :=
  (NoticeKind.all.filter fun k => (s.notice k).pendingFor p).map fun k =>
    ⟨k, (s.notice k).subject, (s.notice k).count, standing s k (s.notice k).subject⟩

def reqReadNotices (p : PortId) (s : State) : Reply :=
  let after := match s.clearMode with
    | .readClears => { s with notices := s.notices.map fun e => if e.pendingFor p then e.clearFor p else e }
    | .checked => s
  ⟨.ok, .notices (s.noticesFor p), after⟩

/-- READ_NOTICES (R203). -/
def execReadNotices (p : PortId) (s : State) : Host.Outcome State Fault Refusal :=
  applyRequest p .readNotices (reqReadNotices p) s

def reqClearNotice (p : PortId) (c : Nat) (s : State) : Reply :=
  match NoticeKind.ofCode c with
  | none => s.refuse .badValue
  | some k =>
    if !(s.notice k).pendingFor p then s.accept
    else if s.clearMode = .checked && standing s k (s.notice k).subject then s.refuse .stillStanding
    else { s with notices := modAt s.notices k.code fun e => e.clearFor p }.accept

/-- CLEAR_NOTICE (R203). -/
def execClearNotice (p : PortId) (c : Nat) (s : State) : Host.Outcome State Fault Refusal :=
  applyRequest p (.clearNotice c) (reqClearNotice p c) s

/-- SET_ROUTING acts on the entry of kind code `c` for the named port (R204). -/
def routed (q : PortId) (setMask clearMask : BitVec 16) (c : Nat) (e : NoticeEntry) : NoticeEntry :=
  if setMask.getLsbD c then e.addRoute q else if clearMask.getLsbD c then e.dropRoute q else e

def reqSetRouting (p : PortId) (port : Nat) (setMask clearMask : BitVec 16) (s : State) : Reply :=
  if !s.hasRight p .maintain then s.refuse .noRight
  else
    match portOfCode port with
    | none => s.refuse .badValue
    | some q =>
      if 8192 ≤ setMask.toNat ∨ 8192 ≤ clearMask.toNat ∨ setMask &&& clearMask ≠ 0#16 then s.refuse .badValue
      else { s with notices := s.notices.mapIdx fun c e => routed q setMask clearMask c e }.accept

/-- SET_ROUTING (R204). -/
def execSetRouting (p : PortId) (port : Nat) (setMask clearMask : BitVec 16) (s : State) :
    Host.Outcome State Fault Refusal :=
  applyRequest p (.setRouting port setMask clearMask) (reqSetRouting p port setMask clearMask) s

def reqSetNoticeMode (p : PortId) (m : Nat) (s : State) : Reply :=
  if !s.hasRight p .maintain then s.refuse .noRight
  else
    match ClearMode.ofCode m with
    | none => s.refuse .badValue
    | some mode => { s with clearMode := mode }.accept

/-- SET_NOTICE_MODE (R204). -/
def execSetNoticeMode (p : PortId) (m : Nat) (s : State) : Host.Outcome State Fault Refusal :=
  applyRequest p (.setNoticeMode m) (reqSetNoticeMode p m) s

end Sys2Proof.Machine
end

