-- ==== Sys2Proof/Machine/Offtakes.lean ====
section
/-! DEFINITION. The requests of the Offtake Register and of enrollment: CREATE_OFFTAKE (R12, R13), AMEND_OFFTAKE (R14 to
R16), FIND_OFFTAKE (R17), READ_OFFTAKE (R18), RETIRE_OFFTAKE (R19), RENEGOTIATE (R43), RELEASE (R61). -/

namespace Sys2Proof.Machine

open Sys2Proof

/-! ### CREATE_OFFTAKE -/

/-- A non-vacant record of a slot other than `except` satisfies `f`. -/
def State.anyOther (s : State) (except : Option Nat) (f : Offtake → Bool) : Bool :=
  slotNumbers.any fun j => some j ≠ except && (s.offtake j).any f

/-- The meter bindings pass the checks of R4. -/
def State.bindingsOk (s : State) (c : OffClass) (b1 b2 : Nat) (b3 : Option Nat) : Bool :=
  match c with
  | .boiler => s.channelIs .gasFlow b1 && s.channelIs .cv b2
  | .heatSub => s.channelIs .waterFlow b1 && s.channelIs .temp b2 && b3.any (s.channelIs .temp) && some b2 ≠ b3

/-- Check 2 of R12: the values of R3, min firing not above max firing after saturation. -/
def createValuesOk (b : CreateBody) (c : OffClass) : Bool :=
  b.tag != 0#24 && decide (1 ≤ b.fig.addr) && decide (b.fig.addr ≤ 62) && validModes c b.fig.modes
    && (c = .heatSub || (Grade.ofCode b.fig.grade).isSome) && decide (b.fig.prio ≤ 3)
    && decide (satPower b.fig.minFiring ≤ satPower b.fig.maxFiring)

/-- The third binding, which only a HEAT_SUB has (R4). -/
def OffClass.third (c : OffClass) (b : Nat) : Option Nat :=
  match c with
  | .boiler => none
  | .heatSub => some b

/-- The record of R13. -/
def createdRecord (b : CreateBody) (c : OffClass) : Offtake where
  tag := b.tag
  cls := c
  addr := b.fig.addr
  permitted := b.fig.modes.setWidth 6
  rating := satPower b.fig.rating
  grade := if c = .boiler then Grade.ofCode b.fig.grade else none
  minFiring := satPower b.fig.minFiring
  maxFiring := satPower b.fig.maxFiring
  prio := b.fig.prio
  weight := clampWeight b.fig.weight
  eff := if c = .boiler then some (clampEff b.fig.eff) else none
  account := none
  retiring := false
  bind1 := b.fig.bind1
  bind2 := b.fig.bind2
  bind3 := c.third b.fig.bind3
  link := .quiet
  mode := none
  advert := none
  call := 0
  ackGrant := 0
  grant := 0
  split := none
  delivered := 0
  overdrawTimer := 0
  idleTimer := 0
  overdrawCount := 0
  noMode := false
  absent := false
  legacy := false
  trip := false
  estimated := false
  supply := .held
  quietMs := 0
  silenceMs := 0
  confirmCount := 0
  legacyRun := 0

/-- The lowest-numbered VACANT slot (R1). -/
def State.lowestVacant (s : State) : Option Nat := slotNumbers.find? fun i => (s.offtake i).isNone

def reqCreateOfftake (p : PortId) (b : CreateBody) (s : State) : Reply :=
  if !s.hasRight p .maintain then s.refuse .noRight
  else
    match OffClass.ofCode b.fig.cls with
    | none => s.refuse .badValue
    | some c =>
      if !createValuesOk b c then s.refuse .badValue
      else if !s.bindingsOk c b.fig.bind1 b.fig.bind2 (c.third b.fig.bind3) then s.refuse .badChannel
      else if s.anyOther none fun o => o.tag = b.tag then s.refuse .duplicateTag
      else if s.anyOther none fun o => o.addr = b.fig.addr then s.refuse .duplicateAddress
      else
        match s.lowestVacant with
        | none => s.refuse .tableFull
        | some i => ⟨.ok, .slotNumber i, s.putOfftake i (some (createdRecord b c))⟩

/-- CREATE_OFFTAKE (R12, R13). -/
def execCreateOfftake (p : PortId) (b : CreateBody) (s : State) : Host.Outcome State Fault Refusal :=
  applyRequest p (.createOfftake b) (reqCreateOfftake p b) s

/-! ### AMEND_OFFTAKE -/

/-- The field of a mask bit is named; bit 12 is not read for a BOILER (R209). -/
def amendNames (b : AmendBody) (c : OffClass) (bit : Nat) : Bool :=
  b.mask.getLsbD bit && (bit ≠ 12 || c = .heatSub)

/-- The mask bits whose fields need OPERATE, and those whose fields need MAINTAIN (R14). -/
def operateBits : List Nat := [2, 5, 6, 7, 8]
def maintainBits : List Nat := [1, 3, 4, 9, 10, 11, 12]

/-- The port holds the right for every field named (R14). -/
def amendRightsOk (b : AmendBody) (s : State) (p : PortId) (c : OffClass) : Bool :=
  (s.hasRight p .operate || !operateBits.any (amendNames b c))
    && (s.hasRight p .maintain || !maintainBits.any (amendNames b c))

/-- The record with every named field changed, with the saturations and clamps of R3. -/
def amended (b : AmendBody) (o : Offtake) : Offtake :=
  { o with
    addr := if amendNames b o.cls 1 then b.fig.addr else o.addr
    permitted := if amendNames b o.cls 2 then b.fig.modes.setWidth 6 else o.permitted
    rating := if amendNames b o.cls 3 then satPower b.fig.rating else o.rating
    grade := if amendNames b o.cls 4 then Grade.ofCode b.fig.grade else o.grade
    minFiring := if amendNames b o.cls 5 then satPower b.fig.minFiring else o.minFiring
    maxFiring := if amendNames b o.cls 6 then satPower b.fig.maxFiring else o.maxFiring
    prio := if amendNames b o.cls 7 then b.fig.prio else o.prio
    weight := if amendNames b o.cls 8 then clampWeight b.fig.weight else o.weight
    eff := if amendNames b o.cls 9 then some (clampEff b.fig.eff) else o.eff
    bind1 := if amendNames b o.cls 10 then b.fig.bind1 else o.bind1
    bind2 := if amendNames b o.cls 11 then b.fig.bind2 else o.bind2
    bind3 := if amendNames b o.cls 12 then some b.fig.bind3 else o.bind3 }

/-- The resolved mode, if there is one, is modulating. -/
def Offtake.modulates (o : Offtake) : Bool := o.mode.any Mode.modulating

/-- The BAD_VALUE cases of R15, none of which holds; `after` is the record as the request would leave it. -/
def amendValuesOk (b : AmendBody) (o after : Offtake) : Bool :=
  !amendNames b o.cls 0
    && !(o.cls = .heatSub && (amendNames b o.cls 4 || amendNames b o.cls 9))
    && (!amendNames b o.cls 7 || decide (b.fig.prio ≤ 3))
    && (!amendNames b o.cls 4 || (Grade.ofCode b.fig.grade).isSome)
    && (!amendNames b o.cls 1 || (decide (1 ≤ b.fig.addr) && decide (b.fig.addr ≤ 62)))
    && (!amendNames b o.cls 2 || validModes o.cls b.fig.modes)
    && decide (after.minFiring ≤ after.maxFiring)
    && !(o.modulates && o.advert.any fun a => decide (a.rating < after.minFiring))

/-- The named bindings pass the checks of R4, judged on the bindings the record would hold (R15). -/
def amendBindingsOk (b : AmendBody) (s : State) (o after : Offtake) : Bool :=
  match o.cls with
  | .boiler =>
    (!amendNames b o.cls 10 || s.channelIs .gasFlow after.bind1) && (!amendNames b o.cls 11 || s.channelIs .cv after.bind2)
  | .heatSub =>
    (!amendNames b o.cls 10 || s.channelIs .waterFlow after.bind1)
      && (!amendNames b o.cls 11 || s.channelIs .temp after.bind2)
      && (!amendNames b o.cls 12 || after.bind3.any (s.channelIs .temp))
      && (!(amendNames b o.cls 11 || amendNames b o.cls 12) || some after.bind2 ≠ after.bind3)

/-- The change of an accepted request sends the link to QUIET: the link address changes, or the resolved mode is
removed (R16; DEDUCED, log 16). -/
def Offtake.quietedBy (o after : Offtake) : Bool :=
  decide (o.addr ≠ after.addr) || o.mode.any fun m => !modeIn m after.permitted

/-- A change of any meter binding sets the overdraw timer to 0 (R16; DEDUCED, log 16). -/
def Offtake.rebound (o after : Offtake) : Offtake :=
  if o.bind1 ≠ after.bind1 ∨ o.bind2 ≠ after.bind2 ∨ o.bind3 ≠ after.bind3 then { after with overdrawTimer := 0 }
  else after

def reqAmendOfftake (p : PortId) (b : AmendBody) (s : State) : Reply :=
  match s.findRecord b.slot b.tag with
  | .error r => s.refuse r
  | .ok o =>
    let after := amended b o
    if !amendRightsOk b s p o.cls then s.refuse .noRight
    else if o.retiring then s.refuse .retiring
    else if !amendValuesOk b o after then s.refuse .badValue
    else if !amendBindingsOk b s o after then s.refuse .badChannel
    else if amendNames b o.cls 1 && s.anyOther (some b.slot) fun x => x.addr = b.fig.addr then s.refuse .duplicateAddress
    else
      let s := s.putOfftake b.slot (some (o.rebound after))
      (if o.quietedBy after then s.enterQuiet b.slot else s).accept

/-- AMEND_OFFTAKE (R14 to R16). -/
def execAmendOfftake (p : PortId) (b : AmendBody) (s : State) : Host.Outcome State Fault Refusal :=
  applyRequest p (.amendOfftake b) (reqAmendOfftake p b) s

/-! ### FIND_OFFTAKE and READ_OFFTAKE -/

/-- The copy of a slot that R18 describes. -/
def State.copyOf (s : State) (i : Nat) : OfftakeCopy :=
  match s.offtake i with
  | some o => ⟨some o, o.limits.1, o.limits.2, o.effCall⟩
  | none => ⟨none, 0, 0, 0⟩

/-- The slot whose record holds a tag (R17). -/
def State.slotOfTag (s : State) (t : Tag) : Option Nat := slotNumbers.find? fun i => (s.offtake i).any (·.tag = t)

def reqFindOfftake (t : Tag) (s : State) : Reply :=
  match s.slotOfTag t with
  | some i => ⟨.ok, .found i (s.copyOf i), s⟩
  | none => s.refuse .noSuchTag

/-- FIND_OFFTAKE (R17). -/
def execFindOfftake (p : PortId) (t : Tag) (s : State) : Host.Outcome State Fault Refusal :=
  applyRequest p (.findOfftake t) (reqFindOfftake t) s

def reqReadOfftake (i : Nat) (s : State) : Reply :=
  if i < Config.slots then ⟨.ok, .offtake (s.copyOf i), s⟩ else s.refuse .noSuchSlot

/-- READ_OFFTAKE (R18). -/
def execReadOfftake (p : PortId) (i : Nat) (s : State) : Host.Outcome State Fault Refusal :=
  applyRequest p (.readOfftake i) (reqReadOfftake i) s

/-! ### RETIRE_OFFTAKE -/

/-- The record waits for a close: it is linked and its partner may hold a non-zero setpoint (R19, step 5). -/
def State.waitsForClose (s : State) (i : Nat) (o : Offtake) : Bool :=
  o.linked && (decide (o.ackGrant ≠ 0) || s.sendsNonzero i)

/-- The supply state of a record at its retirement (R19, step 4). -/
def Supply.atRetirement : Supply → Supply
  | .active => .held
  | .shed => .held
  | .held => .held
  | .cut => .cut
  | .lockout => .lockout

/-- Steps 1 to 4 of R19, and the handing over of the grant. -/
def State.retire (s : State) (i : Nat) (o : Offtake) : State :=
  ((s.modOfftake i fun o => { o with retiring := true }).withdraw i o.supply.atRetirement).unlist i

def reqRetireOfftake (p : PortId) (i : Nat) (t : Tag) (s : State) : Reply :=
  if !s.hasRight p .maintain then s.refuse .noRight
  else
    match s.findRecord i t with
    | .error r => s.refuse r
    | .ok o =>
      if o.retiring then s.refuse .retiring
      else if s.waitsForClose i o then ⟨.ok, .outcome true, s.retire i o⟩
      else ⟨.ok, .outcome false, (s.retire i o).free i⟩

/-- RETIRE_OFFTAKE (R19). -/
def execRetireOfftake (p : PortId) (i : Nat) (t : Tag) (s : State) : Host.Outcome State Fault Refusal :=
  applyRequest p (.retireOfftake i t) (reqRetireOfftake p i t) s

/-! ### RENEGOTIATE and RELEASE -/

def reqRenegotiate (p : PortId) (i : Nat) (t : Tag) (s : State) : Reply :=
  if !s.hasRight p .operate then s.refuse .noRight
  else
    match s.findRecord i t with
    | .error r => s.refuse r
    | .ok o => if o.retiring then s.refuse .retiring else (s.enterQuiet i).accept

/-- RENEGOTIATE (R43). -/
def execRenegotiate (p : PortId) (i : Nat) (t : Tag) (s : State) : Host.Outcome State Fault Refusal :=
  applyRequest p (.renegotiate i t) (reqRenegotiate p i t) s

def reqRelease (p : PortId) (i : Nat) (t : Tag) (s : State) : Reply :=
  if !s.hasRight p .operate then s.refuse .noRight
  else
    match s.findRecord i t with
    | .error r => s.refuse r
    | .ok o =>
      if o.retiring then s.refuse .retiring
      else if o.supply ≠ .lockout then s.refuse .wrongState
      else ((s.modOfftake i fun o => { o with overdrawCount := 0, supply := .held }).enterQuiet i).accept

/-- RELEASE (R61). -/
def execRelease (p : PortId) (i : Nat) (t : Tag) (s : State) : Host.Outcome State Fault Refusal :=
  applyRequest p (.release i t) (reqRelease p i t) s

end Sys2Proof.Machine
end

