-- ==== Sys2Proof/Machine/Plants.lean ====
section
/-! DEFINITION. The requests of the Allocation Engine: SET_PLANT (R102, R103, R62), READ_PLANT (R104), SET_COMMITMENT
(R135), READ_BALANCE (R136). -/

namespace Sys2Proof.Machine

open Sys2Proof

/-- The three recovery-loop channels are all present or all absent (R102). -/
def loopWhole (b : PlantBody) : Bool :=
  (b.loopFlow.isSome == b.loopSupply.isSome) && (b.loopSupply.isSome == b.loopReturn.isSome)

/-- Check 3 of R102. -/
def plantChannelsOk (s : State) (b : PlantBody) : Bool :=
  b.loopFlow.all (s.channelIs .waterFlow) && b.loopSupply.all (s.channelIs .temp)
    && b.loopReturn.all (s.channelIs .temp) && b.houseLoad.all (s.channelIs .power)
    && b.exportChannel.all (s.channelIs .power) && (b.loopSupply = none || b.loopSupply ≠ b.loopReturn)

/-- The plant record after an accepted SET_PLANT, each figure clamped to its range (R101). -/
def configuredPlant (b : PlantBody) (pol : Policy) (p : Plant) : Plant where
  interval := clampNat 1 10 b.interval
  recoveryHold := clampNat 10 900 b.recoveryHold
  tolerance := clampNat 0 200 b.tolerance
  deadband := clampNat 0 50000 b.deadband
  overdrawLimit := clampNat 10 600 b.overdrawLimit
  lockoutLimit := clampNat 1 15 b.lockoutLimit
  turbineEff := clampNat 100 600 b.turbineEff
  extractionCeiling := clampNat 0 800 b.extractionCeiling
  cp := clampNat 3800 4400 b.cp
  policy := pol
  loopFlow := b.loopFlow
  loopSupply := b.loopSupply
  loopReturn := b.loopReturn
  houseLoad := b.houseLoad
  exportChannel := b.exportChannel
  exportTolerance := clampNat 0 100000 b.exportTolerance
  commitment := p.commitment
  exportAccount := p.exportAccount

/-- R62: a lowered lockout limit acts on the count of a record that is not in LOCKOUT. -/
def Offtake.limitedTo (limit : Nat) (o : Offtake) : Offtake :=
  if o.supply ≠ .lockout ∧ limit ≤ o.overdrawCount then { o with overdrawCount := limit - 1 } else o

/-- R62: the lockout limit is lowered to `limit`. -/
def State.lowerCounts (s : State) (limit : Nat) : State :=
  { s with slots := s.slots.map (Option.map (Offtake.limitedTo limit)) }

def reqSetPlant (p : PortId) (b : PlantBody) (s : State) : Reply :=
  if !s.hasRight p .maintain then s.refuse .noRight
  else
    match Policy.ofCode b.policy with
    | none => s.refuse .badValue
    | some pol =>
      if !loopWhole b then s.refuse .badValue
      else if !plantChannelsOk s b then s.refuse .badChannel
      else
        let after := configuredPlant b pol s.plant
        let t := { s with plant := after }
        (if after.lockoutLimit < s.plant.lockoutLimit then t.lowerCounts after.lockoutLimit else t).accept

/-- SET_PLANT (R102, R103). -/
def execSetPlant (p : PortId) (b : PlantBody) (s : State) : Host.Outcome State Fault Refusal :=
  applyRequest p (.setPlant b) (reqSetPlant p b) s

def reqReadPlant (s : State) : Reply := ⟨.ok, .plant s.plant s.pass.isSome s.passSeq, s⟩

/-- READ_PLANT (R104). -/
def execReadPlant (p : PortId) (s : State) : Host.Outcome State Fault Refusal :=
  applyRequest p .readPlant reqReadPlant s

def reqSetCommitment (p : PortId) (v : Int) (s : State) : Reply :=
  if !s.hasRight p .operate then s.refuse .noRight
  else { s with plant := { s.plant with commitment := floorZero 2000000 v } }.accept

/-- SET_COMMITMENT (R135). -/
def execSetCommitment (p : PortId) (v : Int) (s : State) : Host.Outcome State Fault Refusal :=
  applyRequest p (.setCommitment v) (reqSetCommitment p v) s

/-- R136 names the condition of each recovery-loop channel and gives no order among them; this one is the order in which
R101 lists the channels, flow, supply, return, with the house-load channel's behind them (DEDUCED, log 25). -/
def reqReadBalance (s : State) : Reply :=
  ⟨.ok, .balance s.balance s.passSeq (s.plant.loopFlow.map s.condition) (s.plant.loopSupply.map s.condition)
    (s.plant.loopReturn.map s.condition) (s.plant.houseLoad.map s.condition), s⟩

/-- READ_BALANCE (R136). -/
def execReadBalance (p : PortId) (s : State) : Host.Outcome State Fault Refusal :=
  applyRequest p .readBalance reqReadBalance s

end Sys2Proof.Machine
end

