-- ==== Sys2Proof/Machine/Answers.lean ====
section
/-! DEFINITION. Answer frames on the wire (R208): each answer body as the items its rule lists, in that order, each at
the width R207 gives its kind of item. A list is sent as its members alone, and a counter at the width its range needs
(DEDUCED, log 10). The absence of an item for which the spec gives no code is sent as a free value (DESIGN CHOICE,
log 9). -/

namespace Sys2Proof.Machine

open Sys2Proof

/-- An item present as figure `v`, or absent as the free value of its kind. -/
def putOpen (w : Nat) (k : Config.OpenItem) (v : Option Nat) : List Byte :=
  beBytes w (v.getD (Config.absentCode k))

def putFlag (b : Bool) : List Byte := beBytes 1 b.toNat

/-- Slots or channels, one byte each. -/
def putList (is : List Nat) : List Byte := is.flatMap (beBytes 1)

def putCondition (c : Option Condition) : List Byte := putOpen 1 .condition (c.map (·.code))

/-- A record's fields, in the order of R3 to R8; a VACANT slot reads zero or absent (R18). A BOILER's third binding is sent
as an absent channel, and a VACANT slot's bindings as 0, 0 and absent (DESIGN CHOICE, log 26). -/
def putRecord (o : Option Offtake) : List Byte :=
  match o with
  | some o =>
    putTag o.tag ++ beBytes 1 o.cls.code ++ beBytes 1 o.addr ++ beBytes 1 o.permitted.toNat ++ beBytes 4 o.rating
      ++ putOpen 1 .grade (o.grade.map (·.code)) ++ beBytes 4 o.minFiring ++ beBytes 4 o.maxFiring ++ beBytes 1 o.prio
      ++ beBytes 1 o.weight ++ putOpen 2 .efficiency o.eff ++ putAccount o.account ++ putFlag o.retiring
      ++ beBytes 1 o.bind1 ++ beBytes 1 o.bind2 ++ putChannel o.bind3
      ++ beBytes 1 o.link.code ++ putOpen 1 .mode (o.mode.map (·.bit))
      ++ putOpen 1 .advertModes (o.advert.map (·.modes.toNat)) ++ putOpen 4 .advertRating (o.advert.map (·.rating))
      ++ putOpen 1 .advertAck (o.advert.map (·.ack.toNat)) ++ beBytes 4 o.call ++ beBytes 4 o.ackGrant
      ++ beBytes 4 o.grant ++ putOpen 4 .splitFigure (o.split.map (·.vg)) ++ putOpen 4 .splitFigure (o.split.map (·.tg))
      ++ putOpen 4 .splitFigure (o.split.map (·.og)) ++ beBytes 4 o.delivered ++ beBytes 2 o.overdrawTimer
      ++ beBytes 2 o.idleTimer ++ beBytes 1 o.overdrawCount ++ putFlag o.noMode ++ putFlag o.absent ++ putFlag o.legacy
      ++ putFlag o.trip ++ putFlag o.estimated ++ beBytes 1 o.supply.code
  | none =>
    List.replicate 10 0#8 ++ putOpen 1 .grade none ++ List.replicate 10 0#8 ++ putOpen 2 .efficiency none
      ++ putAccount none ++ List.replicate 3 0#8 ++ putChannel none ++ [0#8]
      ++ putOpen 1 .mode none ++ putOpen 1 .advertModes none ++ putOpen 4 .advertRating none ++ putOpen 1 .advertAck none
      ++ List.replicate 12 0#8 ++ putOpen 4 .splitFigure none ++ putOpen 4 .splitFigure none
      ++ putOpen 4 .splitFigure none ++ List.replicate 15 0#8

def putCopy (c : OfftakeCopy) : List Byte :=
  putRecord c.record ++ beBytes 4 c.effMin ++ beBytes 4 c.effMax ++ beBytes 4 c.effCall

/-- The fields of R66 in its order, then the effective value (R69). -/
def putChannelCopy (c : Channel) (effective : Int) : List Byte :=
  beBytes 1 c.kind.code ++ beBytes 2 c.span ++ putInt 4 c.offset ++ beBytes 4 c.onThreshold ++ beBytes 4 c.offThreshold
    ++ beBytes 1 c.polarity.code ++ putInt 4 c.substitute ++ putFlag c.reversed ++ putInt 4 c.value
    ++ putChannel (c.activity.map (·.code)) ++ beBytes 1 c.condition.code ++ putFlag c.overrange
    ++ beBytes 2 (c.ageMs / 1000) ++ beBytes 2 (c.staleMs / 1000) ++ beBytes 1 c.goodRun ++ beBytes 1 c.negativeRun
    ++ putInt 4 effective

/-- The items of R97. -/
def putGradeCopy (g : GradeRecord) (limit : Nat) (conditions : List Condition) : List Byte :=
  putList g.supplyChannels ++ putChannel g.cv ++ putChannel g.level ++ beBytes 4 g.low ++ beBytes 4 g.target
    ++ beBytes 4 g.high ++ beBytes 2 g.gain ++ beBytes 4 g.hMax ++ beBytes 4 g.reserveTotal ++ beBytes 4 limit
    ++ putFlag g.inReserve ++ beBytes 4 g.last.supply ++ putInt 4 g.last.correction ++ beBytes 4 g.last.available
    ++ beBytes 4 g.last.granted ++ beBytes 4 g.last.unallocated ++ putList (conditions.map (·.code))

def putWindowCopy (w : Window) : List Byte :=
  putFlag w.valid ++ beBytes 1 w.grade.code ++ putTag w.value ++ putTag w.mask ++ beBytes 4 w.reserve

/-- The fields of R101 in its order, then the engine state and the sequence number (R104). -/
def putPlantCopy (p : Plant) (inFlight : Bool) (seq : Nat) : List Byte :=
  beBytes 2 p.interval ++ beBytes 2 p.recoveryHold ++ beBytes 2 p.tolerance ++ beBytes 4 p.deadband
    ++ beBytes 2 p.overdrawLimit ++ beBytes 1 p.lockoutLimit ++ beBytes 2 p.turbineEff ++ beBytes 2 p.extractionCeiling
    ++ beBytes 2 p.cp ++ beBytes 1 p.policy.code ++ putChannel p.loopFlow ++ putChannel p.loopSupply
    ++ putChannel p.loopReturn ++ putChannel p.houseLoad ++ putChannel p.exportChannel ++ beBytes 4 p.exportTolerance
    ++ beBytes 4 p.commitment ++ putAccount p.exportAccount ++ beBytes 1 inFlight.toNat ++ beBytes 2 seq

/-- The figures of R123 in its order. -/
def putBalanceFigures (b : Balance) : List Byte :=
  beBytes 4 b.steam ++ beBytes 4 b.recovered ++ beBytes 4 b.extractionMax ++ beBytes 4 b.extractionCap
    ++ beBytes 4 b.heatPool ++ beBytes 4 b.heatGranted ++ beBytes 4 b.extraction ++ beBytes 4 b.turbine
    ++ beBytes 4 b.houseLoad ++ beBytes 4 b.exportCeiling ++ beBytes 4 b.commitment ++ beBytes 4 b.shortfall
    ++ beBytes 1 b.policy.code ++ beBytes 1 b.level

def putContext (c : Context) : List Byte :=
  beBytes 1 c.level ++ beBytes 1 c.origin.code ++ beBytes 1 c.cause.code ++ putList c.shedList

/-- An energy counter needs five bytes, a charge counter seven (R160). -/
def putBands (p q : BandFigures) : List Byte :=
  beBytes 5 p.energy ++ beBytes 5 q.energy ++ beBytes 7 p.charge ++ beBytes 7 q.charge ++ beBytes 5 p.unpriced
    ++ beBytes 5 q.unpriced

def putFlags (f : AccountFlags) : List Byte :=
  putFlag f.estimated ++ putFlag f.overlap ++ putFlag f.unpriced ++ putFlag f.saturated

/-- An item that only an EXPORT account's statement holds: its bytes there, and none in any other (R160). -/
def putHeld (w : Nat) (v : Option Nat) : List Byte :=
  match v with
  | some x => beBytes w x
  | none => []

/-- A statement's items, in the order of R160. -/
def putStatement (st : Statement) : List Byte :=
  beBytes 2 st.period ++ putBands st.primary st.secondary ++ putHeld 5 st.shortfall ++ putHeld 5 st.surplus
    ++ putFlags st.flags

/-- The fields of R160 in its order, then for an EXPORT account whether it is the export account, then the band
selector (R165). A statement is sent in full when present, with no mark before it, and as one byte, a free value, when
absent (DESIGN CHOICE, log 27). -/
def putAccountCopy (a : Account) (isExport : Bool) (band : Band) : List Byte :=
  beBytes 2 a.number ++ beBytes 1 a.kind.code ++ beBytes 2 a.key.toNat ++ beBytes 1 a.boundCount ++ beBytes 2 a.period
    ++ putBands a.primary a.secondary ++ putOpen 5 .deviation a.shortfall ++ putOpen 5 .deviation a.surplus
    ++ beBytes 2 a.residue ++ putOpen 2 .deviationResidue a.shortfallResidue
    ++ putOpen 2 .deviationResidue a.surplusResidue ++ putFlags a.flags
    ++ (match a.statement with
      | some st => putStatement st
      | none => putOpen 1 .statement none)
    ++ (if a.kind = .exportKind then putFlag isExport else []) ++ beBytes 1 band.code

def putPair (t : TariffPair) : List Byte :=
  putFlag t.valid ++ beBytes 1 t.medium.code ++ beBytes 2 t.key.toNat ++ beBytes 2 t.mask.toNat ++ beBytes 1 t.season
    ++ putFlag t.shared ++ putPrice t.primary ++ putPrice t.secondary

/-- The items of R189. -/
def putProbe (p : Probe) : List Byte :=
  beBytes 1 p.season ++ beBytes 1 p.band.code ++ putList p.matched ++ putOpen 1 .chosenPair p.chosen
    ++ putFlag p.overlap
    ++ (match p.halves with
      | some (a, b) => putPrice a ++ putPrice b
      | none => [])
    ++ putOpen 4 .missedPrice p.primaryAnswer ++ putOpen 4 .missedPrice p.secondaryAnswer

/-- The width of a notice's subject: an account number two bytes, a figure in kW four, any other one (R200, R207). -/
def subjectWidth : NoticeKind → Nat
  | .exportShort => 4
  | .tariffMiss => 2
  | .tariffOverlap => 2
  | .noMode => 1
  | .linkDown => 1
  | .cut => 1
  | .lockout => 1
  | .curtailUp => 1
  | .curtailDown => 1
  | .reserve => 1
  | .meterStale => 1
  | .meterFailed => 1
  | .meterReversed => 1

def putNotice (n : NoticeCopy) : List Byte :=
  beBytes 1 n.kind.code ++ beBytes (subjectWidth n.kind) n.subject ++ beBytes 1 n.count ++ putFlag n.standing

/-- The bytes of an answer body. -/
def AnswerBody.bytes : AnswerBody → List Byte
  | .empty => []
  | .slotNumber i => beBytes 1 i
  | .found i c => beBytes 1 i ++ putCopy c
  | .offtake c => putCopy c
  | .outcome retiring => beBytes 1 retiring.toNat
  | .channel c v => putChannelCopy c v
  | .grade g limit cs => putGradeCopy g limit cs
  | .window w => putWindowCopy w
  | .plant p f n => putPlantCopy p f n
  | .balance b n flow supply return_ house =>
    putBalanceFigures b ++ beBytes 2 n ++ putCondition flow ++ putCondition supply ++ putCondition return_
      ++ putCondition house
  | .curtail level stack queue timer hold =>
    beBytes 1 level ++ beBytes 1 stack.length ++ stack.flatMap putContext ++ putList queue ++ beBytes 2 timer
      ++ beBytes 2 hold
  | .account a e b => putAccountCopy a e b
  | .period n => beBytes 2 n
  | .statement st => putStatement st
  | .pair t => putPair t
  | .probe p => putProbe p
  | .notices ns => ns.flatMap putNotice

/-- One request's answer in the answer frame (R208). -/
def RequestAnswer.bytes (a : RequestAnswer) : List Byte :=
  beBytes 1 a.code ++ beBytes 1 a.result.code ++ beBytes 2 a.body.bytes.length ++ a.body.bytes

/-- The answer frame a port holds (R208). -/
def Port.answerFrame (q : Port) : List Byte :=
  let answers := q.answers.flatMap RequestAnswer.bytes
  sealed (beBytes 2 (answers.length + 7) ++ beBytes 1 q.seqTag ++ beBytes 1 (if q.malformed then 2 else 0)
    ++ beBytes 1 q.count ++ answers)

/-- The port's state as it stood at the start of a transaction that now ends (R195): as the last transaction left it,
when this one began before a request ended the frame; as it is, when it began after. -/
def Port.statusAtStart (q : Port) (early : Bool) : PortStatus := if early then q.settled else q.status

/-- The bytes shifted out in a transaction that began with the port in state `start`, in which `clocked` bytes follow the
state byte and the part has `out` to send: bytes clocked beyond the end are 0xFF (R195). -/
def shiftedOut (start : PortStatus) (out : List Byte) (clocked : Nat) : List Byte :=
  BitVec.ofNat 8 start.code :: (out.take clocked ++ List.replicate (clocked - out.length) 0xFF#8)

end Sys2Proof.Machine
end

