-- ==== Sys2Proof/Machine/Ports.lean ====
section
/-! DEFINITION. The transactions of the request ports: WRITE_FRAME (R195, R196, R207) and READ_ANSWER (R195, R208). -/

namespace Sys2Proof.Machine

open Sys2Proof

/-- R195: the port's state does not change in a transaction that shifts out the bytes `miso`. -/
def Port.unchanged (q : Port) (miso : List Byte) : Port := { q with settled := q.status, miso := miso }

/-- R195, R196: a write-frame transaction ends on a port. That nothing but the state byte is held of what it shifts out is
the model's (DESIGN CHOICE, log 14). -/
def Port.wroteFrame (q : Port) (x : WriteTransaction) : Port :=
  let miso := shiftedOut (q.statusAtStart x.early) [] 0
  match q.status with
  | .idle =>
    match readFrame x.bytes with
    | some f => ⟨.executing, f.seqTag, f.requests.length, false, f.requests, [], .executing, miso⟩
    | none => ⟨.answerReady, frameTag x.bytes, 0, true, [], [], .answerReady, miso⟩
  | .executing => q.unchanged miso
  | .answerReady => q.unchanged miso

/-- WRITE_FRAME (R196). -/
def execWriteFrame (p : PortId) (x : WriteTransaction) (s : State) : Host.Outcome State Fault Refusal :=
  runEvent (fun s => s.setPort p ((s.port p).wroteFrame x)) s

/-- R195: a read-answer transaction ends on a port. -/
def Port.readAnswer (q : Port) (early : Bool) (clocked : Nat) : Port :=
  let start := q.statusAtStart early
  match q.status with
  | .idle => q.unchanged (shiftedOut start [] clocked)
  | .executing => q.unchanged (shiftedOut start [] clocked)
  | .answerReady => { Port.reset with miso := shiftedOut start q.answerFrame clocked }

/-- R195: a transaction ends whose code is not 0x10: 0x20 reads the answer; any other has the state byte alone. -/
def Port.transacted (q : Port) (x : ReadTransaction) : Port :=
  if x.code = 0x20#8 then q.readAnswer x.early x.clocked else q.unchanged (shiftedOut (q.statusAtStart x.early) [] 0)

/-- READ_ANSWER, and the transactions of any other code but WRITE_FRAME's, which have no row of their own (R195). -/
def execReadAnswer (p : PortId) (x : ReadTransaction) (s : State) : Host.Outcome State Fault Refusal :=
  runEvent (fun s => s.setPort p ((s.port p).transacted x)) s

end Sys2Proof.Machine
end

