-- ==== Sys2Proof/Machine/Reset.lean ====
section
/-! DEFINITION. FULL_RESET, RESET_RELEASE (R205, R206) and RESTART (R199 and the last rules of each chapter). -/

namespace Sys2Proof.Machine

open Sys2Proof

/-- The part is in reset: no MISO output is driven, and nothing of it runs until the release (R205). -/
def State.intoReset (s : State) : State :=
  { s with inReset := true, portA := { s.portA with miso := [] }, portB := { s.portB with miso := [] } }

/-- FULL_RESET (R205). -/
def execFullReset (s : State) : Host.Outcome State Fault Refusal := .next s.intoReset

/-- RESET_RELEASE (R205): the straps are latched and every block takes its full-reset values; the commands that wait
are the sender's and stay. -/
def execResetRelease (maintEn noticeMode : Bool) (s : State) : Host.Outcome State Fault Refusal :=
  .next { State.released maintEn noticeMode with pending := s.pending }

/-- R23: what RESTART leaves of a record that is not retiring; its enrollment items are 0 (R45). -/
def Offtake.restarted (o : Offtake) : Offtake :=
  { o.quieted with
    grant := 0
    ackGrant := 0
    overdrawTimer := 0
    idleTimer := if o.supply = .cut then 0 else o.idleTimer
    supply := match o.supply with
      | .cut => .cut
      | .lockout => .lockout
      | .held => .held
      | .active => .held
      | .shed => .held
    silenceMs := 0 }

/-- R23: RESTART on one slot. -/
def State.restartSlot (s : State) (i : Nat) : State :=
  match s.offtake i with
  | some o => if o.retiring then s.free i else s.putOfftake i (some o.restarted)
  | none => s

/-- R82. -/
def Channel.restarted (c : Channel) : Channel := { c with ageMs := 0, staleMs := 0 }

/-- R100. -/
def GradeRecord.restarted (g : GradeRecord) : GradeRecord := { g with inReserve := false, last := .reset }

/-- RESTART in every block, in one event: R23, R45, R63, R82, R100, R122, R138, R158, R179, R194, R206. -/
def State.restarted (s : State) : State :=
  let s := slotNumbers.foldl State.restartSlot s
  { s with
    pollCursor := 0
    exchange := none
    replyMs := 0
    afterPoll := false
    setpointQueue := []
    channels := s.channels.map Channel.restarted
    grades := s.grades.map GradeRecord.restarted
    passMs := 0
    passLength := s.plant.interval
    pass := none
    passSeq := 0
    balance := .reset
    stack := []
    readmission := []
    recoveryTimer := 0
    notices := s.notices.map NoticeEntry.restarted }

/-- The RESTART request. -/
def reqRestart (p : PortId) (s : State) : Reply :=
  if !s.hasRight p .maintain then s.refuse .noRight else s.restarted.accept

/-- RESTART (R199). -/
def execRestart (p : PortId) (s : State) : Host.Outcome State Fault Refusal :=
  applyRequest p .restart (reqRestart p) s

end Sys2Proof.Machine
end

