-- ==== Sys2Proof/Machine/Tariffs.lean ====
section
/-! DEFINITION. The requests of the Tariff Match Table: WRITE_TARIFF (R186), INVALIDATE_TARIFF (R187), READ_TARIFF
(R188), PROBE_TARIFF (R189), SET_SEASON (R190), SET_BAND (R191). -/

namespace Sys2Proof.Machine

open Sys2Proof

/-- The BAD_VALUE cases of R186 but for the pair number and the medium, none of which holds. -/
def tariffValuesOk (b : TariffBody) : Bool :=
  decide (b.key ≤ 4095) && decide (b.mask ≤ 4095) && decide (b.season ≤ 255) && b.primary.all (· ≤ 999999)
    && b.secondary.all (· ≤ 999999)

/-- The pair as an accepted WRITE_TARIFF leaves it (R186). -/
def writtenPair (b : TariffBody) (m : Medium) : TariffPair :=
  ⟨true, m, BitVec.ofNat 12 b.key, BitVec.ofNat 12 b.mask, b.season, b.shared, b.primary, b.secondary⟩

def reqWriteTariff (p : PortId) (b : TariffBody) (s : State) : Reply :=
  if !s.hasRight p .settle then s.refuse .noRight
  else if Config.pairs ≤ b.pair then s.refuse .badValue
  else
    match Medium.ofCode b.medium with
    | none => s.refuse .badValue
    | some m =>
      if !tariffValuesOk b then s.refuse .badValue
      else
        { s with pairs := s.pairs.setIfInBounds b.pair (writtenPair b m) }.accept

/-- WRITE_TARIFF (R186). -/
def execWriteTariff (p : PortId) (b : TariffBody) (s : State) : Host.Outcome State Fault Refusal :=
  applyRequest p (.writeTariff b) (reqWriteTariff p b) s

def reqInvalidateTariff (p : PortId) (i : Nat) (s : State) : Reply :=
  if !s.hasRight p .settle then s.refuse .noRight
  else if Config.pairs ≤ i then s.refuse .badValue
  else { s with pairs := modAt s.pairs i fun t => { t with valid := false } }.accept

/-- INVALIDATE_TARIFF (R187). -/
def execInvalidateTariff (p : PortId) (i : Nat) (s : State) : Host.Outcome State Fault Refusal :=
  applyRequest p (.invalidateTariff i) (reqInvalidateTariff p i) s

def reqReadTariff (i : Nat) (s : State) : Reply :=
  match s.pairs[i]? with
  | some t => ⟨.ok, .pair t, s⟩
  | none => s.refuse .badValue

/-- READ_TARIFF (R188). -/
def execReadTariff (p : PortId) (i : Nat) (s : State) : Host.Outcome State Fault Refusal :=
  applyRequest p (.readTariff i) (reqReadTariff i) s

/-- What PROBE_TARIFF answers (R189). -/
def State.probe (s : State) (m : Medium) (key : BitVec 12) : Probe where
  season := s.season
  band := s.band
  matched := s.matchSet m key
  chosen := (s.matchSet m key).head?
  overlap := decide (1 < (s.matchSet m key).length)
  halves := ((s.matchSet m key).head?).bind fun i => (s.pairs[i]?).map fun t => (t.primary, t.secondary)
  primaryAnswer := (s.lookup m key .primary).price
  secondaryAnswer := (s.lookup m key .secondary).price

def reqProbeTariff (m key : Nat) (s : State) : Reply :=
  match Medium.ofCode m with
  | none => s.refuse .badValue
  | some medium =>
    if 4095 < key then s.refuse .badValue else ⟨.ok, .probe (s.probe medium (BitVec.ofNat 12 key)), s⟩

/-- PROBE_TARIFF (R189). -/
def execProbeTariff (p : PortId) (m key : Nat) (s : State) : Host.Outcome State Fault Refusal :=
  applyRequest p (.probeTariff m key) (reqProbeTariff m key) s

def reqSetSeason (p : PortId) (n : Nat) (s : State) : Reply :=
  if !s.hasRight p .settle then s.refuse .noRight
  else if 255 < n then s.refuse .badValue
  else { s with season := n }.accept

/-- SET_SEASON (R190). -/
def execSetSeason (p : PortId) (n : Nat) (s : State) : Host.Outcome State Fault Refusal :=
  applyRequest p (.setSeason n) (reqSetSeason p n) s

def reqSetBand (p : PortId) (b : Nat) (s : State) : Reply :=
  if !s.hasRight p .settle then s.refuse .noRight
  else
    match Band.ofCode b with
    | none => s.refuse .badValue
    | some band => { s with band := band }.accept

/-- SET_BAND (R191). -/
def execSetBand (p : PortId) (b : Nat) (s : State) : Host.Outcome State Fault Refusal :=
  applyRequest p (.setBand b) (reqSetBand p b) s

end Sys2Proof.Machine
end

