-- ==== Sys2Proof/Machine/Dispatch.lean ====
section
/-! DEFINITION. The meaning of every command: one arm for each row of spec/opcode_table.json, in the table's order. -/

namespace Sys2Proof.Machine

open Sys2Proof

/-- The effect of a command on everything but the queue. -/
def exec (i : Instr) (s : State) : Host.Outcome State Fault Refusal :=
  match i with
  | .fullReset => Sys2Proof.Machine.execFullReset s
  | .resetRelease maintEn noticeMode => Sys2Proof.Machine.execResetRelease maintEn noticeMode s
  | .writeFrame p x => Sys2Proof.Machine.execWriteFrame p x s
  | .readAnswer p x => Sys2Proof.Machine.execReadAnswer p x s
  | .createOfftake p b => Sys2Proof.Machine.execCreateOfftake p b s
  | .amendOfftake p b => Sys2Proof.Machine.execAmendOfftake p b s
  | .findOfftake p tag => Sys2Proof.Machine.execFindOfftake p tag s
  | .readOfftake p slot => Sys2Proof.Machine.execReadOfftake p slot s
  | .retireOfftake p slot tag => Sys2Proof.Machine.execRetireOfftake p slot tag s
  | .renegotiate p slot tag => Sys2Proof.Machine.execRenegotiate p slot tag s
  | .release p slot tag => Sys2Proof.Machine.execRelease p slot tag s
  | .setChannel p b => Sys2Proof.Machine.execSetChannel p b s
  | .readChannel p channel => Sys2Proof.Machine.execReadChannel p channel s
  | .setGrade p b => Sys2Proof.Machine.execSetGrade p b s
  | .readGrade p grade => Sys2Proof.Machine.execReadGrade p grade s
  | .setWindow p b => Sys2Proof.Machine.execSetWindow p b s
  | .clearWindow p window => Sys2Proof.Machine.execClearWindow p window s
  | .readWindow p window => Sys2Proof.Machine.execReadWindow p window s
  | .setPlant p b => Sys2Proof.Machine.execSetPlant p b s
  | .readPlant p => Sys2Proof.Machine.execReadPlant p s
  | .setCommitment p figure => Sys2Proof.Machine.execSetCommitment p figure s
  | .readBalance p => Sys2Proof.Machine.execReadBalance p s
  | .pushCurtail p level => Sys2Proof.Machine.execPushCurtail p level s
  | .popCurtail p => Sys2Proof.Machine.execPopCurtail p s
  | .readCurtail p => Sys2Proof.Machine.execReadCurtail p s
  | .openAccount p number kind key => Sys2Proof.Machine.execOpenAccount p number kind key s
  | .amendAccount p number key => Sys2Proof.Machine.execAmendAccount p number key s
  | .readAccount p number => Sys2Proof.Machine.execReadAccount p number s
  | .retireAccount p number => Sys2Proof.Machine.execRetireAccount p number s
  | .bindAccount p slot tag number => Sys2Proof.Machine.execBindAccount p slot tag number s
  | .unbindAccount p slot tag => Sys2Proof.Machine.execUnbindAccount p slot tag s
  | .setExportAccount p number => Sys2Proof.Machine.execSetExportAccount p number s
  | .closePeriod p number => Sys2Proof.Machine.execClosePeriod p number s
  | .takeStatement p number => Sys2Proof.Machine.execTakeStatement p number s
  | .reprice p number => Sys2Proof.Machine.execReprice p number s
  | .writeTariff p b => Sys2Proof.Machine.execWriteTariff p b s
  | .invalidateTariff p pair => Sys2Proof.Machine.execInvalidateTariff p pair s
  | .readTariff p pair => Sys2Proof.Machine.execReadTariff p pair s
  | .probeTariff p medium key => Sys2Proof.Machine.execProbeTariff p medium key s
  | .setSeason p season => Sys2Proof.Machine.execSetSeason p season s
  | .setBand p band => Sys2Proof.Machine.execSetBand p band s
  | .readNotices p => Sys2Proof.Machine.execReadNotices p s
  | .clearNotice p kind => Sys2Proof.Machine.execClearNotice p kind s
  | .setRouting p port setMask clearMask => Sys2Proof.Machine.execSetRouting p port setMask clearMask s
  | .setNoticeMode p mode => Sys2Proof.Machine.execSetNoticeMode p mode s
  | .restart p => Sys2Proof.Machine.execRestart p s
  | .sampleMessage bytes => Sys2Proof.Machine.execSampleMessage bytes s
  | .ageExpiry channel => Sys2Proof.Machine.execAgeExpiry channel s
  | .staleTimerExpiry channel => Sys2Proof.Machine.execStaleTimerExpiry channel s
  | .quietHoldExpiry slot => Sys2Proof.Machine.execQuietHoldExpiry slot s
  | .silenceExpiry slot => Sys2Proof.Machine.execSilenceExpiry slot s
  | .poll => Sys2Proof.Machine.execPoll s
  | .pollTimeout => Sys2Proof.Machine.execPollTimeout s
  | .advert m => Sys2Proof.Machine.execAdvert m s
  | .status m => Sys2Proof.Machine.execStatus m s
  | .legacy m => Sys2Proof.Machine.execLegacy m s
  | .setpoint => Sys2Proof.Machine.execSetpoint s
  | .setpointAck m => Sys2Proof.Machine.execSetpointAck m s
  | .failedAttempt => Sys2Proof.Machine.execFailedAttempt s
  | .meteringTick => Sys2Proof.Machine.execMeteringTick s
  | .cut slot => Sys2Proof.Machine.execCut slot s
  | .idleRelease slot => Sys2Proof.Machine.execIdleRelease slot s
  | .passBegin => Sys2Proof.Machine.execPassBegin s
  | .passCompletion => Sys2Proof.Machine.execPassCompletion s
  | .recoveryHoldExpiry => Sys2Proof.Machine.execRecoveryHoldExpiry s

end Sys2Proof.Machine
end

