-- ==== Sys2Proof/Machine/Step.lean ====
section
/-! DEFINITION. One step of the part: the command at the front of the queue, or, when none waits, the event that is
due or one millisecond (DESIGN CHOICE, log 4). -/

namespace Sys2Proof.Machine

open Sys2Proof

/-- What the part does when no command waits. In reset nothing of it runs (R205; DEDUCED, log 5). -/
def idleStep (s : State) : Host.Outcome State Fault Refusal :=
  if s.inReset then .next s
  else
    match s.due with
    | some c => exec c s
    | none => .next s.elapse

/-- One step. -/
def step (s : State) : Host.Outcome State Fault Refusal :=
  match s.pending with
  | c :: rest => exec c { s with pending := rest }
  | [] => idleStep s

/-- The command that a word spells, put at the front of the queue; no word spells one (DEDUCED, log 20). -/
def State.withFetchWord (s : State) (nbits w : Nat) : State :=
  match decodeTableWord nbits w with
  | some c => { s with pending := c :: s.pending }
  | none => s

end Sys2Proof.Machine
end

