-- ==== Sys2Proof/Safety.lean ====
section
/-! DEFINITION. What counts as a safe run, in the spec's own terms: the laws that it says the part holds to at every
moment, each as a predicate of a state; and the words that the statements about requests share. -/

namespace Sys2Proof.Machine

open Sys2Proof

/-! ### Requests -/

/-- Port `p`, as `q`, is to apply request `r` next, and the part is out of reset. -/
def State.takes (s : State) (p : PortId) (r : Request) (q : Port) : Prop :=
  s.inReset = false ∧ (s.port p).taking r = some q

/-- The state with request `r` of port `p`, taken as `q`, answered (R198). -/
def State.answer (s : State) (p : PortId) (q : Port) (r : Request) (result : Result) (body : AnswerBody) : State :=
  s.setPort p (q.answered r.code result body)

/-- The state byte a transaction on the port shows: the state as it stood when the transaction began (R195). -/
def Port.stateByte (q : Port) (early : Bool) : Byte :=
  match if early then q.settled else q.status with
  | .idle => 0x00#8
  | .executing => 0x01#8
  | .answerReady => 0x02#8

/-- The right that a request of its kind needs before anything else of it is examined. AMEND_OFFTAKE's rights follow
from the fields it names (R14), and the reads need none. -/
def neededRight : Request → Option Right
  | .createOfftake _ => some .maintain
  | .amendOfftake _ => none
  | .findOfftake _ => none
  | .readOfftake _ => none
  | .retireOfftake _ _ => some .maintain
  | .renegotiate _ _ => some .operate
  | .release _ _ => some .operate
  | .setChannel _ => some .maintain
  | .readChannel _ => none
  | .setGrade _ => some .maintain
  | .readGrade _ => none
  | .setWindow _ => some .maintain
  | .clearWindow _ => some .maintain
  | .readWindow _ => none
  | .setPlant _ => some .maintain
  | .readPlant => none
  | .setCommitment _ => some .operate
  | .readBalance => none
  | .pushCurtail _ => some .operate
  | .popCurtail => some .operate
  | .readCurtail => none
  | .openAccount _ _ _ => some .settle
  | .amendAccount _ _ => some .settle
  | .readAccount _ => none
  | .retireAccount _ => some .settle
  | .bindAccount _ _ _ => some .settle
  | .unbindAccount _ _ => some .settle
  | .setExportAccount _ => some .settle
  | .closePeriod _ => some .settle
  | .takeStatement _ => some .settle
  | .reprice _ => some .settle
  | .writeTariff _ => some .settle
  | .invalidateTariff _ => some .settle
  | .readTariff _ => none
  | .probeTariff _ _ => none
  | .setSeason _ => some .settle
  | .setBand _ => some .settle
  | .readNotices => none
  | .clearNotice _ => none
  | .setRouting _ _ _ => some .maintain
  | .setNoticeMode _ => some .maintain
  | .restart => some .maintain

/-- A request that reads and changes nothing. -/
def readsOnly : Request → Bool
  | .findOfftake _ => true
  | .readOfftake _ => true
  | .readChannel _ => true
  | .readGrade _ => true
  | .readWindow _ => true
  | .readPlant => true
  | .readBalance => true
  | .readCurtail => true
  | .readAccount _ => true
  | .readTariff _ => true
  | .probeTariff _ _ => true
  | _ => false

/-! ### The checks of a request, in the order of its rule -/

/-- The result of the first check that fails, OK when none does. Each check stands as whether it fails, with the result
it then gives. -/
def firstFailing : List (Bool × Result) → Result
  | [] => .ok
  | (fails, r) :: rest => if fails then r else firstFailing rest

/-- The port lacks the right (R197). -/
def State.lacks (s : State) (p : PortId) (r : Right) : Bool × Result := (!s.hasRight p r, .noRight)

/-- The checks on a record named by slot and tag (R19, R43, R61, R168, R169). -/
def State.recordChecks (s : State) (slot : Nat) (tag : Tag) : List (Bool × Result) :=
  [((s.offtake slot).isNone, .noSuchSlot), ((s.offtake slot).any fun o => decide (o.tag ≠ tag), .noSuchTag),
    ((s.offtake slot).any (·.retiring), .retiring)]

/-- A byte is no set of modes of the class: it is empty, or has a bit that is no mode of the class (R3; log 12 for bits 6
and 7). -/
def modesBad (c : OffClass) (b : Byte) : Bool :=
  b == 0#8 || (b &&& match c with | .boiler => 0xF0#8 | .heatSub => 0xCF#8) != 0#8

/-- The checks of R12. A class code that is neither BOILER nor HEAT_SUB fails the second. -/
def State.createChecks (s : State) (p : PortId) (b : CreateBody) : List (Bool × Result) :=
  let f := b.fig
  s.lacks p .maintain ::
  match OffClass.ofCode f.cls with
  | none => [(true, .badValue)]
  | some c =>
    [(b.tag == 0#24 || decide (f.addr = 0) || decide (62 < f.addr) || modesBad c f.modes
        || (decide (c = .boiler) && decide (2 < f.grade)) || decide (3 < f.prio)
        || decide (min 1000000 f.maxFiring < min 1000000 f.minFiring), .badValue),
      (match c with
        | .boiler => !s.channelIs .gasFlow f.bind1 || !s.channelIs .cv f.bind2
        | .heatSub => !s.channelIs .waterFlow f.bind1 || !s.channelIs .temp f.bind2 || !s.channelIs .temp f.bind3
            || decide (f.bind2 = f.bind3), .badChannel),
      (slotNumbers.any fun i => (s.offtake i).any fun o => decide (o.tag = b.tag), .duplicateTag),
      (slotNumbers.any fun i => (s.offtake i).any fun o => decide (o.addr = f.addr), .duplicateAddress),
      (slotNumbers.all fun i => (s.offtake i).isSome, .tableFull)]

/-- The checks of R14 and R15, the record found first. A mask bit names its field (R209); what a field would hold is what
the request names, saturated, or what the record holds. -/
def State.amendChecks (s : State) (p : PortId) (b : AmendBody) : List (Bool × Result) :=
  match s.offtake b.slot with
  | none => [(true, .noSuchSlot)]
  | some o =>
    let f := b.fig
    let heatSub := decide (o.cls = .heatSub)
    let names := fun k => b.mask.getLsbD k && (decide (k ≠ 12) || heatSub)
    let least := if names 5 then min 1000000 f.minFiring else o.minFiring
    let most := if names 6 then min 1000000 f.maxFiring else o.maxFiring
    let bind1 := if names 10 then f.bind1 else o.bind1
    let bind2 := if names 11 then f.bind2 else o.bind2
    let bind3 := if names 12 then some f.bind3 else o.bind3
    [(decide (o.tag ≠ b.tag), .noSuchTag),
      ((!s.hasRight p .operate && [2, 5, 6, 7, 8].any names)
        || (!s.hasRight p .maintain && [1, 3, 4, 9, 10, 11, 12].any names), .noRight),
      (o.retiring, .retiring),
      (names 0 || (heatSub && (names 4 || names 9)) || (names 7 && decide (3 < f.prio))
        || (names 4 && decide (2 < f.grade)) || (names 1 && (decide (f.addr = 0) || decide (62 < f.addr)))
        || (names 2 && modesBad o.cls f.modes) || decide (most < least)
        || (o.mode.any Mode.modulating && o.advert.any fun a => decide (a.rating < least)), .badValue),
      (match o.cls with
        | .boiler => (names 10 && !s.channelIs .gasFlow bind1) || (names 11 && !s.channelIs .cv bind2)
        | .heatSub => (names 10 && !s.channelIs .waterFlow bind1) || (names 11 && !s.channelIs .temp bind2)
            || (names 12 && !bind3.any (s.channelIs .temp))
            || ((names 11 || names 12) && decide (some bind2 = bind3)), .badChannel),
      (names 1 && slotNumbers.any fun i =>
        decide (i ≠ b.slot) && (s.offtake i).any fun x => decide (x.addr = f.addr), .duplicateAddress)]

/-- The checks of R93 (the reserve limit is R92's). -/
def State.gradeChecks (s : State) (p : PortId) (b : GradeBody) : List (Bool × Result) :=
  let list := [b.place1, b.place2, b.place3, b.place4].take b.supplyLength
  let low := min 2147483647 b.low.toNat
  let target := min 2147483647 b.target.toNat
  let high := min 2147483647 b.high.toNat
  [s.lacks p .maintain,
    (decide (2 < b.grade) || decide (4 < b.supplyLength) || decide (target < low) || decide (high < target), .badValue),
    (list.any (fun c => !s.channelIs .gasFlow c) || decide (¬ list.Nodup) || b.cv.any (fun c => !s.channelIs .cv c)
      || b.level.any (fun c => !s.channelIs .level c), .badChannel),
    ((Grade.ofCode b.grade).any fun g => decide (3 * (high - low) / 4 < (s.grades.get g).reserveTotal), .reserveLimit)]

/-- The checks of R95. -/
def State.windowChecks (s : State) (p : PortId) (b : WindowBody) : List (Bool × Result) :=
  [s.lacks p .maintain, (decide (3 < b.window) || decide (2 < b.grade), .badValue),
    ((Grade.ofCode b.grade).any fun g => (s.windows[b.window]?).any fun w =>
      let r := s.grades.get g
      decide (3 * (r.high - r.low) / 4 < r.reserveTotal - (if w.valid = true ∧ w.grade = g then w.reserve else 0)
        + min 2147483647 b.reserve.toNat), .reserveLimit)]

/-- The checks of R102. -/
def State.plantChecks (s : State) (p : PortId) (b : PlantBody) : List (Bool × Result) :=
  [s.lacks p .maintain,
    (decide (1 < b.policy) || b.loopFlow.isSome != b.loopSupply.isSome || b.loopFlow.isSome != b.loopReturn.isSome,
      .badValue),
    (b.loopFlow.any (fun c => !s.channelIs .waterFlow c) || b.loopSupply.any (fun c => !s.channelIs .temp c)
      || b.loopReturn.any (fun c => !s.channelIs .temp c) || b.houseLoad.any (fun c => !s.channelIs .power c)
      || b.exportChannel.any (fun c => !s.channelIs .power c)
      || (b.loopSupply.isSome && decide (b.loopSupply = b.loopReturn)), .badChannel)]

/-- The checks of R186. -/
def State.tariffChecks (s : State) (p : PortId) (b : TariffBody) : List (Bool × Result) :=
  [s.lacks p .settle,
    (decide (15 < b.pair) || decide (2 < b.medium) || decide (4095 < b.key) || decide (4095 < b.mask)
      || decide (255 < b.season) || b.primary.any (fun x => decide (999999 < x))
      || b.secondary.any (fun x => decide (999999 < x)), .badValue)]

/-- A band's unpriced kWh would find a price (R177). -/
def State.findsPrice (s : State) (a : Account) (b : Band) : Bool :=
  decide ((a.figures b).unpriced ≠ 0) && (s.lookup a.kind.medium a.key b).price.isSome

/-- What each request is examined for, in its rule's order, as it stands when the request is applied. -/
def State.checks (s : State) (p : PortId) : Request → List (Bool × Result)
  | .createOfftake b => s.createChecks p b
  | .amendOfftake b => s.amendChecks p b
  | .findOfftake t => [(slotNumbers.all fun i => (s.offtake i).all fun o => decide (o.tag ≠ t), .noSuchTag)]
  | .readOfftake i => [(decide (23 < i), .noSuchSlot)]
  | .retireOfftake i t => s.lacks p .maintain :: s.recordChecks i t
  | .renegotiate i t => s.lacks p .operate :: s.recordChecks i t
  | .release i t =>
    s.lacks p .operate :: s.recordChecks i t
      ++ [((s.offtake i).any fun o => decide (o.supply ≠ .lockout), .wrongState)]
  | .setChannel b =>
    [s.lacks p .maintain, (decide (47 < b.channel), .badChannel),
      (decide (6 < b.kind) || decide (1 < b.polarity), .badValue),
      (decide (b.polarity = 1) && decide (b.kind ≠ 1) && decide (b.kind ≠ 4), .badValue)]
  | .readChannel c => [(decide (47 < c), .badChannel)]
  | .setGrade b => s.gradeChecks p b
  | .readGrade g => [(decide (2 < g), .badValue)]
  | .setWindow b => s.windowChecks p b
  | .clearWindow w => [s.lacks p .maintain, (decide (3 < w), .badValue)]
  | .readWindow w => [(decide (3 < w), .badValue)]
  | .setPlant b => s.plantChecks p b
  | .readPlant => []
  | .setCommitment _ => [s.lacks p .operate]
  | .readBalance => []
  | .pushCurtail level =>
    [s.lacks p .operate, (decide (level = 0) || decide (4 < level), .badValue), (decide (level ≤ s.level), .wrongState)]
  | .popCurtail =>
    [s.lacks p .operate, (s.stack.isEmpty, .wrongState), (s.stack.head?.any fun c => decide (c.origin = .auto), .notManual)]
  | .readCurtail => []
  | .openAccount n k key =>
    [s.lacks p .settle, (decide (n = 0) || decide (65535 < n) || decide (2 < k) || decide (4095 < key), .badValue),
      (s.accounts.toList.any fun a => a.any fun a => decide (a.number = n), .duplicateAccount),
      (s.accounts.toList.all (·.isSome), .tableFull)]
  | .amendAccount n key =>
    [s.lacks p .settle, (decide (4095 < key), .badValue), ((s.account n).isNone, .noAccount)]
  | .readAccount n => [((s.account n).isNone, .noAccount)]
  | .retireAccount n =>
    [s.lacks p .settle, ((s.account n).isNone, .noAccount), ((s.account n).any fun a => decide (0 < a.boundCount), .accountInUse),
      ((s.account n).any fun a => decide (a.primary ≠ ⟨0, 0, 0⟩) || decide (a.secondary ≠ ⟨0, 0, 0⟩)
        || a.shortfall.any (fun x => decide (x ≠ 0)) || a.surplus.any (fun x => decide (x ≠ 0)) || a.statement.isSome,
        .accountNotSettled)]
  | .bindAccount i t n =>
    s.lacks p .settle :: s.recordChecks i t ++
      [((s.account n).isNone, .noAccount),
        ((s.offtake i).any fun o => (s.account n).any fun a =>
          decide (a.kind ≠ match o.cls with | .boiler => .gasSale | .heatSub => .heatSale), .wrongKind)]
  | .unbindAccount i t => s.lacks p .settle :: s.recordChecks i t
  | .setExportAccount none => [s.lacks p .settle]
  | .setExportAccount (some n) =>
    [s.lacks p .settle, ((s.account n).isNone, .noAccount),
      ((s.account n).any fun a => decide (a.kind ≠ .exportKind), .wrongKind)]
  | .closePeriod n =>
    [s.lacks p .settle, ((s.account n).isNone, .noAccount), ((s.account n).any (·.statement.isSome), .statementPending)]
  | .takeStatement n =>
    [s.lacks p .settle, ((s.account n).isNone, .noAccount), ((s.account n).any (·.statement.isNone), .noStatement)]
  | .reprice n =>
    [s.lacks p .settle, ((s.account n).isNone, .noAccount),
      ((s.account n).any fun a => (decide (a.primary.unpriced ≠ 0) || decide (a.secondary.unpriced ≠ 0))
        && !s.findsPrice a .primary && !s.findsPrice a .secondary, .noTariff)]
  | .writeTariff b => s.tariffChecks p b
  | .invalidateTariff i => [s.lacks p .settle, (decide (15 < i), .badValue)]
  | .readTariff i => [(decide (15 < i), .badValue)]
  | .probeTariff m key => [(decide (2 < m) || decide (4095 < key), .badValue)]
  | .setSeason n => [s.lacks p .settle, (decide (255 < n), .badValue)]
  | .setBand b => [s.lacks p .settle, (decide (1 < b), .badValue)]
  | .readNotices => []
  | .clearNotice c =>
    [(decide (12 < c), .badValue),
      ((NoticeKind.ofCode c).any fun k => (s.notice k).pendingFor p && decide (s.clearMode = .checked)
        && standing s k (s.notice k).subject, .stillStanding)]
  | .setRouting port add drop =>
    [s.lacks p .maintain,
      (decide (1 < port) || decide (8192 ≤ add.toNat) || decide (8192 ≤ drop.toNat) || (add &&& drop) != 0#16, .badValue)]
  | .setNoticeMode m => [s.lacks p .maintain, (decide (1 < m), .badValue)]
  | .restart => [s.lacks p .maintain]

/-- The result the request is to be answered with. -/
def State.verdict (s : State) (p : PortId) (r : Request) : Result := firstFailing (s.checks p r)

/-! ### One entry of a table rewritten -/

/-- Channel `c` now holds `ch`, and nothing else changes. -/
def State.withChannel (s : State) (c : Nat) (ch : Channel) : State :=
  { s with channels := s.channels.setIfInBounds c ch }

/-- Entry `e` of the Account Table now holds `a`, and nothing else changes. -/
def State.withAccount (s : State) (e : Nat) (a : Option Account) : State :=
  { s with accounts := s.accounts.setIfInBounds e a }

/-- Tariff pair `n` is now `t`, and nothing else changes. -/
def State.withPair (s : State) (n : Nat) (t : TariffPair) : State := { s with pairs := s.pairs.setIfInBounds n t }

/-- The poll exchange in flight has ended, and nothing else changes (R25, R26). -/
def State.afterPollExchange (s : State) : State := { s with exchange := none, replyMs := 0, afterPoll := true }

/-- The setpoint exchange in flight has ended, and nothing else changes (R25, R51). -/
def State.afterSetpointExchange (s : State) : State := { s with exchange := none, replyMs := 0, afterPoll := false }

/-! ### Laws of one record -/

/-- R42, R6, R19: a record's link state carries a resolved mode exactly from CONFIRM on, and one that is permitted; an
ACTIVE record is linked; any other has grant 0; a retiring one is linked and in no shed list. -/
def Offtake.linkOk (o : Offtake) : Prop :=
  (o.link = .quiet ∨ o.link = .listen → o.mode = none)
    ∧ (o.link = .confirm ∨ o.linked = true → ∃ m, o.mode = some m ∧ modeIn m o.permitted = true)
    ∧ (o.supply = .active → o.linked = true)
    ∧ (o.supply ≠ .active → o.grant = 0)
    ∧ (o.retiring = true → o.linked = true ∧ o.supply ≠ .active ∧ o.supply ≠ .shed)
    ∧ (o.ackGrant ≠ 0 → o.linked = true)

/-- R60: the overdraw count is below the lockout limit but in LOCKOUT. -/
def Offtake.countOk (limit : Nat) (o : Offtake) : Prop := o.supply ≠ .lockout → o.overdrawCount < limit

/-- R7, R28: the supervision timers and the enrollment items stay in their ranges. -/
def Offtake.timersOk (o : Offtake) : Prop :=
  o.overdrawTimer ≤ 600 ∧ o.idleTimer ≤ 10 ∧ o.quietMs ≤ Config.quietMs ∧ o.silenceMs ≤ Config.silenceMs
    ∧ o.confirmCount ≤ 3 ∧ (o.link = .confirm → o.confirmCount ≤ 2)
    ∧ o.legacyRun ≤ 3 ∧ (o.link = .listen → o.legacyRun ≤ 2)

/-! ### Laws of the tables -/

/-- R2: no two non-vacant records share a tag or a link address. -/
def State.recordsDistinct (s : State) : Prop :=
  ∀ i j a b, s.offtake i = some a → s.offtake j = some b → i ≠ j → a.tag ≠ b.tag ∧ a.addr ≠ b.addr

/-- Every non-vacant record has the property. -/
def State.everyRecord (s : State) (f : Offtake → Prop) : Prop := ∀ i o, s.offtake i = some o → f o

/-- R46: no slot stands twice, each slot's record is linked, every close entry stands ahead of every other entry, and
an attempt count is at most 2. -/
def State.queueOk (s : State) : Prop :=
  (s.setpointQueue.map (·.slot)).Nodup
    ∧ (∀ e ∈ s.setpointQueue, (∃ o, s.offtake e.slot = some o ∧ o.linked = true) ∧ e.attempts ≤ 2)
    ∧ s.setpointQueue.Pairwise fun a b => b.close = true → a.close = true

/-- The setpoint exchange in flight that is not abandoned, if there is one, is for the slot. -/
def State.exchanging (s : State) (i : Nat) : Prop := ∃ addr sent, s.exchange = some (.setpoint i addr sent false)

/-- R46, R50, R29: an entry is marked in flight exactly while its exchange is under way, and an exchange under way has
its entry in the queue. -/
def State.flightOk (s : State) : Prop :=
  (∀ e ∈ s.setpointQueue, e.inFlight = true ↔ s.exchanging e.slot)
    ∧ ∀ i, s.exchanging i → ∃ e ∈ s.setpointQueue, e.slot = i

/-- R47, R54: a linked record whose grant differs from its acknowledged grant has its slot in the queue. -/
def State.deliveryOk (s : State) : Prop :=
  ∀ i o, s.offtake i = some o → o.linked = true → o.grant ≠ o.ackGrant → ∃ e ∈ s.setpointQueue, e.slot = i

/-- All the shed lists, and the readmission queue (R140). -/
def State.listed (s : State) : List Nat := s.stack.flatMap (·.shedList) ++ s.readmission

/-- R140: the lists name no slot twice, and name exactly the slots of the SHED records. -/
def State.listsOk (s : State) : Prop :=
  s.listed.Nodup ∧ ∀ i, i ∈ s.listed ↔ ∃ o, s.offtake i = some o ∧ o.supply = .shed

/-- R139: the levels strictly increase from bottom to top, each between 1 and 4; the stack stands top first. -/
def State.stackOk (s : State) : Prop :=
  s.stack.Pairwise (fun upper lower => lower.level < upper.level) ∧ ∀ c ∈ s.stack, 1 ≤ c.level ∧ c.level ≤ 4

/-- R84, R92: each grade's reserve total is the sum of its valid windows' reserves and within its limit. -/
def State.reservesOk (s : State) : Prop :=
  ∀ g, (s.grades.get g).reserveTotal = windowTotal s.windows.toList g
    ∧ (s.grades.get g).reserveTotal ≤ reserveLimit (s.grades.get g).low (s.grades.get g).high

/-- The account in entry `e` of the table. -/
def State.accountAt (s : State) (e : Nat) : Option Account := (s.accounts[e]?).join

/-- R159: no two accounts share a number. -/
def State.numbersDistinct (s : State) : Prop :=
  ∀ e f a b, s.accountAt e = some a → s.accountAt f = some b → e ≠ f → a.number ≠ b.number

/-- The number of what names an account (R167): the records bound to it, plus one if it is the export account. -/
def State.namings (s : State) (n : Nat) : Nat :=
  (s.namedBy n).length + if s.plant.exportAccount = some n then 1 else 0

/-- R159, R167: a record names an open account of its class's kind, the plant one of kind EXPORT, and each bound count
is the number of what names the account. -/
def State.namingsOk (s : State) : Prop :=
  (∀ e a, s.accountAt e = some a → a.boundCount = s.namings a.number)
    ∧ (∀ i o n, s.offtake i = some o → o.account = some n →
        ∃ e a, s.accountAt e = some a ∧ a.number = n ∧ a.kind = o.cls.accountKind)
    ∧ (∀ n, s.plant.exportAccount = some n → ∃ e a, s.accountAt e = some a ∧ a.number = n ∧ a.kind = .exportKind)

/-- A figure that only an EXPORT account holds stands in its range there, and is absent in the others. -/
def AccountKind.deviationOk (k : AccountKind) (top : Nat) (v : Option Nat) : Prop :=
  match v with
  | some x => k = .exportKind ∧ x ≤ top
  | none => k ≠ .exportKind

def BandFigures.ok (f : BandFigures) : Prop :=
  f.energy ≤ Config.maxEnergy ∧ f.charge ≤ Config.maxCharge ∧ f.unpriced ≤ Config.maxEnergy

/-- R160, R161, R172: the residues are less than 3,600, the counters within their tops. -/
def Account.figuresOk (a : Account) : Prop :=
  a.residue < 3600 ∧ a.primary.ok ∧ a.secondary.ok ∧ a.period ≤ 65535
    ∧ a.kind.deviationOk 3599 a.shortfallResidue ∧ a.kind.deviationOk 3599 a.surplusResidue
    ∧ a.kind.deviationOk Config.maxEnergy a.shortfall ∧ a.kind.deviationOk Config.maxEnergy a.surplus

/-- Every account has the property. -/
def State.everyAccount (s : State) (f : Account → Prop) : Prop := ∀ e a, s.accountAt e = some a → f a

/-- R200, R201, R204: an entry is pending only for a port it is routed to, its count is 0 to 255, and an entry pending
for no port has count and subject 0. -/
def NoticeEntry.ok (e : NoticeEntry) : Prop :=
  (e.pendingA = true → e.routeA = true) ∧ (e.pendingB = true → e.routeB = true) ∧ e.count ≤ 255
    ∧ (e.pendingA = false → e.pendingB = false → e.count = 0 ∧ e.subject = 0)
    ∧ (e.pendingA = true ∨ e.pendingB = true → 1 ≤ e.count)

def State.noticesOk (s : State) : Prop := ∀ e ∈ s.notices.toList, e.ok

/-- R101: every figure of the plant record stands in its range. -/
def Plant.ok (p : Plant) : Prop :=
  (1 ≤ p.interval ∧ p.interval ≤ 10) ∧ (10 ≤ p.recoveryHold ∧ p.recoveryHold ≤ 900) ∧ p.tolerance ≤ 200
    ∧ p.deadband ≤ 50000 ∧ (10 ≤ p.overdrawLimit ∧ p.overdrawLimit ≤ 600)
    ∧ (1 ≤ p.lockoutLimit ∧ p.lockoutLimit ≤ 15) ∧ (100 ≤ p.turbineEff ∧ p.turbineEff ≤ 600)
    ∧ p.extractionCeiling ≤ 800 ∧ (3800 ≤ p.cp ∧ p.cp ≤ 4400) ∧ p.exportTolerance ≤ 100000
    ∧ p.commitment ≤ 2000000

/-- R132: the extraction, its cap and its maximum, and the town heat granted, stand in their order. -/
def Balance.ok (b : Balance) : Prop :=
  b.extraction ≤ b.extractionCap ∧ b.extractionCap ≤ b.extractionMax
    ∧ b.heatGranted ≤ b.recovered + b.extractionCap ∧ b.heatGranted ≤ b.heatPool

/-- R116: granted and unallocated power sum to available power. -/
def GradeResults.ok (r : GradeResults) : Prop := r.granted + r.unallocated = r.available

def State.resultsOk (s : State) : Prop := s.balance.ok ∧ ∀ g, (s.grades.get g).last.ok

/-- R66 to R77: a channel's counts, timers and figures stand in their ranges; a flow kind has an activity and no other
kind has; only an AUTO flow channel is reversed. -/
def Channel.ok (c : Channel) : Prop :=
  c.goodRun ≤ 3 ∧ c.negativeRun < 8 ∧ c.ageMs ≤ Config.maxAgeMs ∧ c.staleMs ≤ Config.staleMs
    ∧ c.offThreshold ≤ c.onThreshold ∧ (-2147483647 ≤ c.value ∧ c.value ≤ 2147483647)
    ∧ (c.kind = .cv → 0 ≤ c.value ∧ c.value ≤ 60000) ∧ (c.kind = .level → 0 ≤ c.value)
    ∧ (c.activity.isSome = c.kind.isFlow)
    ∧ (c.reversed = true → c.polarity = .auto ∧ c.kind.isFlow = true ∧ c.negativeRun = 0)
    ∧ (c.kind = .noKind → c.condition = .stale ∧ c.value = 0 ∧ c.ageMs = 0 ∧ c.staleMs = 0)

def State.channelsOk (s : State) : Prop := ∀ c ∈ s.channels.toList, c.ok

/-- R109, R118: an entry of the pass in flight that is not void stands for an ACTIVE record. -/
def State.tableOk (s : State) : Prop :=
  ∀ p, s.pass = some p → ∀ e ∈ p.table, e.void = false → ∃ o, s.offtake e.slot = some o ∧ o.supply = .active

/-! ### Laws together -/

/-- The laws of a record in service, which hold together: its link and supply (R42), the setpoint queue (R46, R50), the
shed lists (R140). -/
def State.serviceOk (s : State) : Prop := s.everyRecord Offtake.linkOk ∧ s.queueOk ∧ s.flightOk ∧ s.listsOk

/-- The plant record stands in its ranges, and the counts and timers that its limits bound do (R101, R60, R7, R28). -/
def State.limitsOk (s : State) : Prop :=
  s.plant.ok ∧ s.everyRecord (Offtake.countOk s.plant.lockoutLimit) ∧ s.everyRecord Offtake.timersOk

/-- The laws of the Account Table (R159, R160, R167, R172). -/
def State.ledgerOk (s : State) : Prop := s.numbersDistinct ∧ s.namingsOk ∧ s.everyAccount Account.figuresOk

/-- Every law. -/
def State.lawful (s : State) : Prop :=
  s.recordsDistinct ∧ s.serviceOk ∧ s.deliveryOk ∧ s.tableOk ∧ s.limitsOk ∧ s.stackOk ∧ s.reservesOk ∧ s.ledgerOk
    ∧ s.noticesOk ∧ s.resultsOk ∧ s.channelsOk

end Sys2Proof.Machine
end

