-- ==== Sys2Proof/Certificates/Slice0/Obligations.lean ====
section
/-! DEFINITION. The statements for the provers. `s.takes p r q` says that port `p`, as `q`, applies request `r` next;
`s.answer p q r result body` is `s` with that request answered. Where a next state `t` is said to be `{ s with … }`,
everything not named there is unchanged. -/

open Sys2Proof Sys2Proof.Machine

/-! ### The step, reset and the queue -/

/-- A step takes the command at the front of the queue and runs it on the state with the queue's rest. -/
def Obligations.StepRunsTheFrontCommand : Prop :=
  ∀ (s : State) (c : Instr) (rest : List Instr), s.pending = c :: rest → step s = exec c { s with pending := rest }

/-- With no command waiting the part takes the event that is due, or lets one millisecond pass; in reset it stands
still (the model's choice: log 4, log 5). -/
def Obligations.IdleStepTakesWhatIsDue : Prop :=
  ∀ s : State, s.pending = [] →
    (s.inReset = true → step s = .next s)
      ∧ (s.inReset = false → s.due = none → step s = .next s.elapse)
      ∧ (s.inReset = false → ∀ c, s.due = some c → step s = exec c s)

/-- What a full reset leaves (R22, R45, R63, R81, R99, R121, R137, R157, R178, R193, R205, R206). The strap levels of
State.reset are the model's choice (log 1). -/
def Obligations.ResetLeavesTheFullResetValues : Prop :=
  let s : State := State.reset
  s.inReset = false ∧ (∀ i, s.offtake i = none) ∧ (∀ e, s.accountAt e = none) ∧ s.setpointQueue = []
    ∧ s.exchange = none ∧ s.pollCursor = 0 ∧ s.stack = [] ∧ s.readmission = [] ∧ s.recoveryTimer = 0 ∧ s.level = 0
    ∧ s.pass = none ∧ s.passSeq = 0 ∧ s.passMs = 0 ∧ s.passLength = 2 ∧ s.tickMs = 0
    ∧ s.balance = ⟨0, 0, 0, 0, 0, 0, 0, 0, 0, 0, 0, 0, .heatFirst, 0⟩
    ∧ s.plant = ⟨2, 60, 50, 2000, 90, 3, 330, 600, 4190, .heatFirst, none, none, none, none, none, 5000, 0, none⟩
    ∧ (∀ (c : Nat) (ch : Channel), s.channels[c]? = some ch → ch.kind = .noKind ∧ ch.condition = .stale ∧ ch.value = 0)
    ∧ (∀ (w : Nat) (win : Window), s.windows[w]? = some win → win.valid = false) ∧ (∀ g, (s.grades.get g).supplyChannels = [])
    ∧ (∀ (n : Nat) (pair : TariffPair), s.pairs[n]? = some pair → pair.valid = false) ∧ s.season = 0 ∧ s.band = .primary
    ∧ (∀ p, (s.port p).status = .idle ∧ alertLine s p = false)
    ∧ (∀ k, (s.notice k).pendingA = false ∧ (s.notice k).pendingB = false ∧ (s.notice k).count = 0
        ∧ (s.notice k).subject = 0 ∧ (s.notice k).routeA = true
        ∧ ((s.notice k).routeB = true ↔ k = .tariffMiss ∨ k = .tariffOverlap))

/-- The state after reset keeps every law of the part. -/
def Obligations.ResetIsLawful : Prop := State.reset.lawful

/-- A full reset stops the part and releases its lines; the release latches the straps and gives every block its
full-reset values, which do not depend on the straps but for MAINTAIN and the clear mode (R197, R205, R206). That the
fields stand unchanged between the two, and that a release is taken from every state, are the model's choice (log 5). -/
def Obligations.FullResetAndReleaseComplete : Prop :=
  ∀ (s : State) (m n : Bool),
    (∃ t, exec .fullReset s = .next t ∧ t.inReset = true ∧ (∀ p, alertLine t p = false ∧ (t.port p).miso = [])
      ∧ t = { s with inReset := true, portA := t.portA, portB := t.portB })
    ∧ exec (.resetRelease m n) s =
        .next { State.reset with
          maintEn := m
          clearMode := if n then .checked else .readClears
          pending := s.pending }

/-- While the part is in reset no transaction is taken, the links are silent and no timer runs: no command but a reset's
own changes anything (R205; that a release is always taken is the model's choice, log 5). -/
def Obligations.NothingRunsInReset : Prop :=
  ∀ (c : Instr) (s : State), s.inReset = true → c ≠ .fullReset → (∀ m n, c ≠ .resetRelease m n) → exec c s = .next s

/-- Every command answers a next state from every state, and leaves the queue of waiting commands as it is. -/
def Obligations.EveryCommandAnswersNext : Prop :=
  ∀ (c : Instr) (s : State), ∃ t, exec c s = .next t ∧ t.pending = s.pending

/-! ### The wire -/

/-- Every well-formed frame of requests is read back, whole, from its bytes; and a malformed one is not read: one below 6
bytes or above 256, one whose declared length is not its number of bytes, one whose check fails, one whose request count
is 0 or above 8, one whose requests do not fill it or run beyond it, one with a kind code that is not in the table or a
body of another length than its kind's, and one that holds RESTART with another request (R196, R207, R209). That a
SET_WINDOW's reserve is read back as a signed figure is the model's choice (log 11). -/
def Obligations.FramesRoundTrip : Prop :=
  (∀ f : Frame, f.wf = true → readFrame f.bytes = some f)
  ∧ (∀ bytes : List Byte, bytes.length < 6 ∨ 256 < bytes.length → readFrame bytes = none)
  ∧ (∀ (a b : Byte) (rest : List Byte), a.toNat * 256 + b.toNat ≠ rest.length + 2 → readFrame (a :: b :: rest) = none)
  ∧ (∀ (bytes : List Byte) (a b : Byte), a.toNat * 256 + b.toNat ≠ (crc16 bytes).toNat → readFrame (bytes ++ [a, b]) = none)
  ∧ (∀ (a b tag count : Byte) (rest : List Byte), count.toNat = 0 ∨ 8 < count.toNat →
    readFrame (a :: b :: tag :: count :: rest) = none)
  ∧ (∀ (tag count : Byte) (rs : List (Byte × List Byte)), (∀ r ∈ rs, r.2.length < 256) →
    let requests := rs.flatMap fun r => r.1 :: BitVec.ofNat 8 r.2.length :: r.2
    let frame := fun extra : List Byte =>
      sealed (beBytes 2 (requests.length + extra.length + 6) ++ tag :: count :: (requests ++ extra))
    (count.toNat ≠ rs.length → readFrame (frame []) = none)
    ∧ (∀ extra, extra ≠ [] → count.toNat = rs.length → readFrame (frame extra) = none)
    ∧ (∀ (code len : Byte) (body : List Byte), body.length < len.toNat → count.toNat = rs.length + 1 →
      readFrame (frame (code :: len :: body)) = none)
    ∧ (∀ r ∈ rs, bodyLength r.1.toNat ≠ some r.2.length → readFrame (frame []) = none)
    ∧ (∀ r ∈ rs, r.1 = 0x7F#8 → 1 < rs.length → readFrame (frame []) = none))
  ∧ ((List.range 256).filterMap fun c => (bodyLength c).map fun n => (c, n)) =
    [(0x01, 26), (0x02, 29), (0x03, 3), (0x04, 1), (0x05, 4), (0x06, 4), (0x07, 4), (0x10, 21), (0x11, 1), (0x18, 26),
      (0x19, 1), (0x1A, 12), (0x1B, 1), (0x1C, 1), (0x20, 29), (0x21, 0), (0x22, 4), (0x23, 0), (0x28, 1), (0x29, 0),
      (0x2A, 0), (0x30, 5), (0x31, 4), (0x32, 2), (0x33, 2), (0x34, 6), (0x35, 4), (0x36, 2), (0x37, 2), (0x38, 2),
      (0x39, 2), (0x40, 16), (0x41, 1), (0x42, 1), (0x43, 3), (0x44, 1), (0x45, 1), (0x50, 0), (0x51, 1), (0x52, 5),
      (0x53, 1), (0x7F, 0)]

/-- Every reply of the offtake link is read back from the message it is written in, from any address; a sample message
is read back from its four bytes, and one of another length, with a failing check or with status 3 is discarded (R64,
R211, R212). A reply of a type other than the one read is none of it. -/
def Obligations.LinkAndSampleMessagesAreRead : Prop :=
  (∀ addr : Byte,
    (∀ a : AdvertData, a.rating < 256 ^ 4 → readAdvert (writeAdvert addr a) = some a)
      ∧ (∀ c : CallData, c.call < 256 ^ 4 →
        readStatus (writeStatus addr c) = some c ∧ readLegacy (writeLegacy addr c) = some c)
      ∧ (∀ v, v < 256 ^ 4 → readAck (writeAck addr v) = some v))
    ∧ (∀ m : LinkMsg,
      (m.type ≠ 0x81#8 → readAdvert m = none) ∧ (m.type ≠ 0x82#8 → readStatus m = none)
      ∧ (m.type ≠ 0x83#8 → readLegacy m = none) ∧ (m.type ≠ 0x84#8 → readAck m = none))
    ∧ (∀ d : SampleData, d.channel < 64 → -32768 ≤ d.raw → d.raw ≤ 32767 → readSample (writeSample d) = some d)
    ∧ (∀ bytes : List Byte, bytes.length ≠ 4 → readSample bytes = none)
    ∧ (∀ a b c d : Byte, d ≠ crc8 [a, b, c] → readSample [a, b, c, d] = none)
    ∧ (∀ a b c d : Byte, 192 ≤ a.toNat → readSample [a, b, c, d] = none)

/-! ### The request ports -/

/-- The transactions of a port: a frame is taken in IDLE alone, a malformed one is answered at once, an answer is shifted
out once and then discarded, and bytes beyond it are 0xFF; any other code has the state byte alone; the state byte is the
port's state at the transaction's start, which a request applied meanwhile does not change; the other port is not
touched (R195, R196). How a transaction tells that it began before the frame's end, and that a write shifts out the state
byte alone, are the model's choice (log 14). -/
def Obligations.PortTransactionsComplete : Prop :=
  ∀ (s : State) (p : PortId) (early : Bool), s.inReset = false →
    let q := s.port p
    let first := q.stateByte early
    (∀ f : Frame, f.wf = true → q.status = .idle →
      exec (.writeFrame p ⟨early, f.bytes⟩) s =
        .next (s.setPort p ⟨.executing, f.seqTag, f.requests.length, false, f.requests, [], .executing, [first]⟩))
    ∧ (∀ bytes, readFrame bytes = none → q.status = .idle →
      exec (.writeFrame p ⟨early, bytes⟩) s =
        .next (s.setPort p ⟨.answerReady, frameTag bytes, 0, true, [], [], .answerReady, [first]⟩))
    ∧ (∀ bytes, q.status ≠ .idle →
      exec (.writeFrame p ⟨early, bytes⟩) s = .next (s.setPort p { q with settled := q.status, miso := [first] }))
    ∧ (∀ n, q.status = .answerReady →
      exec (.readAnswer p ⟨0x20#8, early, n⟩) s =
        .next (s.setPort p ⟨.idle, 0, 0, false, [], [], .idle, first ::
          (q.answerFrame.take n ++ List.replicate (n - q.answerFrame.length) 0xFF#8)⟩))
    ∧ (∀ n, q.status ≠ .answerReady →
      exec (.readAnswer p ⟨0x20#8, early, n⟩) s =
        .next (s.setPort p { q with settled := q.status, miso := first :: List.replicate n 0xFF#8 }))
    ∧ (∀ code n, code ≠ 0x20#8 →
      exec (.readAnswer p ⟨code, early, n⟩) s = .next (s.setPort p { q with settled := q.status, miso := [first] }))
    ∧ (q.status = .executing → ∀ r q' code result body, q.taking r = some q' →
      (q'.answered code result body).stateByte true = q.stateByte true)

/-- Every request is one event of its port: it is answered with one result; a refused one changes nothing else (but for
the overlap a REPRICE marks), cancels every request behind it and ends the frame; after OK the port goes on, and is
ANSWER_READY when no request is left; one that its port is not to apply is discarded (R198; log 2 for a request that
reaches a port outside a frame). -/
def Obligations.RequestsAreAnsweredAsOneEvent : Prop :=
  (∀ (p : PortId) (r : Request) (s : State),
    (∀ q, s.takes p r q →
      ∃ result body t, exec (Instr.ofRequest p r) s = .next (t.answer p q r result body)
        ∧ (result ≠ .ok → (∀ n, r ≠ .reprice n) → t = s ∧ body = .empty))
    ∧ (s.inReset = false → (s.port p).taking r = none → exec (Instr.ofRequest p r) s = .next s))
  ∧ ∀ (q : Port) (code : Nat) (result : Result) (body : AnswerBody),
    (result ≠ .ok → q.answered code result body =
      { q with
        answers := q.answers ++ ⟨code, result, body⟩ :: q.remaining.map fun r => ⟨r.code, .cancelled, .empty⟩
        remaining := []
        status := .answerReady })
    ∧ (result = .ok → q.answered code result body =
      { q with
        answers := q.answers ++ [⟨code, .ok, body⟩]
        status := if q.remaining.isEmpty then .answerReady else .executing })

/-- Every request is answered with the result of the first check of its rule that fails, in the rule's order, and with OK
when none does (R12, R14, R15, R61, R67, R102, R148, R149, R163, R166, R168, and so on for every kind of request); a
refused one changes nothing but the overlap that a REPRICE marks. A request whose kind needs a right its port lacks is
refused with NO_RIGHT before anything else of it is judged; one whose right its port holds is not; port A has OPERATE,
and MAINTAIN exactly when the strap was latched high, and port B has SETTLE alone (R197, but for AMEND_OFFTAKE). That bits
6 and 7 of a request's mode byte are no mode is the model's choice (log 12). -/
def Obligations.LackOfRightRefuses : Prop :=
  (∀ (p : PortId) (r : Request) (s : State) (q : Port), s.takes p r q →
    (∃ (body : AnswerBody) (t : State), exec (Instr.ofRequest p r) s = .next (t.answer p q r (s.verdict p r) body))
    ∧ (s.verdict p r ≠ .ok → (∀ n, r ≠ .reprice n) →
      exec (Instr.ofRequest p r) s = .next (s.answer p q r (s.verdict p r) .empty))
    ∧ ∀ right, neededRight r = some right →
      (p = .portA → right = .maintain → s.maintEn = false →
        exec (Instr.ofRequest p r) s = .next (s.answer p q r .noRight .empty))
      ∧ (p = .portA → right = .settle → exec (Instr.ofRequest p r) s = .next (s.answer p q r .noRight .empty))
      ∧ (p = .portB → right ≠ .settle → exec (Instr.ofRequest p r) s = .next (s.answer p q r .noRight .empty))
      ∧ (s.hasRight p right = true → s.verdict p r ≠ .noRight))
  ∧ ∀ s : State,
    (s.hasRight .portA .maintain = true ↔ s.maintEn = true)
    ∧ s.hasRight .portA .operate = true ∧ s.hasRight .portA .settle = false
    ∧ s.hasRight .portB .settle = true ∧ s.hasRight .portB .operate = false ∧ s.hasRight .portB .maintain = false

/-- The requests that read answer OK on either port with a copy of what they name, and change nothing (R17, R18, R69,
R97, R98, R104, R136, R150, R165, R188, R189). The order of the channel conditions of READ_GRADE (supply list, CV, level)
and of READ_BALANCE (flow, supply, return, house load) is the model's choice (log 25). -/
def Obligations.ReadRequestsComplete : Prop :=
  ∀ (p : PortId) (s : State) (q : Port),
    (∀ i, s.takes p (.readOfftake i) q → i < 24 →
      exec (.readOfftake p i) s = .next (s.answer p q (.readOfftake i) .ok (.offtake
        (match s.offtake i with
          | some o => ⟨some o, o.limits.1, o.limits.2, o.effCall⟩
          | none => ⟨none, 0, 0, 0⟩))))
    ∧ (∀ i o, s.takes p (.findOfftake o.tag) q → s.recordsDistinct → s.offtake i = some o →
      exec (.findOfftake p o.tag) s = .next (s.answer p q (.findOfftake o.tag) .ok
        (.found i ⟨some o, o.limits.1, o.limits.2, o.effCall⟩)))
    ∧ (∀ c ch, s.takes p (.readChannel c) q → s.channels[c]? = some ch →
      exec (.readChannel p c) s = .next (s.answer p q (.readChannel c) .ok (.channel ch ch.effective)))
    ∧ (∀ g : Grade, s.takes p (.readGrade g.code) q →
      exec (.readGrade p g.code) s = .next (s.answer p q (.readGrade g.code) .ok
        (.grade (s.grades.get g) (3 * ((s.grades.get g).high - (s.grades.get g).low) / 4)
          (((s.grades.get g).supplyChannels ++ (s.grades.get g).cv.toList ++ (s.grades.get g).level.toList).map
            s.condition))))
    ∧ (∀ w win, s.takes p (.readWindow w) q → s.windows[w]? = some win →
      exec (.readWindow p w) s = .next (s.answer p q (.readWindow w) .ok (.window win)))
    ∧ (s.takes p .readPlant q →
      exec (.readPlant p) s = .next (s.answer p q .readPlant .ok (.plant s.plant s.pass.isSome s.passSeq)))
    ∧ (s.takes p .readBalance q →
      exec (.readBalance p) s = .next (s.answer p q .readBalance .ok (.balance s.balance s.passSeq
        (s.plant.loopFlow.map s.condition) (s.plant.loopSupply.map s.condition) (s.plant.loopReturn.map s.condition)
        (s.plant.houseLoad.map s.condition))))
    ∧ (s.takes p .readCurtail q →
      exec (.readCurtail p) s = .next (s.answer p q .readCurtail .ok
        (.curtail s.level s.stack.reverse s.readmission s.recoveryTimer s.plant.recoveryHold)))
    ∧ (∀ n a, s.takes p (.readAccount n) q → s.account n = some a →
      exec (.readAccount p n) s = .next (s.answer p q (.readAccount n) .ok
        (.account a (decide (s.plant.exportAccount = some n)) s.band)))
    ∧ (∀ n pair, s.takes p (.readTariff n) q → s.pairs[n]? = some pair →
      exec (.readTariff p n) s = .next (s.answer p q (.readTariff n) .ok (.pair pair)))
    ∧ (∀ (m : Medium) (key : BitVec 12), s.takes p (.probeTariff m.code key.toNat) q →
      ∃ pr : Probe, exec (.probeTariff p m.code key.toNat) s =
          .next (s.answer p q (.probeTariff m.code key.toNat) .ok (.probe pr))
        ∧ pr.season = s.season ∧ pr.band = s.band ∧ pr.matched = s.matchSet m key
        ∧ pr.chosen = (s.matchSet m key).head?
        ∧ (s.matchSet m key = [] → pr.halves = none)
        ∧ (∀ i rest t, s.matchSet m key = i :: rest → s.pairs[i]? = some t → pr.halves = some (t.primary, t.secondary))
        ∧ (pr.overlap = true ↔ 1 < (s.matchSet m key).length)
        ∧ pr.primaryAnswer = (s.lookup m key .primary).price ∧ pr.secondaryAnswer = (s.lookup m key .secondary).price)

/-! ### The Offtake Register -/

/-- An accepted CREATE_OFFTAKE fills the lowest VACANT slot with a new record, in QUIET and HELD, its enrollment items 0 (R1,
R12, R13, R28). -/
def Obligations.CreateOfftakeCompletes : Prop :=
  ∀ (p : PortId) (b : CreateBody) (s : State) (q : Port) (c : OffClass) (i : Nat),
    s.takes p (.createOfftake b) q → s.hasRight p .maintain = true → OffClass.ofCode b.fig.cls = some c →
    createValuesOk b c = true → s.bindingsOk c b.fig.bind1 b.fig.bind2 (c.third b.fig.bind3) = true →
    (∀ j o, s.offtake j = some o → o.tag ≠ b.tag ∧ o.addr ≠ b.fig.addr) →
    i < 24 → s.offtake i = none → (∀ j, j < i → s.offtake j ≠ none) →
    ∃ o : Offtake,
      exec (.createOfftake p b) s = .next ((s.putOfftake i (some o)).answer p q
        (.createOfftake b) .ok (.slotNumber i))
      ∧ o.tag = b.tag ∧ o.cls = c ∧ o.addr = b.fig.addr ∧ o.permitted = b.fig.modes.setWidth 6
      ∧ o.rating = min b.fig.rating 1000000 ∧ o.minFiring = min b.fig.minFiring 1000000
      ∧ o.maxFiring = min b.fig.maxFiring 1000000 ∧ o.prio = b.fig.prio
      ∧ o.weight = max 1 (min b.fig.weight 255)
      ∧ o.grade = (if c = .boiler then Grade.ofCode b.fig.grade else none)
      ∧ o.eff = (if c = .boiler then some (max 300 (min b.fig.eff 990)) else none)
      ∧ o.bind1 = b.fig.bind1 ∧ o.bind2 = b.fig.bind2 ∧ o.bind3 = (if c = .boiler then none else some b.fig.bind3)
      ∧ o.link = .quiet ∧ o.quietMs = 0 ∧ o.supply = .held ∧ o.mode = none ∧ o.advert = none ∧ o.account = none
      ∧ o.retiring = false ∧ o.call = 0 ∧ o.ackGrant = 0 ∧ o.grant = 0 ∧ o.split = none ∧ o.delivered = 0
      ∧ o.overdrawTimer = 0 ∧ o.idleTimer = 0 ∧ o.overdrawCount = 0 ∧ o.noMode = false ∧ o.absent = false
      ∧ o.legacy = false ∧ o.trip = false ∧ o.estimated = false ∧ o.silenceMs = 0 ∧ o.confirmCount = 0 ∧ o.legacyRun = 0

/-- An accepted AMEND_OFFTAKE changes the fields its mask names and no other field of the record; a changed binding
clears the overdraw timer; a changed link address or the loss of the resolved mode sends the link to QUIET (R14 to
R16; a field given the value it holds is no change, log 16). -/
def Obligations.AmendOfftakeCompletes : Prop :=
  ∀ (p : PortId) (b : AmendBody) (s : State) (q : Port) (o : Offtake),
    s.takes p (.amendOfftake b) q → s.offtake b.slot = some o → o.tag = b.tag → o.retiring = false →
    amendRightsOk b s p o.cls = true → amendValuesOk b o (amended b o) = true →
    amendBindingsOk b s o (amended b o) = true →
    (amendNames b o.cls 1 = true → ∀ j x, j ≠ b.slot → s.offtake j = some x → x.addr ≠ b.fig.addr) →
    ∃ o' : Offtake,
      o' = { o with
        addr := if b.mask.getLsbD 1 then b.fig.addr else o.addr
        permitted := if b.mask.getLsbD 2 then b.fig.modes.setWidth 6 else o.permitted
        rating := if b.mask.getLsbD 3 then min b.fig.rating 1000000 else o.rating
        grade := if b.mask.getLsbD 4 then Grade.ofCode b.fig.grade else o.grade
        minFiring := if b.mask.getLsbD 5 then min b.fig.minFiring 1000000 else o.minFiring
        maxFiring := if b.mask.getLsbD 6 then min b.fig.maxFiring 1000000 else o.maxFiring
        prio := if b.mask.getLsbD 7 then b.fig.prio else o.prio
        weight := if b.mask.getLsbD 8 then max 1 (min b.fig.weight 255) else o.weight
        eff := if b.mask.getLsbD 9 then some (max 300 (min b.fig.eff 990)) else o.eff
        bind1 := if b.mask.getLsbD 10 then b.fig.bind1 else o.bind1
        bind2 := if b.mask.getLsbD 11 then b.fig.bind2 else o.bind2
        bind3 := if b.mask.getLsbD 12 ∧ o.cls = .heatSub then some b.fig.bind3 else o.bind3
        overdrawTimer := if o'.bind1 = o.bind1 ∧ o'.bind2 = o.bind2 ∧ o'.bind3 = o.bind3 then o.overdrawTimer else 0 }
      ∧ (o'.addr = o.addr → (∀ m, o.mode = some m → modeIn m o'.permitted = true) →
        exec (.amendOfftake p b) s = .next ((s.putOfftake b.slot (some o')).answer p
          q (.amendOfftake b) .ok .empty))
      ∧ ((o'.addr ≠ o.addr ∨ ∃ m, o.mode = some m ∧ modeIn m o'.permitted = false) →
        exec (.amendOfftake p b) s =
          .next (((s.putOfftake b.slot (some o')).enterQuiet b.slot).answer p q
            (.amendOfftake b) .ok .empty))

/-- An accepted RETIRE_OFFTAKE of a record whose partner may hold a setpoint leaves it retiring, out of supply and in no
list; any other record is freed at once, what names its account is one less, and an exchange in flight for it takes no
reply any more (R19, R21, R27, R29). -/
def Obligations.RetireOfftakeCompletes : Prop :=
  ∀ (p : PortId) (i : Nat) (tag : Tag) (s : State) (q : Port) (o : Offtake),
    s.takes p (.retireOfftake i tag) q → s.hasRight p .maintain = true → s.offtake i = some o → o.tag = tag →
    o.retiring = false →
    ∃ t : State,
      (∀ j, j ≠ i → t.offtake j = s.offtake j) ∧ t.listed = s.listed.filter (· ≠ i)
      ∧ t = { s with
          slots := t.slots, setpointQueue := t.setpointQueue, exchange := t.exchange, pass := t.pass, stack := t.stack,
          readmission := t.readmission, accounts := t.accounts }
      ∧ (∀ ps, t.pass = some ps → ∀ e ∈ ps.table, e.slot = i → e.void = true)
      ∧ (s.waitsForClose i o = true →
        exec (.retireOfftake p i tag) s = .next (t.answer p q (.retireOfftake i tag) .ok (.outcome true))
        ∧ t.accounts = s.accounts ∧ t.exchange = s.exchange
        ∧ t.offtake i = some { o with
            retiring := true
            grant := 0
            split := o.split.map fun _ => ⟨0, 0, 0⟩
            supply := if o.supply = .active ∨ o.supply = .shed then .held else o.supply }
        ∧ t.setpointQueue = queueAfterGrant i 0 o.ackGrant s.setpointQueue)
      ∧ (s.waitsForClose i o = false →
        exec (.retireOfftake p i tag) s = .next (t.answer p q (.retireOfftake i tag) .ok (.outcome false))
        ∧ t.offtake i = none ∧ t.setpointQueue = s.setpointQueue.filter (·.slot ≠ i)
        ∧ t.accounts = (s.unbindCount o.account).accounts
        ∧ t.exchange = (match s.exchange with
          | some (.poll j addr freed) => some (.poll j addr (freed || decide (j = i)))
          | some (.setpoint j addr sent abandoned) => some (.setpoint j addr sent (abandoned || decide (j = i)))
          | none => none))

/-- Entering QUIET (R30, with R29 first when the record was linked): the record, the setpoint queue and the exchange, and
all that is left as it was. -/
def Obligations.EnteringQuietLeavesService : Prop :=
  ∀ (s : State) (i : Nat) (o : Offtake), s.offtake i = some o →
    let t := s.enterQuiet i
    (∀ j, j ≠ i → t.offtake j = s.offtake j)
    ∧ t = { s with
        slots := t.slots, setpointQueue := t.setpointQueue, exchange := t.exchange, pass := t.pass,
        accounts := t.accounts }
    ∧ (o.linked = true → o.retiring = true → t.offtake i = none ∧ t.accounts = (s.unbindCount o.account).accounts)
    ∧ (¬ (o.linked = true ∧ o.retiring = true) → t.accounts = s.accounts
      ∧ t.offtake i = some { o with
          link := .quiet, quietMs := 0, mode := none, advert := none, call := 0, trip := false, noMode := false,
          absent := false, legacy := false, confirmCount := 0, legacyRun := 0, split := none
          supply := if o.linked = true ∧ o.supply = .active then .held else o.supply
          grant := if o.linked = true ∧ o.supply = .active then 0 else o.grant
          ackGrant := if o.linked = true then 0 else o.ackGrant })
    ∧ (o.linked = true → t.setpointQueue = s.setpointQueue.filter (·.slot ≠ i) ∧ ¬ t.exchanging i)
    ∧ (o.linked = false → t.setpointQueue = s.setpointQueue ∧ t.exchange = s.exchange ∧ t.pass = s.pass)

/-- RENEGOTIATE sends the link to QUIET from any link state; RELEASE takes a LOCKOUT record to HELD with a clean count
and sends its link to QUIET (R43, R61). -/
def Obligations.RenegotiateAndReleaseComplete : Prop :=
  ∀ (p : PortId) (i : Nat) (tag : Tag) (s : State) (q : Port) (o : Offtake),
    s.hasRight p .operate = true → s.offtake i = some o → o.tag = tag → o.retiring = false →
    (s.takes p (.renegotiate i tag) q →
      exec (.renegotiate p i tag) s = .next ((s.enterQuiet i).answer p q (.renegotiate i tag) .ok .empty))
    ∧ (s.takes p (.release i tag) q → o.supply = .lockout →
      exec (.release p i tag) s =
        .next (((s.putOfftake i (some { o with overdrawCount := 0, supply := .held })).enterQuiet i).answer p q
          (.release i tag) .ok .empty))

/-! ### The Meter Channel Unit -/

/-- An accepted SET_CHANNEL writes the clamped configuration and starts the channel afresh (R67, R68).
That a substitute for kind NONE is held within the widest range of the other kinds is the model's choice (log 13). -/
def Obligations.SetChannelCompletes : Prop :=
  ∀ (p : PortId) (b : ChannelBody) (s : State) (q : Port) (k : ChannelKind) (pol : Polarity),
    s.takes p (.setChannel b) q → s.hasRight p .maintain = true → b.channel < 48 →
    ChannelKind.ofCode b.kind = some k → Polarity.ofCode b.polarity = some pol →
    (pol = .auto → k = .gasFlow ∨ k = .waterFlow) →
    ∃ ch : Channel,
      exec (.setChannel p b) s = .next ((s.withChannel b.channel ch).answer p q
        (.setChannel b) .ok .empty)
      ∧ ch.kind = k ∧ ch.polarity = pol ∧ ch.span = max 1 (min b.span 65535)
      ∧ (-2147483647 ≤ b.offset → b.offset ≤ 2147483647 → ch.offset = b.offset)
      ∧ (b.offset = -2147483648 → ch.offset = -2147483647)
      ∧ (k = .gasFlow ∨ k = .waterFlow →
        (ch.onThreshold : Int) = min (max 0 b.onThreshold) 2147483647
        ∧ (ch.offThreshold : Int) = min (min (max 0 b.offThreshold) 2147483647) ch.onThreshold
        ∧ ch.activity = some .idle)
      ∧ (k ≠ .gasFlow → k ≠ .waterFlow → ch.onThreshold = 0 ∧ ch.offThreshold = 0 ∧ ch.activity = none)
      ∧ ch.substitute = k.clamp b.substitute ∧ ch.reversed = false ∧ ch.overrange = false ∧ ch.value = 0
      ∧ ch.condition = .stale ∧ ch.ageMs = 0 ∧ ch.staleMs = 0 ∧ ch.goodRun = 0 ∧ ch.negativeRun = 0

/-- A sample that passes its check is taken by the channel it names: a FAULT breaks the good run and no more; a good one
writes value, activity and age, and makes a channel NORMAL at its third in a row; the eighth reversed one in a row sets
the reversed flag; any other sample is discarded (R64, R65, R70 to R74, R77). -/
def Obligations.SampleMessageCompletes : Prop :=
  ∀ (s : State) (bytes : List Byte), s.inReset = false →
    (readSample bytes = none → exec (.sampleMessage bytes) s = .next s)
    ∧ (∀ d, readSample bytes = some d →
      (s.channels[d.channel]? = none → exec (.sampleMessage bytes) s = .next s)
      ∧ ∀ ch, s.channels[d.channel]? = some ch →
        (ch.kind = .noKind → exec (.sampleMessage bytes) s = .next s)
        ∧ (ch.kind ≠ .noKind → d.status = .fault →
          exec (.sampleMessage bytes) s =
            .next (s.withChannel d.channel { ch with goodRun := 0 }))
        ∧ (ch.kind ≠ .noKind → d.status ≠ .fault →
          ∃ ch' t, exec (.sampleMessage bytes) s = .next t
            ∧ t = { s.withChannel d.channel ch' with notices := t.notices }
            ∧ ch'.value = ch.convert (if d.status = .overrange ∧ d.raw = -32768 then -32767 else d.raw)
            ∧ ch'.activity = ch.activityAfter ch'.value ∧ ch'.ageMs = 0
            ∧ (ch'.overrange = true ↔ d.status = .overrange) ∧ ch'.goodRun = min 3 (ch.goodRun + 1)
            ∧ ch'.condition = (if ch.goodRun = 2 then .normal else ch.condition)
            ∧ ch'.staleMs = (if ch.goodRun = 2 ∧ ch.condition ≠ .normal then 0 else ch.staleMs)
            ∧ ch'.negativeRun = (if ch.judgesReversal && decide (ch'.value < -(ch.onThreshold : Int)) then
                (if 7 ≤ ch.negativeRun then 0 else ch.negativeRun + 1) else 0)
            ∧ ch'.reversed = (ch.reversed || (ch.judgesReversal && decide (ch'.value < -(ch.onThreshold : Int))
                && decide (7 ≤ ch.negativeRun)))
            ∧ t.notices = (if ch'.reversed && !ch.reversed then (s.raise .meterReversed d.channel).notices else s.notices)
            ∧ ch' = { ch with
                value := ch'.value, activity := ch'.activity, ageMs := 0, overrange := ch'.overrange,
                goodRun := ch'.goodRun, condition := ch'.condition, staleMs := ch'.staleMs,
                negativeRun := ch'.negativeRun, reversed := ch'.reversed }))

/-- The age expiry of a NORMAL channel makes it STALE with its notice and a fresh stale timer, and breaks the good run of
any channel; the stale timer's expiry makes a STALE channel FAILED with its notice (R75, R76). That the command is the
timer's expiry whatever the timer held, that the expiry leaves the timer at its limit, and that a stale-timer expiry of a
channel that is not STALE changes nothing, are the model's choice (log 3, log 7, log 22). -/
def Obligations.ChannelExpiriesComplete : Prop :=
  ∀ (s : State) (c : Nat) (ch : Channel), s.inReset = false → s.channels[c]? = some ch → ch.kind ≠ .noKind →
    (ch.condition = .normal →
      exec (.ageExpiry c) s = .next ((s.withChannel c { ch with
        condition := .stale, staleMs := 0, goodRun := 0, ageMs := max ch.ageMs 1000 }).raise .meterStale c))
    ∧ (ch.condition ≠ .normal →
      exec (.ageExpiry c) s = .next (s.withChannel c { ch with goodRun := 0, ageMs := max ch.ageMs 1000 }))
    ∧ (ch.condition = .stale →
      exec (.staleTimerExpiry c) s =
        .next ((s.withChannel c { ch with condition := .failed, staleMs := 30000 }).raise .meterFailed c))
    ∧ (ch.condition ≠ .stale → exec (.staleTimerExpiry c) s = .next s)

/-! ### The Grade Balance Unit -/

/-- An accepted SET_GRADE writes the grade's clamped configuration and nothing else of it; an accepted SET_WINDOW writes
the window valid with the fields it carries, an accepted CLEAR_WINDOW clears its valid flag and keeps its fields, and
each recomputes the reserve totals and nothing else of the grades (R93 to R96). -/
def Obligations.GradeRequestsComplete : Prop :=
  ∀ (p : PortId) (s : State) (q : Port), s.hasRight p .maintain = true →
    (∀ (b : GradeBody) (g : Grade), s.takes p (.setGrade b) q →
      b.grade = g.code → gradeValuesOk b = true →
    gradeChannelsOk s b = true → (s.grades.get g).reserveTotal ≤ reserveLimit (lowOf b) (highOf b) →
    exec (.setGrade p b) s = .next (({ s with grades := s.grades.set g { s.grades.get g with
        supplyChannels := [b.place1, b.place2, b.place3, b.place4].take b.supplyLength
        cv := b.cv
        level := b.level
        low := min b.low.toNat 2147483647
        target := min b.target.toNat 2147483647
        high := min b.high.toNat 2147483647
        gain := min b.gain.toNat 10000
        hMax := min b.hMax.toNat 500000 } } : State).answer p q (.setGrade b) .ok .empty))
    ∧ (∀ (b : WindowBody) (w : Window) (g : Grade), s.takes p (.setWindow b) q → s.windows[b.window]? = some w →
      b.grade = g.code →
      (s.grades.get g).reserveTotal - (if w.valid = true ∧ w.grade = g then w.reserve else 0)
        + min b.reserve.toNat 2147483647 ≤ reserveLimit (s.grades.get g).low (s.grades.get g).high →
      ∃ t : State, exec (.setWindow p b) s = .next (t.answer p q (.setWindow b) .ok .empty)
        ∧ t = { s with windows := t.windows, grades := t.grades }
        ∧ t.windows = s.windows.setIfInBounds b.window ⟨true, g, b.value, b.mask, min b.reserve.toNat 2147483647⟩
        ∧ ∀ h, t.grades.get h = { s.grades.get h with reserveTotal := windowTotal t.windows.toList h })
    ∧ (∀ (n : Nat) (w : Window), s.takes p (.clearWindow n) q → s.reservesOk → s.windows[n]? = some w →
      ∃ t : State, exec (.clearWindow p n) s = .next (t.answer p q (.clearWindow n) .ok .empty)
        ∧ t = { s with windows := t.windows, grades := t.grades }
        ∧ t.windows = s.windows.setIfInBounds n { w with valid := false }
        ∧ ∀ h, t.grades.get h = { s.grades.get h with reserveTotal := windowTotal t.windows.toList h })

/-- What a pass is handed of a grade: the supply as the power of its supply channels at its CV, none without a supply
channel or a CV channel; the correction as gain times the distance from target, held within H_max, none without a level
channel; the available power as supply plus correction; in reserve below the reserve line (R85 to R88). That the sum is followed
also for a grade with no CV channel and a positive correction is the model's choice (log 24). -/
def Obligations.GradeFiguresFollowTheirRules : Prop :=
  ∀ (s : State) (g : Grade),
    let r := s.grades.get g
    let v := s.gradeView g
    (v.available : Int) = min 2147483647 (max 0 (v.supply + v.correction)) ∧ v.supply ≤ 2147483647
    ∧ -(r.hMax : Int) ≤ v.correction ∧ v.correction ≤ r.hMax
    ∧ (r.supplyChannels = [] ∨ r.cv = none → v.supply = 0)
    ∧ (∀ k, r.cv = some k →
      v.supply = min 2147483647 ((r.supplyChannels.map fun c => gasPower (s.effValue c) (s.effValue k)).sum))
    ∧ (r.level = none → v.correction = 0 ∧ v.inReserve = false)
    ∧ (∀ c, r.level = some c →
      v.correction = max (-(r.hMax : Int)) (min (r.gain * (s.effValue c - r.target)) r.hMax)
      ∧ (v.inReserve = true ↔ s.effValue c < r.low + r.reserveTotal))

/-! ### The plant record -/

/-- An accepted SET_PLANT writes every field it carries, clamped, keeps the commitment and the export account, and lowers
the counts of records not in LOCKOUT to below a lowered lockout limit; SET_COMMITMENT writes the clamped commitment
(R101 to R103, R62, R135). -/
def Obligations.PlantRequestsComplete : Prop :=
  ∀ (p : PortId) (s : State) (q : Port),
    (∀ (b : PlantBody) (pol : Policy), s.takes p (.setPlant b) q → s.hasRight p .maintain = true →
      b.policy = pol.code → loopWhole b = true → plantChannelsOk s b = true →
      ∃ t : State, exec (.setPlant p b) s = .next (t.answer p q (.setPlant b) .ok .empty)
        ∧ t = { s with plant := t.plant, slots := t.slots }
        ∧ t.plant = ⟨max 1 (min b.interval 10), max 10 (min b.recoveryHold 900), min b.tolerance 200,
            min b.deadband 50000, max 10 (min b.overdrawLimit 600), max 1 (min b.lockoutLimit 15),
            max 100 (min b.turbineEff 600), min b.extractionCeiling 800, max 3800 (min b.cp 4400), pol, b.loopFlow,
            b.loopSupply, b.loopReturn, b.houseLoad, b.exportChannel, min b.exportTolerance 100000,
            s.plant.commitment, s.plant.exportAccount⟩
        ∧ ∀ i, t.offtake i = (s.offtake i).map fun o => { o with
            overdrawCount :=
              if t.plant.lockoutLimit < s.plant.lockoutLimit ∧ o.supply ≠ .lockout
                ∧ t.plant.lockoutLimit ≤ o.overdrawCount then t.plant.lockoutLimit - 1 else o.overdrawCount })
    ∧ (∀ v : Int, s.takes p (.setCommitment v) q → s.hasRight p .operate = true →
      exec (.setCommitment p v) s = .next (({ s with plant := { s.plant with
        commitment := (max 0 (min v 2000000)).toNat } } : State).answer p q (.setCommitment v) .ok .empty))

/-! ### Curtailment -/

/-- An accepted PUSH_CURTAIL pushes a MANUAL context at its level, after which no ACTIVE record and no queue entry is of
a class held out, and an accepted POP_CURTAIL pops the top context; each sets the recovery timer to 0 and raises its
notice. The sheds of a push are handed on in their order, and void their entries in a pass in flight (R47, R48, R109,
R141, R142, R148, R149). -/
def Obligations.PushAndPopComplete : Prop :=
  ∀ (p : PortId) (s : State) (q : Port), s.hasRight p .operate = true →
    (∀ level, s.takes p (.pushCurtail level) q → s.level < level → level ≤ 4 →
      let swept := slotNumbers.filter fun i => (s.offtake i).any fun o => o.supply = .active && !admits level o.prio
      ∃ (t : State) (shed : List Nat), exec (.pushCurtail p level) s = .next (t.answer p q (.pushCurtail level) .ok .empty)
        ∧ t.stack = ⟨level, .manual, .operator, shed⟩ :: s.stack ∧ t.recoveryTimer = 0
        ∧ shed = swept ++ (s.readmission.filter fun i => !admits level (s.prioOf i))
        ∧ t.readmission = (s.readmission.filter fun i => admits level (s.prioOf i))
        ∧ (∀ i o, t.offtake i = some o → o.supply = .active → admits level o.prio = true ∧ s.offtake i = some o)
        ∧ (∀ i o, s.offtake i = some o → t.offtake i = some (if o.supply = .active ∧ admits level o.prio = false then
            { o with supply := .shed, grant := 0, split := o.split.map fun _ => ⟨0, 0, 0⟩ } else o))
        ∧ t.notices = (s.raise .curtailUp level).notices
        ∧ t.setpointQueue = swept.foldl (fun queue i => match s.offtake i with
            | some o => if o.linked then queueAfterGrant i 0 o.ackGrant queue else queue
            | none => queue) s.setpointQueue
        ∧ t.pass = s.pass.map (fun ps => { ps with
            table := ps.table.map fun e => if e.slot ∈ swept then { e with void := true } else e })
        ∧ t = { s with
            slots := t.slots, stack := t.stack, readmission := t.readmission, setpointQueue := t.setpointQueue,
            pass := t.pass, recoveryTimer := 0, notices := t.notices })
    ∧ (∀ c below, s.takes p .popCurtail q → s.stack = c :: below → c.origin = .manual →
      exec (.popCurtail p) s = .next (s.pop.answer p q .popCurtail .ok .empty))

/-- A pop lowers the level to that of the context beneath, hands each slot of the popped list to the readmission queue,
or to that context where its class is still held out, and no record changes (R147). -/
def Obligations.PopHandsTheListOn : Prop :=
  ∀ (s : State) (c : Context) (below : List Context), s.stack = c :: below →
    ∃ sorted : List Nat,
      sorted.Perm c.shedList
      ∧ sorted.Pairwise (fun i j => s.prioOf i < s.prioOf j ∨ (s.prioOf i = s.prioOf j ∧ i ≤ j))
      ∧ (∀ d ds, below = d :: ds →
        s.pop = ({ s with
          stack := { d with shedList := d.shedList ++ sorted.filter fun i => !admits d.level (s.prioOf i) } :: ds
          readmission := s.readmission ++ sorted.filter fun i => admits d.level (s.prioOf i)
          recoveryTimer := 0 } : State).raise .curtailDown d.level)
      ∧ (below = [] →
        s.pop = ({ s with stack := [], readmission := s.readmission ++ sorted, recoveryTimer := 0 } : State).raise
          .curtailDown 0)

/-! ### The pass -/

/-- A class pass without shortage grants every call; one with shortage visits each candidate once, by call per weight, the
lowest first and equal ratios by slot; each has a fair share of the pool and the weight that remain when it is visited, and
is given the lower of its call and that share, or, where this is below its minimum, nothing, as a shed; what is granted
and what is left are the pool (R110 to R112). -/
def Obligations.ClassPassSharesThePool : Prop :=
  (∀ (pool : Nat) (cs : List Cand), (∀ c ∈ cs, c.min ≤ c.call ∧ 1 ≤ c.weight) → (cs.map (·.slot)).Nodup →
    let r := classPass pool cs
    (r.1.map (·.grant)).sum + r.2 = pool
    ∧ (r.1.map (·.slot)).Perm (cs.map (·.slot))
    ∧ ((cs.map (·.call)).sum ≤ pool → ∀ c ∈ cs, ⟨c.slot, c.call, false⟩ ∈ r.1)
    ∧ (∀ c ∈ cs, ∃ x ∈ r.1, x.slot = c.slot
      ∧ (x.shed = true → x.grant = 0 ∧ 0 < c.min) ∧ (x.shed = false → c.min ≤ x.grant ∧ x.grant ≤ c.call))
    ∧ (∀ c ∈ cs, cs = [c] → pool < c.call → c.min ≤ pool → r = ([⟨c.slot, pool, false⟩], 0)))
  ∧ ∀ (pool : Nat) (cs : List Cand), pool < (cs.map (·.call)).sum → (∀ c ∈ cs, 1 ≤ c.weight) → (cs.map (·.slot)).Nodup →
    ∃ visits : List Cand, visits.Perm cs
      ∧ visits.Pairwise (fun c d =>
        c.call * d.weight < d.call * c.weight ∨ (c.call * d.weight = d.call * c.weight ∧ c.slot < d.slot))
      ∧ (classPass pool cs).1.length = visits.length
      ∧ ∀ (before behind : List Cand) (c : Cand), visits = before ++ c :: behind →
        let left := pool - (((classPass pool cs).1.take before.length).map (·.grant)).sum
        let fair := left * c.weight / (c.weight + (behind.map (·.weight)).sum)
        (classPass pool cs).1[before.length]? =
          some (if min c.call fair < c.min then ⟨c.slot, 0, true⟩ else ⟨c.slot, min c.call fair, false⟩)

/-- A blend grant is drawn in full from the grades not in reserve, VG first, then TG, then OG, each to its end before the
next, and nothing is drawn of a grade in reserve (R114, R115). A grade in reserve is drawn on only through a valid window
of it: a grade-bound record whose tag matches none is granted nothing and is not shed, one that matches enters its class
pass, and with no match at all the whole grade is left (R88, R91, R113). -/
def Obligations.BlendGrantsAreDrawnInFull : Prop :=
  (∀ (v : View) (pools : PerGrade Nat) (grant : Nat), grant ≤ v.blendPool pools →
    let sp := v.drawSplit pools grant
    sp.vg + sp.tg + sp.og = grant ∧ sp.vg ≤ pools.vg ∧ sp.tg ≤ pools.tg ∧ sp.og ≤ pools.og
    ∧ (v.grades.vg.inReserve = true → sp.vg = 0) ∧ (v.grades.tg.inReserve = true → sp.tg = 0)
    ∧ (v.grades.og.inReserve = true → sp.og = 0)
    ∧ (0 < sp.tg → v.grades.vg.inReserve = false → sp.vg = pools.vg)
    ∧ (0 < sp.og → (v.grades.vg.inReserve = false → sp.vg = pools.vg)
      ∧ (v.grades.tg.inReserve = false → sp.tg = pools.tg)))
  ∧ ∀ (v : View) (g : Grade),
    let covered (r : RecordView) : Prop :=
      ∃ w ∈ v.windows, w.valid = true ∧ w.grade = g ∧ r.tag &&& w.mask = w.value &&& w.mask
    (∀ r ∈ v.records, (∀ x ∈ v.records, x.slot = r.slot → x = r) → r.boundGrade = some g →
      (v.grades.get g).inReserve = true → ¬ covered r →
      grantIn v.result.shares r.slot = 0 ∧ ∀ m ∈ v.result.shed, m.slot ≠ r.slot)
    ∧ (∀ r ∈ v.records, v.candidate r = true → r.boundGrade = some g →
      ((v.grades.get g).inReserve = false ∨ covered r) → ⟨r.slot, r.effCall, r.effMin, r.weight⟩ ∈ v.gradeCands r.prio g)
    ∧ ((v.grades.get g).inReserve = true → (∀ r ∈ v.records, ¬ covered r) →
      (v.result.grades.get g).granted = 0 ∧ (v.result.grades.get g).unallocated = (v.grades.get g).available)

/-- A PASS_BEGIN with no pass in flight readmits the head of the readmission queue, moving each held-out entry ahead of it
to the top context's list; takes its view after that, judges the grades for reserve, raises RESERVE once for each grade
that enters reserve and for no other, starts the timer and the interval, and has a result table of zeros for the ACTIVE
records. The view holds the level and the policy it puts in force (HEAT_FIRST at levels 3 and 4), every record's figures
in slot order, the grades' figures, the valid windows, the plant's figures, and the readings of the recovery loop and the
house load, 0 when negative or absent; its candidates are the ACTIVE records of admitted classes with an effective call
(R88, R106 to R109, R124, R151, R152). -/
def Obligations.PassBeginCompletes : Prop :=
  ∀ s : State, s.inReset = false → s.pass = none →
    ∃ (t : State) (ps : Pass), exec .passBegin s = .next t
      ∧ t = { s with
          slots := t.slots, stack := t.stack, readmission := t.readmission, grades := t.grades, notices := t.notices,
          pass := some ps, passMs := 0, passLength := s.plant.interval }
      ∧ ps.table = ((ps.view.records.filter (·.supply = .active)).map fun r =>
          ⟨r.slot, 0, if r.mode = some .blend then some ⟨0, 0, 0⟩ else none, false⟩)
      ∧ ps.view.level = s.level
      ∧ (s.level < 3 → ps.view.policy = s.plant.policy) ∧ (3 ≤ s.level → ps.view.policy = .heatFirst)
      ∧ ps.view.records = (slotNumbers.filterMap fun i => (t.offtake i).map fun o =>
          ⟨i, o.supply, o.cls, o.prio, o.mode, o.grade, o.tag, o.weight, o.eff.getD 0, o.effCall, o.limits.1, o.limits.2⟩)
      ∧ (∀ g, ps.view.grades.get g = s.gradeView g) ∧ ps.view.windows = s.windows.toList.filter (·.valid)
      ∧ ps.view.turbineEff = s.plant.turbineEff ∧ ps.view.extractionCeiling = s.plant.extractionCeiling
      ∧ ps.view.cp = s.plant.cp ∧ ps.view.exportTolerance = s.plant.exportTolerance
      ∧ ps.view.commitment = s.plant.commitment ∧ ps.view.interval = s.plant.interval
      ∧ (s.plant.loopFlow = none → ps.view.loop = none)
      ∧ (∀ a b c, s.plant.loopFlow = some a → s.plant.loopSupply = some b → s.plant.loopReturn = some c →
        ps.view.loop = some ⟨s.effValue a, s.effValue b, s.effValue c⟩)
      ∧ (s.plant.houseLoad = none → ps.view.houseLoad = 0)
      ∧ (∀ c, s.plant.houseLoad = some c → (ps.view.houseLoad : Int) = max 0 (s.effValue c))
      ∧ (∀ r, ps.view.candidate r = true ↔ r.supply = .active ∧ 0 < r.effCall ∧ (s.level = 2 → r.prio ≤ 2)
        ∧ (s.level = 3 → r.prio ≤ 1) ∧ (s.level = 4 → r.prio = 0))
      ∧ (∀ g, t.grades.get g = { s.grades.get g with inReserve := (s.gradeView g).inReserve })
      ∧ (∀ e, e ≠ NoticeKind.reserve → t.notice e = s.notice e)
      ∧ t.notice .reserve =
        (([.tg, .og, .vg] : List Grade).filter fun g => (s.gradeView g).inReserve && !(s.grades.get g).inReserve).foldl
          (fun e g => e.raise g.code) (s.notice .reserve)
      ∧ (s.stack = [] → t.stack = [])
      ∧ ∀ ahead : List Nat, (∀ j ∈ ahead, admits s.level (s.prioOf j) = false) →
        let listed := ∀ top below, s.stack = top :: below → t.stack = { top with shedList := top.shedList ++ ahead } :: below
        (s.readmission = ahead → t.readmission = [] ∧ listed ∧ t.slots = s.slots)
        ∧ (∀ i rest o, s.readmission = ahead ++ i :: rest → s.offtake i = some o → admits s.level o.prio = true →
          t.readmission = rest ∧ listed
          ∧ t.offtake i = some { o with supply := if o.linked = true then .active else .held }
          ∧ ∀ j, j ≠ i → t.offtake j = s.offtake j)

/-- A PASS_COMPLETION writes the grants and draw splits the stages gave to the ACTIVE records whose entries are not void,
the figures of the pass, and the next sequence number; and takes the outcome (R118 to R120, R134, R141 to R146). Let
`lead` be the shed set's ACTIVE records whose entries are not void, in its order. Above the effective level, the observed
level is pushed as an AUTO context with the lead, the swept records and the queue entries held out; otherwise the lead
joins the top context's list, and the recovery timer is judged, a timer at its hold popping an AUTO top. A record shed is
SHED with grant 0, and no record is changed otherwise. The setpoint queue takes the grants written, in the table's order,
and then the grants of the lead and of the swept, zeroed, in theirs (R47 to R49). -/
def Obligations.PassCompletionCompletes : Prop :=
  ∀ (s : State) (ps : Pass), s.inReset = false → s.pass = some ps →
    let r := ps.view.result
    let members := r.shed.filter fun m => !voided ps.table m.slot
    let observed := observedLevel members
    let timer := if observed < s.level then min (s.recoveryTimer + ps.view.interval) s.plant.recoveryHold else 0
    ∃ (t : State) (lead swept : List Nat), exec .passCompletion s = .next t
      ∧ t = { s with
          slots := t.slots, setpointQueue := t.setpointQueue, grades := t.grades, balance := t.balance,
          passSeq := (s.passSeq + 1) % 65536, pass := none, stack := t.stack, readmission := t.readmission,
          recoveryTimer := t.recoveryTimer, notices := t.notices }
      ∧ t.balance = r.balance
      ∧ (∀ g, t.grades.get g = { s.grades.get g with last := r.grades.get g })
      ∧ (lead.Sublist (members.map (·.slot)) ∧ lead.Nodup
        ∧ ∀ i, i ∈ lead ↔ i ∈ members.map (·.slot) ∧ s.isActive i = true)
      ∧ (s.level < observed → swept = slotNumbers.filter fun i =>
          !lead.contains i && (s.offtake i).any fun o => o.supply = .active && !admits observed o.prio)
      ∧ (observed ≤ s.level → swept = [])
      ∧ (let handed := fun (grant : Nat → Nat) (queue : List SetpointEntry) (i : Nat) => match s.offtake i with
          | some o => if o.supply = .active ∧ o.linked = true then queueAfterGrant i (grant i) o.ackGrant queue else queue
          | none => queue
        let written := (ps.table.filter fun e => !e.void).map (·.slot)
        t.setpointQueue = (lead ++ swept).foldl (handed fun _ => 0)
          (written.foldl (handed fun i => grantIn r.shares i) s.setpointQueue))
      ∧ (∀ i, s.offtake i = none → t.offtake i = none)
      ∧ (∀ i o, s.offtake i = some o → ∃ o', t.offtake i = some o'
        ∧ o' = { o with supply := o'.supply, grant := o'.grant, split := o'.split }
        ∧ (o.supply ≠ .active → o' = o)
        ∧ (o.supply = .active → i ∈ lead ∨ i ∈ swept →
          o'.supply = .shed ∧ o'.grant = 0 ∧ ∀ sp, o'.split = some sp → sp = ⟨0, 0, 0⟩)
        ∧ (o.supply = .active → i ∉ lead → i ∉ swept →
          let written := ∃ e ∈ ps.table, e.slot = i ∧ e.void = false
          o'.supply = .active
          ∧ (written → o'.grant = grantIn r.shares i
            ∧ o'.split = if o.mode = some .blend then some (r.splitOf i) else o.split)
          ∧ (¬ written → o' = o)))
      ∧ (s.level < observed → 0 < s.plant.recoveryHold →
        t.stack = ⟨observed, .auto, causeOf members,
            lead ++ swept ++ s.readmission.filter fun i => !admits observed (s.prioOf i)⟩ :: s.stack
        ∧ t.readmission = (s.readmission.filter fun i => admits observed (s.prioOf i)) ∧ t.recoveryTimer = 0
        ∧ t.notice .curtailUp = (s.notice .curtailUp).raise observed
        ∧ t.notice .curtailDown = s.notice .curtailDown)
      ∧ (observed ≤ s.level →
        t.notice .curtailUp = s.notice .curtailUp
        ∧ (s.stack = [] → t.stack = [] ∧ t.readmission = s.readmission ∧ t.recoveryTimer = 0
          ∧ t.notice .curtailDown = s.notice .curtailDown)
        ∧ ∀ c below, s.stack = c :: below →
          let u : State := { s with stack := { c with shedList := c.shedList ++ lead } :: below }
          (c.origin = .auto → timer = s.plant.recoveryHold →
            t.stack = u.pop.stack ∧ t.readmission = u.pop.readmission ∧ t.recoveryTimer = 0
            ∧ t.notice .curtailDown = u.pop.notice .curtailDown)
          ∧ (c.origin = .manual ∨ timer ≠ s.plant.recoveryHold →
            t.stack = u.stack ∧ t.readmission = s.readmission ∧ t.recoveryTimer = timer
            ∧ t.notice .curtailDown = s.notice .curtailDown))
      ∧ ∀ k, k ≠ .exportShort → k ≠ .curtailUp → k ≠ .curtailDown → t.notice k = s.notice k

/-- The completion of a short pass leaves its shortfall, which is above the export tolerance, and raises EXPORT_SHORT with
it as subject; a pass that is not short leaves shortfall 0 and does not; and the notice's condition stands while the
shortfall of the last pass is above 0 (R133). -/
def Obligations.ShortPassesAreJudged : Prop :=
  (∀ (s : State) (ps : Pass), s.inReset = false → s.pass = some ps →
    ∃ t, exec .passCompletion s = .next t
      ∧ t.balance.commitment = ps.view.commitment
      ∧ (t.balance.exportCeiling + ps.view.exportTolerance < ps.view.commitment →
        t.balance.shortfall = ps.view.commitment - t.balance.exportCeiling
        ∧ ps.view.exportTolerance < t.balance.shortfall
        ∧ t.notice .exportShort = (s.notice .exportShort).raise t.balance.shortfall)
      ∧ (ps.view.commitment ≤ t.balance.exportCeiling + ps.view.exportTolerance →
        t.balance.shortfall = 0 ∧ t.notice .exportShort = s.notice .exportShort))
  ∧ ∀ (s : State) (subject : Nat), standing s .exportShort subject = true ↔ 0 < s.balance.shortfall

/-- The recovery timer rises by the interval of a pass whose sheds stay below the level, up to the recovery hold, and is 0
after any other pass; an empty stack keeps it at 0. RECOVERY_HOLD_EXPIRY pops the top context when it is AUTO and the
timer stands at the hold, and otherwise changes nothing (R145, R146). -/
def Obligations.RecoveryIsJudged : Prop :=
  (∀ (s : State) (observed interval : Nat),
    let t := s.judgeTimer observed interval
    t = { s with recoveryTimer := t.recoveryTimer }
    ∧ (observed < s.level → t.recoveryTimer = min (s.recoveryTimer + interval) s.plant.recoveryHold)
    ∧ (s.level ≤ observed → t.recoveryTimer = 0) ∧ (s.stack = [] → t.recoveryTimer = 0))
  ∧ ∀ (s : State) (c : Context) (below : List Context), s.inReset = false → s.stack = c :: below →
    (c.origin = .auto → s.recoveryTimer = s.plant.recoveryHold → exec .recoveryHoldExpiry s = .next s.pop)
    ∧ (c.origin = .manual ∨ s.recoveryTimer ≠ s.plant.recoveryHold → exec .recoveryHoldExpiry s = .next s)

/-! ### Accounts -/

/-- OPEN_ACCOUNT fills a VACANT entry with a new account, AMEND_ACCOUNT writes the key, RETIRE_ACCOUNT makes a settled and
unbound account's entry VACANT (R160, R163, R164, R166; which VACANT entry is filled is the model's choice, log 17). -/
def Obligations.AccountTableRequestsComplete : Prop :=
  ∀ (p : PortId) (n : Nat) (s : State) (q : Port), s.hasRight p .settle = true → s.numbersDistinct →
    (∀ (k : AccountKind) (key : BitVec 12), s.takes p (.openAccount n k.code key.toNat) q → 1 ≤ n → n ≤ 65535 →
      (∀ e a, s.accountAt e = some a → a.number ≠ n) → (∃ e, e < 32 ∧ s.accountAt e = none) →
      ∃ e a, e < 32 ∧ s.accountAt e = none
        ∧ exec (.openAccount p n k.code key.toNat) s =
          .next ((s.withAccount e (some a)).answer p q
            (.openAccount n k.code key.toNat) .ok .empty)
        ∧ a.number = n ∧ a.kind = k ∧ a.key = key ∧ a.boundCount = 0 ∧ a.period = 0
        ∧ a.primary = ⟨0, 0, 0⟩ ∧ a.secondary = ⟨0, 0, 0⟩ ∧ a.residue = 0
        ∧ a.flags = ⟨false, false, false, false⟩ ∧ a.statement = none
        ∧ a.shortfall = (if k = .exportKind then some 0 else none) ∧ a.surplus = a.shortfall
        ∧ a.shortfallResidue = a.shortfall ∧ a.surplusResidue = a.shortfall)
    ∧ (∀ e a, s.accountAt e = some a → a.number = n →
      (∀ key : BitVec 12, s.takes p (.amendAccount n key.toNat) q →
        exec (.amendAccount p n key.toNat) s =
          .next ((s.withAccount e (some { a with key := key })).answer p q
            (.amendAccount n key.toNat) .ok .empty))
      ∧ (s.takes p (.retireAccount n) q → a.boundCount = 0 → a.statement = none → a.primary = ⟨0, 0, 0⟩ →
        a.secondary = ⟨0, 0, 0⟩ → (a.shortfall = none ∨ a.shortfall = some 0) → (a.surplus = none ∨ a.surplus = some 0) →
        exec (.retireAccount p n) s =
          .next ((s.withAccount e none).answer p q (.retireAccount n) .ok
            .empty)))

/-- BIND_ACCOUNT and UNBIND_ACCOUNT write the record's account, SET_EXPORT_ACCOUNT the plant's, and each moves the bound
counts with it (R167 to R170). -/
def Obligations.BindingRequestsComplete : Prop :=
  ∀ (p : PortId) (s : State) (q : Port), s.hasRight p .settle = true →
    (∀ i tag n o a, s.takes p (.bindAccount i tag n) q → s.offtake i = some o → o.tag = tag → o.retiring = false →
      s.account n = some a → a.kind = (if o.cls = .boiler then .gasSale else .heatSale) →
      (o.account = some n → exec (.bindAccount p i tag n) s = .next (s.answer p q (.bindAccount i tag n) .ok .empty))
      ∧ (o.account ≠ some n → exec (.bindAccount p i tag n) s =
        .next ((((s.putOfftake i (some { o with account := some n })).unbindCount
          o.account).bindCount (some n)).answer p q (.bindAccount i tag n) .ok .empty)))
    ∧ (∀ i tag o, s.takes p (.unbindAccount i tag) q → s.offtake i = some o → o.tag = tag → o.retiring = false →
      exec (.unbindAccount p i tag) s =
        .next (((s.putOfftake i (some { o with account := none })).unbindCount
          o.account).answer p q (.unbindAccount i tag) .ok .empty))
    ∧ (∀ n, s.takes p (.setExportAccount n) q → (∀ k, n = some k → ∃ a, s.account k = some a ∧ a.kind = .exportKind) →
      (s.plant.exportAccount = n →
        exec (.setExportAccount p n) s = .next (s.answer p q (.setExportAccount n) .ok .empty))
      ∧ (s.plant.exportAccount ≠ n → exec (.setExportAccount p n) s =
        .next (((({ s with plant := { s.plant with exportAccount := n } } : State).unbindCount
          s.plant.exportAccount).bindCount n).answer p q (.setExportAccount n) .ok .empty)))

/-- CLOSE_PERIOD makes the statement, zeroes the counters, clears the flags, keeps the residues and raises the period
number; TAKE_STATEMENT hands the statement out and removes it. A REPRICE asks for the price of each band that has
unpriced kWh: one that is answered is charged for them, saturating with SATURATED, and holds none; one that misses keeps
them; an answer of more than one pair sets OVERLAP and raises its notice. UNPRICED is cleared when no band holds any, the
energy is kept, and the answer is NO_TARIFF when there is something unpriced and no band was priced (R161, R175 to
R177). -/
def Obligations.PeriodRequestsComplete : Prop :=
  (∀ (p : PortId) (n e : Nat) (s : State) (q : Port) (a : Account), s.hasRight p .settle = true → s.numbersDistinct →
    s.accountAt e = some a → a.number = n →
    (s.takes p (.closePeriod n) q → a.statement = none →
      exec (.closePeriod p n) s =
        .next ((s.withAccount e (some { a with
          statement := some ⟨a.period, a.primary, a.secondary, a.shortfall, a.surplus, a.flags⟩
          primary := ⟨0, 0, 0⟩
          secondary := ⟨0, 0, 0⟩
          shortfall := a.shortfall.map fun _ => 0
          surplus := a.surplus.map fun _ => 0
          flags := ⟨false, false, false, false⟩
          period := (a.period + 1) % 65536 })).answer p q (.closePeriod n) .ok (.period a.period)))
    ∧ (∀ st, s.takes p (.takeStatement n) q → a.statement = some st →
      exec (.takeStatement p n) s =
        .next ((s.withAccount e (some { a with statement := none })).answer p q
          (.takeStatement n) .ok (.statement st))))
  ∧ ∀ (p : PortId) (n e : Nat) (s : State) (q : Port) (a : Account), s.takes p (.reprice n) q →
    s.hasRight p .settle = true → s.numbersDistinct → s.accountAt e = some a → a.number = n →
    let price := fun b => (s.lookup a.kind.medium a.key b).price
    let repriced := fun (b : Band) (f : BandFigures) => match price b with
      | some x => if f.unpriced = 0 then f else ⟨f.energy, min Config.maxCharge (f.charge + f.unpriced * x), 0⟩
      | none => f
    let overlaps := fun (b : Band) (f : BandFigures) =>
      decide (f.unpriced ≠ 0) && (s.lookup a.kind.medium a.key b).overlap
    let saturates := fun (b : Band) (f : BandFigures) =>
      (price b).any fun x => decide (Config.maxCharge < f.charge + f.unpriced * x ∧ f.unpriced ≠ 0)
    let first := repriced .primary a.primary
    let second := repriced .secondary a.secondary
    let unsettled := a.primary.unpriced ≠ 0 ∨ a.secondary.unpriced ≠ 0
    ∃ t : State, t = { s.withAccount e (some { a with
        primary := first
        secondary := second
        flags := { a.flags with
          overlap := a.flags.overlap || overlaps .primary a.primary || overlaps .secondary a.secondary
          saturated := a.flags.saturated || saturates .primary a.primary || saturates .secondary a.secondary
          unpriced := if first.unpriced = 0 ∧ second.unpriced = 0 then false else a.flags.unpriced } }) with
        notices := t.notices }
      ∧ (∀ k, k ≠ .tariffOverlap → t.notice k = s.notice k)
      ∧ t.notice .tariffOverlap =
        ((if overlaps .primary a.primary then [n] else []) ++ (if overlaps .secondary a.secondary then [n] else [])).foldl
          (fun x i => x.raise i) (s.notice .tariffOverlap)
      ∧ (unsettled ∧ first = a.primary ∧ second = a.secondary →
        exec (.reprice p n) s = .next (t.answer p q (.reprice n) .noTariff .empty))
      ∧ (¬ (unsettled ∧ first = a.primary ∧ second = a.secondary) →
        exec (.reprice p n) s = .next (t.answer p q (.reprice n) .ok .empty))

/-- A carry leaves in the residue the remainder of its division by 3,600 and counts the whole kWh once, in the selected
band: charged at the price found, or unpriced with UNPRICED and its notice; an overlap sets OVERLAP and raises its
notice; a counter that would pass its top stays at it and SATURATED is set; no other account is touched (R161, R172,
R173). -/
def Obligations.CarryCountsAndPrices : Prop :=
  ∀ (s : State) (n e amount : Nat) (a : Account), s.numbersDistinct → s.accountAt e = some a → a.number = n →
    let t := s.carry n amount
    let k := (a.residue + amount) / 3600
    let ans := s.lookup a.kind.medium a.key s.band
    ∃ a', t = { s.withAccount e (some a') with notices := t.notices }
      ∧ a' = { a with residue := a'.residue, primary := a'.primary, secondary := a'.secondary, flags := a'.flags }
      ∧ a'.residue = (a.residue + amount) % 3600
      ∧ (k = 0 → a' = { a with residue := a.residue + amount } ∧ t.notices = s.notices)
      ∧ (0 < k →
        (a'.figures s.band).energy = min Config.maxEnergy ((a.figures s.band).energy + k)
        ∧ (∀ x, ans.price = some x →
          (a'.figures s.band).charge = min Config.maxCharge ((a.figures s.band).charge + k * x)
          ∧ (a'.figures s.band).unpriced = (a.figures s.band).unpriced ∧ a'.flags.unpriced = a.flags.unpriced
          ∧ (a'.flags.saturated = true ↔ a.flags.saturated = true ∨ Config.maxEnergy < (a.figures s.band).energy + k
            ∨ Config.maxCharge < (a.figures s.band).charge + k * x))
        ∧ (ans.price = none →
          (a'.figures s.band).charge = (a.figures s.band).charge
          ∧ (a'.figures s.band).unpriced = min Config.maxEnergy ((a.figures s.band).unpriced + k)
          ∧ a'.flags.unpriced = true
          ∧ (a'.flags.saturated = true ↔ a.flags.saturated = true ∨ Config.maxEnergy < (a.figures s.band).energy + k
            ∨ Config.maxEnergy < (a.figures s.band).unpriced + k))
        ∧ a'.flags.overlap = (a.flags.overlap || ans.overlap) ∧ a'.flags.estimated = a.flags.estimated
        ∧ (s.band = .primary → a'.secondary = a.secondary) ∧ (s.band = .secondary → a'.primary = a.primary)
        ∧ t.notices = (s.raiseCarry n ans).notices)

/-! ### The Tariff Match Table -/

/-- WRITE_TARIFF writes a pair whole and valid, INVALIDATE_TARIFF clears its valid flag alone, SET_SEASON and SET_BAND
write the season and the band selector (R186, R187, R190, R191). -/
def Obligations.TariffRequestsComplete : Prop :=
  ∀ (p : PortId) (s : State) (q : Port), s.hasRight p .settle = true →
    (∀ (b : TariffBody) (m : Medium), s.takes p (.writeTariff b) q → b.pair < 16 → b.medium = m.code → b.key ≤ 4095 →
      b.mask ≤ 4095 → b.season ≤ 255 → (∀ x, b.primary = some x → x ≤ 999999) →
      (∀ x, b.secondary = some x → x ≤ 999999) →
      exec (.writeTariff p b) s = .next ((s.withPair b.pair ⟨true, m, BitVec.ofNat 12 b.key, BitVec.ofNat 12 b.mask,
        b.season, b.shared, b.primary, b.secondary⟩).answer p q (.writeTariff b) .ok .empty))
    ∧ (∀ n pair, s.takes p (.invalidateTariff n) q → s.pairs[n]? = some pair →
      exec (.invalidateTariff p n) s =
        .next ((s.withPair n { pair with valid := false }).answer p q (.invalidateTariff n) .ok .empty))
    ∧ (∀ n, s.takes p (.setSeason n) q → n ≤ 255 →
      exec (.setSeason p n) s = .next (({ s with season := n } : State).answer p q (.setSeason n) .ok .empty))
    ∧ (∀ b : Band, s.takes p (.setBand b.code) q →
      exec (.setBand p b.code) s = .next (({ s with band := b } : State).answer p q (.setBand b.code) .ok .empty))

/-- The lookup chooses the lowest-numbered valid pair of the medium that agrees with the key under its mask and is shared
or of the active season, and reads that pair's half alone; no such pair is a miss; more than one is an overlap
(R182 to R184). -/
def Obligations.LookupChoosesTheLowestMatch : Prop :=
  ∀ (s : State) (m : Medium) (key : BitVec 12) (b : Band),
    let matches' := fun i : Nat => ∃ t : TariffPair, s.pairs[i]? = some t ∧ t.valid = true ∧ t.medium = m
      ∧ key &&& t.mask = t.key &&& t.mask ∧ (t.shared = true ∨ t.season = s.season)
    ((∀ i, ¬ matches' i) → s.lookup m key b = ⟨none, false⟩)
    ∧ (∀ i t, s.pairs[i]? = some t → matches' i → (∀ j, j < i → ¬ matches' j) →
      (s.lookup m key b).price = (if b = .primary then t.primary else t.secondary)
      ∧ ((s.lookup m key b).overlap = true ↔ ∃ j, j ≠ i ∧ matches' j))

/-! ### The Notice Table -/

/-- READ_NOTICES answers what is pending for its port, in ascending kind code, and clears it in READ_CLEARS mode;
CLEAR_NOTICE clears one kind for its port, in CHECKED mode only when its condition does not stand; a clear on
one port leaves the other port's flag, and an entry left with none has count and subject 0; SET_ROUTING and
SET_NOTICE_MODE write the routing and the clear mode (R200, R201, R203, R204). -/
def Obligations.NoticeRequestsComplete : Prop :=
  ∀ (p : PortId) (s : State) (q : Port),
    let quiet := fun (port : PortId) (e : NoticeEntry) => match port with
      | .portA => { e with
          pendingA := false, subject := if e.pendingB then e.subject else 0, count := if e.pendingB then e.count else 0 }
      | .portB => { e with
          pendingB := false, subject := if e.pendingA then e.subject else 0, count := if e.pendingA then e.count else 0 }
    (s.takes p .readNotices q → ∃ (ns : List NoticeCopy) (t : State),
      exec (.readNotices p) s = .next (t.answer p q .readNotices .ok (.notices ns))
      ∧ t = { s with notices := t.notices }
      ∧ (∀ x, x ∈ ns ↔ ∃ k, (s.notice k).pendingFor p = true
          ∧ x = ⟨k, (s.notice k).subject, (s.notice k).count, standing s k (s.notice k).subject⟩)
      ∧ ns.Pairwise (fun x y => x.kind.code < y.kind.code)
      ∧ (s.clearMode = .checked → t = s)
      ∧ (s.clearMode = .readClears → ∀ k, (t.notice k).pendingFor p = false
          ∧ ((s.notice k).pendingFor p = true → t.notice k = quiet p (s.notice k))
          ∧ ((s.notice k).pendingFor p = false → t.notice k = s.notice k)))
    ∧ (∀ k : NoticeKind, s.takes p (.clearNotice k.code) q →
      ((s.notice k).pendingFor p = false →
        exec (.clearNotice p k.code) s = .next (s.answer p q (.clearNotice k.code) .ok .empty))
      ∧ ((s.notice k).pendingFor p = true → s.clearMode = .checked → standing s k (s.notice k).subject = true →
        exec (.clearNotice p k.code) s = .next (s.answer p q (.clearNotice k.code) .stillStanding .empty))
      ∧ ((s.notice k).pendingFor p = true → (s.clearMode = .readClears ∨ standing s k (s.notice k).subject = false) →
        ∃ t : State, exec (.clearNotice p k.code) s = .next (t.answer p q (.clearNotice k.code) .ok .empty)
          ∧ t = { s with notices := t.notices } ∧ (t.notice k).pendingFor p = false
          ∧ t.notice k = quiet p (s.notice k)
          ∧ (∀ j, j ≠ k → t.notice j = s.notice j)))
    ∧ (∀ (o : PortId) (a c : BitVec 16), s.hasRight p .maintain = true →
      s.takes p (.setRouting (if o = .portA then 0 else 1) a c) q → a.toNat < 8192 → c.toNat < 8192 → a &&& c = 0#16 →
      ∃ t : State, exec (.setRouting p (if o = .portA then 0 else 1) a c) s =
          .next (t.answer p q (.setRouting (if o = .portA then 0 else 1) a c) .ok .empty)
        ∧ t = { s with notices := t.notices }
        ∧ ∀ k : NoticeKind,
          (a.getLsbD k.code = true → t.notice k = match o with
            | .portA => { s.notice k with routeA := true }
            | .portB => { s.notice k with routeB := true })
          ∧ (c.getLsbD k.code = true → t.notice k = match o with
            | .portA => { quiet .portA (s.notice k) with routeA := false }
            | .portB => { quiet .portB (s.notice k) with routeB := false })
          ∧ (a.getLsbD k.code = false → c.getLsbD k.code = false → t.notice k = s.notice k))
    ∧ (∀ m : ClearMode, s.hasRight p .maintain = true → s.takes p (.setNoticeMode m.code) q →
      exec (.setNoticeMode p m.code) s = .next (({ s with clearMode := m } : State).answer p q (.setNoticeMode m.code) .ok
        .empty))
    ∧ ∀ subject : Nat,
      (standing s .noMode subject = true ↔ ∃ o, s.offtake subject = some o ∧ o.noMode = true)
      ∧ (standing s .cut subject = true ↔ ∃ o, s.offtake subject = some o ∧ o.supply = .cut)
      ∧ (standing s .lockout subject = true ↔ ∃ o, s.offtake subject = some o ∧ o.supply = .lockout)
      ∧ (standing s .reserve subject = true ↔ ∃ g : Grade, g.code = subject ∧ (s.grades.get g).inReserve = true)
      ∧ (standing s .meterStale subject = true ↔ ∃ ch, s.channels[subject]? = some ch ∧ ch.condition ≠ .normal)
      ∧ (standing s .meterFailed subject = true ↔ ∃ ch, s.channels[subject]? = some ch ∧ ch.condition = .failed)
      ∧ (standing s .meterReversed subject = true ↔ ∃ ch, s.channels[subject]? = some ch ∧ ch.reversed = true)
      ∧ (standing s .tariffMiss subject = true ↔ ∃ e a, s.accountAt e = some a ∧ a.number = subject ∧ a.flags.unpriced = true)
      ∧ (∀ k, k = .linkDown ∨ k = .curtailUp ∨ k = .curtailDown ∨ k = .tariffOverlap → standing s k subject = false)

/-- A raised notice sets the pending flag of each port it is routed to and asserts that port's line, writes the subject
and raises the count; with no routing, and in every other kind, nothing changes (R201, R202). -/
def Obligations.RaisedNoticesArePending : Prop :=
  ∀ (s : State) (k : NoticeKind) (subject : Nat),
    let t := s.raise k subject
    t = { s with notices := t.notices } ∧ (∀ j, j ≠ k → t.notice j = s.notice j)
    ∧ ((s.notice k).routeA = false → (s.notice k).routeB = false → t = s)
    ∧ ((s.notice k).routeA = true ∨ (s.notice k).routeB = true →
      (t.notice k).subject = subject ∧ (t.notice k).count = min 255 ((s.notice k).count + 1))
    ∧ ((s.notice k).routeA = true → (t.notice k).pendingA = true ∧ (s.inReset = false → alertLine t .portA = true))
    ∧ ((s.notice k).routeB = true → (t.notice k).pendingB = true ∧ (s.inReset = false → alertLine t .portB = true))
    ∧ ((s.notice k).routeA = false → (t.notice k).pendingA = (s.notice k).pendingA)
    ∧ ((s.notice k).routeB = false → (t.notice k).pendingB = (s.notice k).pendingB)

/-! ### The offtake link -/

/-- The end of the quiet hold puts the record in LISTEN; 3 s of silence sets ABSENT in LISTEN and loses the link, with
LINK_DOWN, in every other polled state (R31, R36, R38). That the command is the timer's expiry whatever the timer held,
that the expiry leaves the timer at its limit, and that an expiry of a timer that does not run changes nothing, are the
model's choice (log 3, log 7, log 22). -/
def Obligations.LinkTimersComplete : Prop :=
  ∀ (s : State) (i : Nat) (o : Offtake), s.inReset = false → s.offtake i = some o →
    (o.link = .quiet → exec (.quietHoldExpiry i) s =
      .next (s.putOfftake i (some { o with link := .listen, quietMs := 4000, silenceMs := 0, legacyRun := 0 })))
    ∧ (o.link ≠ .quiet → exec (.quietHoldExpiry i) s = .next s)
    ∧ (o.link = .listen → exec (.silenceExpiry i) s =
      .next (s.putOfftake i (some { o with silenceMs := 3000, absent := true })))
    ∧ (o.link = .confirm ∨ o.link = .bound ∨ o.link = .legacyBound →
      exec (.silenceExpiry i) s = .next ((s.enterQuiet i).raise .linkDown i))
    ∧ (o.link = .quiet → exec (.silenceExpiry i) s = .next s)

/-- A poll goes to the lowest pollable slot above the cursor, or to the lowest if none is, carries the offer in LISTEN and
CONFIRM and no offer when linked, and ends at its reply window; a reply from another address, for a slot freed since, of
another type or length or with a failing check is discarded (R24 to R27, R32, R211; that it ends the exchange is the
model's choice, log 15). -/
def Obligations.PollExchangeCompletes : Prop :=
  ∀ s : State, s.inReset = false →
    (∀ i o, s.exchange = none → s.setpointTurn = false → s.offtake i = some o → o.link ≠ .quiet →
      ((s.pollCursor < i ∧ ∀ j, s.pollCursor < j → j < i → s.pollable j = false)
        ∨ ((∀ j, s.pollCursor < j → s.pollable j = false) ∧ ∀ j, j < i → s.pollable j = false)) →
      ∃ b : Byte, exec .poll s = .next { s with
          pollCursor := i
          exchange := some (.poll i o.addr false)
          replyMs := 0
          ltx := linkBytes .poll (BitVec.ofNat 8 o.addr) [b] }
        ∧ (o.link = .listen → b = o.permitted.setWidth 8 ||| 0x80#8)
        ∧ (o.link = .confirm → b = o.permitted.setWidth 8 ||| 0xC0#8)
        ∧ (o.linked = true → b = 0#8))
    ∧ (∀ i a f, s.exchange = some (.poll i a f) →
      exec .pollTimeout s = .next s.afterPollExchange
      ∧ ∀ m : LinkMsg, f = true ∨ m.addr.toNat ≠ a ∨ s.offtake i = none →
        exec (.advert m) s = .next s.afterPollExchange ∧ exec (.status m) s = .next s.afterPollExchange
        ∧ exec (.legacy m) s = .next s.afterPollExchange)
    ∧ (∀ i a f m, s.exchange = some (.poll i a f) →
      (readAdvert m = none → exec (.advert m) s = .next s.afterPollExchange)
      ∧ (readStatus m = none → exec (.status m) s = .next s.afterPollExchange)
      ∧ (readLegacy m = none → exec (.legacy m) s = .next s.afterPollExchange))

/-- An ADVERT from the polled record. In LISTEN it is stored and resolved: success goes to CONFIRM, failure sets NOMODE
and raises its notice once. In CONFIRM the third match with ack binds and joins supply; a differing one, and one taken
when linked, goes back to LISTEN and is resolved there (R33, R34, R37, R40, R41). -/
def Obligations.AdvertsComplete : Prop :=
  ∀ (s : State) (m : LinkMsg) (i : Nat) (o : Offtake) (a : AdvertData),
    s.inReset = false → s.exchange = some (.poll i o.addr false) → m.addr.toNat = o.addr → s.offtake i = some o →
    readAdvert m = some a →
    let sa : AdvertData := { a with rating := min a.rating 1000000 }
    let u := s.afterPollExchange
    (∀ mode, o.link = .listen → resolveMode o sa = some mode →
      exec (.advert m) s = .next (u.putOfftake i (some { o with
        advert := some sa, legacyRun := 0, absent := false, silenceMs := 0, mode := some mode,
        split := (if mode = .blend then some ⟨0, 0, 0⟩ else none), noMode := false, link := .confirm,
        confirmCount := 0 })))
    ∧ (o.link = .listen → resolveMode o sa = none →
      ∃ t, exec (.advert m) s = .next t
        ∧ t = { u.putOfftake i (some { o with
              advert := some sa, legacyRun := 0, absent := false, silenceMs := 0, mode := none, split := none,
              noMode := true }) with notices := if o.noMode then s.notices else (s.raise .noMode i).notices })
    ∧ (∀ b, o.link = .confirm → o.advert = some b → b.modes = sa.modes → b.rating = sa.rating →
      let o' := { o with
        advert := some sa, silenceMs := 0, confirmCount := if a.ack then o.confirmCount + 1 else o.confirmCount }
      ((a.ack = false ∨ o.confirmCount < 2) →
        exec (.advert m) s = .next (u.putOfftake i (some o')))
      ∧ (a.ack = true → 2 ≤ o.confirmCount →
        exec (.advert m) s = .next ((u.putOfftake i (some { o' with link := .bound })).joinSupply i)))
    ∧ (∀ b, o.link = .confirm → o.advert = some b → (b.modes ≠ sa.modes ∨ b.rating ≠ sa.rating) →
      exec (.advert m) s = .next ((u.putOfftake i (some { o with
        link := .listen, mode := none, split := none, confirmCount := 0, legacyRun := 0,
        silenceMs := 0 })).listenAdvert i sa))
    ∧ (o.linked = true → o.retiring = true → exec (.advert m) s = .next (u.leaveLinked i))
    ∧ (o.linked = true → o.retiring = false →
      exec (.advert m) s = .next (((u.leaveLinked i).modOfftake i fun x => { x with
        link := .listen, mode := none, split := none, call := 0, trip := false, legacyRun := 0,
        silenceMs := 0 }).listenAdvert i sa))

/-- Joining supply (R41): a HELD record is ACTIVE if its class is admitted, else SHED at the end of the top context's
list; any other record keeps its state. -/
def Obligations.JoiningSupplyFollowsTheLevel : Prop :=
  ∀ (s : State) (i : Nat) (o : Offtake), s.offtake i = some o →
    (o.supply = .held → admits s.level o.prio = true →
      s.joinSupply i = (s.putOfftake i (some { o with supply := .active })))
    ∧ (∀ c below, o.supply = .held → s.stack = c :: below → admits s.level o.prio = false →
      s.joinSupply i = { s.putOfftake i (some { o with supply := .shed }) with
        stack := { c with shedList := c.shedList ++ [i] } :: below })
    ∧ (o.supply ≠ .held → s.joinSupply i = s)
    ∧ (s.stack = [] → admits s.level o.prio = true)

/-- A STATUS in BOUND and a LEGACY reply in LEGACY_BOUND set the call and TRIP and restart the silence timer; the third
LEGACY reply of a run in LISTEN binds a record whose fixed mode is permitted, and is its first reply (R35, R39). That a
STATUS or LEGACY of a kind not taken in the record's link state ends the exchange, with no other effect, is the model's
choice (log 15). -/
def Obligations.CallRepliesComplete : Prop :=
  ∀ (s : State) (m : LinkMsg) (i : Nat) (o : Offtake) (c : CallData),
    s.inReset = false → s.exchange = some (.poll i o.addr false) → m.addr.toNat = o.addr → s.offtake i = some o →
    let u := s.afterPollExchange
    (readStatus m = some c → o.link = .bound →
      exec (.status m) s =
        .next (u.putOfftake i (some { o with call := min c.call 1000000, trip := c.trip, silenceMs := 0 })))
    ∧ (readStatus m = some c → o.link ≠ .bound → exec (.status m) s = .next u)
    ∧ (readLegacy m = some c → o.link = .legacyBound →
      exec (.legacy m) s =
        .next (u.putOfftake i (some { o with call := min c.call 1000000, trip := c.trip, silenceMs := 0 })))
    ∧ (readLegacy m = some c → (o.link = .quiet ∨ o.link = .confirm ∨ o.link = .bound) → exec (.legacy m) s = .next u)
    ∧ (readLegacy m = some c → o.link = .listen → o.legacyRun < 2 →
      exec (.legacy m) s =
        .next (u.putOfftake i (some { o with absent := false, silenceMs := 0, legacyRun := o.legacyRun + 1 })))
    ∧ (readLegacy m = some c → o.link = .listen → 2 ≤ o.legacyRun → modeIn o.cls.fixedMode o.permitted = true →
      exec (.legacy m) s = .next ((u.putOfftake i (some { o with
        absent := false, silenceMs := 0, legacyRun := o.legacyRun + 1, mode := some o.cls.fixedMode, split := none,
        legacy := true, noMode := false, link := .legacyBound, call := min c.call 1000000, trip := c.trip })).joinSupply i))
    ∧ (readLegacy m = some c → o.link = .listen → 2 ≤ o.legacyRun → modeIn o.cls.fixedMode o.permitted = false →
      exec (.legacy m) s = .next { u.putOfftake i (some { o with
          absent := false, silenceMs := 0, legacyRun := 0, noMode := true }) with
        notices := if o.noMode then s.notices else (s.raise .noMode i).notices })

/-- A setpoint exchange sends the grant and mode of the head's record and marks its entry; the valid acknowledgement of
the value sent writes the acknowledged grant, removes the entry, and hands the record on or frees it; any other end is a
failed attempt, the third of which is link loss (R50 to R53; the free value for an absent mode is log 9's). -/
def Obligations.SetpointExchangeCompletes : Prop :=
  ∀ s : State, s.inReset = false →
    (∀ e rest o, s.exchange = none → s.afterPoll = true → s.setpointQueue = e :: rest → s.offtake e.slot = some o →
      ∃ t, exec .setpoint s = .next t
        ∧ t = { s with
            setpointQueue := { e with inFlight := true } :: rest
            exchange := some (.setpoint e.slot o.addr o.grant false)
            replyMs := 0
            ltx := t.ltx }
        ∧ ∀ m, o.mode = some m →
          t.ltx = linkBytes .setpoint (BitVec.ofNat 8 o.addr) (beBytes 4 o.grant ++ beBytes 1 m.bit))
    ∧ (∀ i addr v o, s.exchange = some (.setpoint i addr v false) → s.offtake i = some o →
      let u := s.afterSetpointExchange
      (∀ m : LinkMsg, m.addr.toNat = addr → readAck m = some v →
        (o.retiring = true → v = 0 → ∃ t, exec (.setpointAck m) s = .next t ∧ t.offtake i = none
          ∧ t.setpointQueue = s.setpointQueue.filter (·.slot ≠ i) ∧ t.exchange = none
          ∧ t.accounts = (s.unbindCount o.account).accounts ∧ (∀ j, j ≠ i → t.offtake j = s.offtake j))
        ∧ (o.retiring = false ∨ v ≠ 0 → exec (.setpointAck m) s =
          .next { u.putOfftake i (some { o with ackGrant := v }) with
            setpointQueue := if o.linked then
                queueAfterGrant i o.grant v (s.setpointQueue.filter (·.slot ≠ i))
              else s.setpointQueue.filter (·.slot ≠ i) }))
      ∧ (∀ m : LinkMsg, (m.addr.toNat ≠ addr ∨ readAck m ≠ some v) → exec (.setpointAck m) s = exec .failedAttempt s)
      ∧ (s.attempts i < 2 → exec .failedAttempt s = .next { u with
          setpointQueue := s.setpointQueue.map fun e =>
            if e.slot = i then { e with attempts := e.attempts + 1, inFlight := false } else e })
      ∧ (2 ≤ s.attempts i → exec .failedAttempt s = .next ((u.enterQuiet i).raise .linkDown i)))

/-- The queue after a grant is written to a linked record (R47, R48): no entry when nothing waits to be confirmed, a close
behind the last close, an ordinary entry at the tail; an entry already there stays, but an ordinary one whose grant
becomes 0 moves among the closes with its attempts and its mark. -/
def Obligations.GrantsEnterTheSetpointQueue : Prop :=
  ∀ (i grant ack : Nat) (q : List SetpointEntry),
    ((∀ e ∈ q, e.slot ≠ i) →
      (grant = ack → queueAfterGrant i grant ack q = q)
      ∧ (grant ≠ ack → grant ≠ 0 → queueAfterGrant i grant ack q = q ++ [⟨i, false, 0, false⟩])
      ∧ (∀ closes rest, grant ≠ ack → grant = 0 → q = closes ++ rest → (∀ e ∈ closes, e.close = true) →
        (∀ e ∈ rest, e.close = false) → queueAfterGrant i grant ack q = closes ++ ⟨i, true, 0, false⟩ :: rest))
    ∧ (∀ closes rest e after, q = closes ++ rest ++ e :: after → e.slot = i → (∀ x ∈ closes, x.close = true ∧ x.slot ≠ i) →
      (∀ x ∈ rest, x.close = false ∧ x.slot ≠ i) → (∀ x ∈ after, x.close = false ∧ x.slot ≠ i) → e.close = false →
      (grant ≠ 0 → queueAfterGrant i grant ack q = q)
      ∧ (grant = 0 → queueAfterGrant i grant ack q = closes ++ { e with close := true } :: rest ++ after))
    ∧ (∀ before e after, q = before ++ e :: after → e.slot = i → (∀ x ∈ before, x.slot ≠ i) → e.close = true →
      queueAfterGrant i grant ack q = q)

/-! ### Metering and supervision -/

/-- A METERING_TICK writes every record's delivered power and ESTIMATED flag from its bound channels, restarts the tick,
and judges each record by its supply state: the overdraw timer runs in ACTIVE and SHED, is frozen by a channel that is
not NORMAL, and cuts at the limit; a CUT record waits for its flow to stop, and its tenth idle second releases it: it is
charged, HELD or locked out, and enters QUIET, or is freed when it is retiring; each cut and each lockout is noted once,
in slot order (R55 to R59, R80, R171). Each account takes in
the delivered powers of the records that name it, and the export account the metered export, with its shortfall below
and its surplus above the tolerance band; an estimated figure sets ESTIMATED; nothing else of an account changes but the
bound count, which only an idle release of a retiring record lowers (R172, R174, R59). -/
def Obligations.MeteringTickCompletes : Prop :=
  ∀ s : State, s.inReset = false →
    ∃ t, exec .meteringTick s = .next t
      ∧ t = { s with
          slots := t.slots, accounts := t.accounts, notices := t.notices, setpointQueue := t.setpointQueue,
          exchange := t.exchange, pass := t.pass, stack := t.stack, readmission := t.readmission, tickMs := 0 }
      ∧ (let draws := fun o : Offtake =>
          decide (o.ackGrant * (1000 + s.plant.tolerance) / 1000 + s.plant.deadband < s.deliveredPower o)
        let cuts := slotNumbers.filter fun i => (s.offtake i).any fun o =>
          (decide (o.supply = .active) || decide (o.supply = .shed)) && s.bindingsNormal o && draws o
            && decide (s.plant.overdrawLimit ≤ o.overdrawTimer + 1)
        let locks := slotNumbers.filter fun i => (s.offtake i).any fun o =>
          decide (o.supply = .cut) && !o.retiring && decide (10 ≤ o.idleTimer + 1)
            && decide (s.plant.lockoutLimit ≤ o.overdrawCount + 1)
            && (s.channels[o.bind1]?).any fun ch => decide (ch.condition = .normal) && ch.flowIdle
        t.notice .cut = cuts.foldl (fun e i => e.raise i) (s.notice .cut)
        ∧ t.notice .lockout = locks.foldl (fun e i => e.raise i) (s.notice .lockout))
      ∧ (∀ k, k ≠ .cut → k ≠ .lockout → k ≠ .tariffMiss → k ≠ .tariffOverlap → t.notice k = s.notice k)
      ∧ ∀ i, (s.offtake i = none → t.offtake i = none)
        ∧ ∀ o, s.offtake i = some o →
          let m : Offtake := { o with delivered := s.deliveredPower o, estimated := !s.bindingsNormal o }
          let draws := o.ackGrant * (1000 + s.plant.tolerance) / 1000 + s.plant.deadband < s.deliveredPower o
          (o.supply = .held ∨ o.supply = .lockout →
            t.offtake i = some { m with overdrawTimer := 0, idleTimer := 0 })
          ∧ (o.supply = .active ∨ o.supply = .shed →
            (s.bindingsNormal o = false → t.offtake i = some { m with idleTimer := 0 })
            ∧ (s.bindingsNormal o = true → ¬ draws → t.offtake i = some { m with overdrawTimer := 0, idleTimer := 0 })
            ∧ (s.bindingsNormal o = true → draws → o.overdrawTimer + 1 < s.plant.overdrawLimit →
              t.offtake i = some { m with overdrawTimer := o.overdrawTimer + 1, idleTimer := 0 })
            ∧ (s.bindingsNormal o = true → draws → s.plant.overdrawLimit ≤ o.overdrawTimer + 1 →
              t.offtake i = some { m with
                supply := .cut, grant := 0, split := o.split.map fun _ => ⟨0, 0, 0⟩, overdrawTimer := 0,
                idleTimer := 0 }))
          ∧ (∀ ch, o.supply = .cut → s.channels[o.bind1]? = some ch →
            (ch.condition ≠ .normal → t.offtake i = some { m with overdrawTimer := 0 })
            ∧ (ch.condition = .normal → ch.flowIdle = false →
              t.offtake i = some { m with overdrawTimer := 0, idleTimer := 0 })
            ∧ (ch.condition = .normal → ch.flowIdle = true → o.idleTimer + 1 < 10 →
              t.offtake i = some { m with overdrawTimer := 0, idleTimer := o.idleTimer + 1 })
            ∧ (ch.condition = .normal → ch.flowIdle = true → 10 ≤ o.idleTimer + 1 →
              (o.retiring = true → t.offtake i = none)
              ∧ (o.retiring = false → t.offtake i = some { m with
                overdrawTimer := 0, idleTimer := 0, overdrawCount := o.overdrawCount + 1
                supply := if s.plant.lockoutLimit ≤ o.overdrawCount + 1 then .lockout else .held
                ackGrant := if o.linked = true then 0 else o.ackGrant
                link := .quiet, quietMs := 0, mode := none, advert := none, split := none, call := 0, trip := false
                noMode := false, absent := false, legacy := false, confirmCount := 0, legacyRun := 0 })))
      ∧ (s.numbersDistinct → ∀ e a, s.accountAt e = some a → ∃ a', t.accountAt e = some a'
        ∧ a'.boundCount ≤ a.boundCount
        ∧ ((∀ o ∈ s.namedBy a.number, o.retiring = false) → a'.boundCount = a.boundCount)
        ∧ let fed (estimated : Bool) (amount : Nat) : Option Account :=
            ((s.withAccount e (some { a with
              flags := { a.flags with estimated := a.flags.estimated || estimated } })).carry a.number amount).accountAt e
          (s.plant.exportAccount ≠ some a.number →
            (s.namedBy a.number = [] → a' = { a with boundCount := a'.boundCount })
            ∧ (s.namedBy a.number ≠ [] → some { a' with boundCount := a.boundCount } =
              fed ((s.namedBy a.number).any fun o => !s.bindingsNormal o) ((s.namedBy a.number).map s.deliveredPower).sum))
          ∧ (s.plant.exportAccount = some a.number →
            (s.plant.exportChannel = none → a' = { a with boundCount := a'.boundCount })
            ∧ ∀ c, s.plant.exportChannel = some c →
              let x := (s.effValue c).toNat
              let below := s.plant.commitment - s.plant.exportTolerance - x
              let above := x - s.plant.commitment - s.plant.exportTolerance
              ∃ b, fed (decide (s.condition c ≠ .normal)) x = some b
                ∧ a' = { b with
                    boundCount := a'.boundCount, shortfall := a'.shortfall, surplus := a'.surplus,
                    shortfallResidue := a'.shortfallResidue, surplusResidue := a'.surplusResidue,
                    flags := { b.flags with saturated := a'.flags.saturated } }
                ∧ ∀ k r l u, a.shortfall = some k → a.shortfallResidue = some r → a.surplus = some l →
                  a.surplusResidue = some u →
                  (below = 0 → a'.shortfall = some k ∧ a'.shortfallResidue = some r)
                  ∧ (0 < below → a'.shortfall = some (min Config.maxEnergy (k + (r + below) / 3600))
                    ∧ a'.shortfallResidue = some ((r + below) % 3600))
                  ∧ (above = 0 → a'.surplus = some l ∧ a'.surplusResidue = some u)
                  ∧ (0 < above → a'.surplus = some (min Config.maxEnergy (l + (u + above) / 3600))
                    ∧ a'.surplusResidue = some ((u + above) % 3600))
                  ∧ (a'.flags.saturated = true ↔ b.flags.saturated = true
                    ∨ (0 < below ∧ Config.maxEnergy < k + (r + below) / 3600)
                    ∨ (0 < above ∧ Config.maxEnergy < l + (u + above) / 3600))))

/-- A cut takes a supervised record to CUT with grant 0 and timers 0, out of every shed list, its entry in a pass in
flight void, and raises CUT; an idle release of a CUT record charges its count, locks it out at the limit with LOCKOUT,
and sends its link to QUIET, or frees a retiring one (R57, R59; that a CUT or IDLE_RELEASE command stands for the timer's
expiry is the model's reading, log 3). -/
def Obligations.CutAndIdleReleaseComplete : Prop :=
  ∀ (s : State) (i : Nat) (o : Offtake), s.inReset = false → s.offtake i = some o →
    (o.supply = .active ∨ o.supply = .shed →
      ∃ t, exec (.cut i) s = .next t
        ∧ t.offtake i = some { o with
            supply := .cut, grant := 0, split := o.split.map fun _ => ⟨0, 0, 0⟩, overdrawTimer := 0, idleTimer := 0 }
        ∧ (∀ j, j ≠ i → t.offtake j = s.offtake j) ∧ t.listed = s.listed.filter (· ≠ i)
        ∧ (∀ ps, t.pass = some ps → ∀ e ∈ ps.table, e.slot = i → e.void = true)
        ∧ t.setpointQueue = (if o.linked then queueAfterGrant i 0 o.ackGrant s.setpointQueue else s.setpointQueue)
        ∧ t.notices = (s.raise .cut i).notices
        ∧ t = { s with
            slots := t.slots, setpointQueue := t.setpointQueue, pass := t.pass, stack := t.stack,
            readmission := t.readmission, notices := t.notices })
    ∧ (o.supply = .cut → o.retiring = true → exec (.idleRelease i) s = .next (s.free i))
    ∧ (o.supply = .cut → o.retiring = false → o.overdrawCount + 1 < s.plant.lockoutLimit →
      exec (.idleRelease i) s = .next ((s.putOfftake i (some { o with
        idleTimer := 0, overdrawCount := o.overdrawCount + 1, supply := .held })).enterQuiet i))
    ∧ (o.supply = .cut → o.retiring = false → s.plant.lockoutLimit ≤ o.overdrawCount + 1 →
      exec (.idleRelease i) s = .next ((((s.putOfftake i (some { o with
        idleTimer := 0, overdrawCount := o.overdrawCount + 1, supply := .lockout })).raise .lockout
          i)).enterQuiet i))

/-- RESTART frees every retiring record, returns every other one to QUIET and out of supply, keeps CUT and LOCKOUT, the
configuration and the counts; empties the queues, the stack and the pass; clears the notices; and keeps the accounts but
for the freed records' bound counts, the tables, the tick's timing and the other port (R23, R45, R63, R82, R100, R122,
R138, R158, R179, R199, R206). That an exchange in flight and its reply window are over at once, and that the first
exchange after it is a poll, are the model's choice (log 23, log 18). -/
def Obligations.RestartCompletes : Prop :=
  ∀ (p : PortId) (s : State) (q : Port), s.takes p .restart q → s.hasRight p .maintain = true →
    ∃ t : State, exec (.restart p) s = .next (t.answer p q .restart .ok .empty)
      ∧ t = { s with
          slots := t.slots, pollCursor := 0, exchange := none, replyMs := 0, afterPoll := false, setpointQueue := [],
          channels := s.channels.map fun c => { c with ageMs := 0, staleMs := 0 },
          grades := t.grades, passMs := 0, passLength := s.plant.interval, pass := none, passSeq := 0,
          balance := Balance.reset, stack := [], readmission := [], recoveryTimer := 0, accounts := t.accounts,
          notices := s.notices.map fun e => { e with pendingA := false, pendingB := false, subject := 0, count := 0 } }
      ∧ (∀ g, t.grades.get g = { s.grades.get g with inReserve := false, last := ⟨0, 0, 0, 0, 0⟩ })
      ∧ ((∀ i o, s.offtake i = some o → o.retiring = false) → t.accounts = s.accounts)
      ∧ (s.numbersDistinct → ∀ e, t.accountAt e = (s.accountAt e).map fun a => { a with
          boundCount := a.boundCount - ((s.namedBy a.number).filter (·.retiring)).length })
      ∧ ∀ i, (s.offtake i = none → t.offtake i = none)
        ∧ ∀ o, s.offtake i = some o →
          (o.retiring = true → t.offtake i = none)
          ∧ (o.retiring = false → t.offtake i = some { o with
              link := .quiet, quietMs := 0, silenceMs := 0, confirmCount := 0, legacyRun := 0, mode := none,
              advert := none, split := none, call := 0, grant := 0, ackGrant := 0, overdrawTimer := 0, noMode := false,
              absent := false, legacy := false, trip := false
              idleTimer := if o.supply = .cut then 0 else o.idleTimer
              supply := if o.supply = .active ∨ o.supply = .shed then .held else o.supply })

/-! ### The laws that every step keeps -/

/-- R2: no two non-vacant records come to share a tag or a link address; a CREATE_OFFTAKE that would make them share one,
and an AMEND_OFFTAKE that would give its record another's address, are refused. -/
def Obligations.RecordsStayDistinct : Prop :=
  (∀ s t : State, s.recordsDistinct → step s = .next t → t.recordsDistinct)
  ∧ (∀ (p : PortId) (b : CreateBody) (s : State) (q : Port) (c : OffClass) (j : Nat) (o : Offtake),
    s.takes p (.createOfftake b) q → s.hasRight p .maintain = true → OffClass.ofCode b.fig.cls = some c →
    createValuesOk b c = true → s.bindingsOk c b.fig.bind1 b.fig.bind2 (c.third b.fig.bind3) = true →
    s.offtake j = some o →
    (o.tag = b.tag →
      exec (.createOfftake p b) s = .next (s.answer p q (.createOfftake b) .duplicateTag .empty))
    ∧ ((∀ i x, s.offtake i = some x → x.tag ≠ b.tag) → o.addr = b.fig.addr →
      exec (.createOfftake p b) s = .next (s.answer p q (.createOfftake b) .duplicateAddress .empty)))
  ∧ ∀ (p : PortId) (b : AmendBody) (s : State) (q : Port) (o : Offtake) (j : Nat) (x : Offtake),
    s.takes p (.amendOfftake b) q → s.offtake b.slot = some o → o.tag = b.tag → o.retiring = false →
    amendRightsOk b s p o.cls = true → amendValuesOk b o (amended b o) = true →
    amendBindingsOk b s o (amended b o) = true → b.mask.getLsbD 1 = true → j ≠ b.slot → s.offtake j = some x →
    x.addr = b.fig.addr →
    exec (.amendOfftake p b) s = .next (s.answer p q (.amendOfftake b) .duplicateAddress .empty)

/-- R42, R46, R140: links and supply states, the setpoint queue and the shed lists keep their laws together. -/
def Obligations.ServiceStaysConsistent : Prop :=
  ∀ s t : State, s.serviceOk → step s = .next t → t.serviceOk

/-- R47, R54: a linked record whose grant its partner has not confirmed keeps its slot in the setpoint queue. -/
def Obligations.UnconfirmedGrantsStayQueued : Prop :=
  ∀ s t : State, s.serviceOk → s.deliveryOk → step s = .next t → t.deliveryOk

/-- R109, R118: a pass in flight keeps, for each entry that is not void, a record that has stayed ACTIVE. -/
def Obligations.PassEntriesStayActive : Prop :=
  ∀ s t : State, s.serviceOk → s.tableOk → step s = .next t → t.tableOk

/-- R139: the levels of the curtailment stack strictly increase from bottom to top, each from 1 to 4. -/
def Obligations.StackStaysOrdered : Prop := ∀ s t : State, s.stackOk → step s = .next t → t.stackOk

/-- R92: each grade's reserve total stays the sum of its valid windows' reserves, and within its reserve limit; the
SET_WINDOW or SET_GRADE that would break the limit is refused with RESERVE_LIMIT. -/
def Obligations.ReservesStayWithinLimits : Prop :=
  (∀ s t : State, s.reservesOk → step s = .next t → t.reservesOk)
  ∧ ∀ (p : PortId) (s : State) (q : Port) (g : Grade), s.hasRight p .maintain = true →
    (∀ (b : WindowBody) (w : Window), s.takes p (.setWindow b) q → s.windows[b.window]? = some w → b.grade = g.code →
      3 * ((s.grades.get g).high - (s.grades.get g).low) / 4 <
        (s.grades.get g).reserveTotal - (if w.valid = true ∧ w.grade = g then w.reserve else 0)
          + min b.reserve.toNat 2147483647 →
      exec (.setWindow p b) s = .next (s.answer p q (.setWindow b) .reserveLimit .empty))
    ∧ (∀ b : GradeBody, s.takes p (.setGrade b) q → b.grade = g.code → gradeValuesOk b = true →
      gradeChannelsOk s b = true → 3 * (highOf b - lowOf b) / 4 < (s.grades.get g).reserveTotal →
      exec (.setGrade p b) s = .next (s.answer p q (.setGrade b) .reserveLimit .empty))

/-- R159, R167, R172: account numbers stay distinct, bound counts stay what names the account, residues below 3,600. -/
def Obligations.LedgerStaysBalanced : Prop := ∀ s t : State, s.ledgerOk → step s = .next t → t.ledgerOk

/-- R132, R116: the balance figures keep their order, and each grade's granted and unallocated power sum to its available
power. The figures of a pass follow from its view and the grants of its stages by the formulas of R125 to R131. -/
def Obligations.PassResultsStayConsistent : Prop :=
  (∀ s t : State, s.resultsOk → step s = .next t → t.resultsOk)
  ∧ ∀ v : View,
    let b := v.result.balance
    b.steam = ((v.records.filter fun r => v.candidate r && r.cls = .boiler).map fun r =>
        grantIn v.gasStages.shares r.slot * r.eff / 1000).sum
    ∧ (v.loop = none → b.recovered = 0)
    ∧ (∀ l, v.loop = some l → b.recovered =
        min 2147483647 (l.flow.toNat * v.cp * (l.supply - l.return_).toNat / 360000))
    ∧ b.extractionMax = b.steam * v.extractionCeiling / 1000
    ∧ (v.policy = .heatFirst → b.extractionCap = b.extractionMax)
    ∧ (v.policy = .exportFirst → b.extractionCap = min b.extractionMax
        (b.steam - ((v.commitment + v.houseLoad) * 1000 + (v.turbineEff - 1)) / v.turbineEff))
    ∧ b.heatPool = min 2147483647 (b.recovered + b.extractionCap)
    ∧ b.heatGranted = ((v.heatStages b.heatPool).shares.map (·.grant)).sum
    ∧ b.extraction = min (b.heatGranted - b.recovered) b.extractionCap
    ∧ b.turbine = (b.steam - b.extraction) * v.turbineEff / 1000
    ∧ b.exportCeiling = b.turbine - v.houseLoad
    ∧ b.houseLoad = v.houseLoad ∧ b.commitment = v.commitment ∧ b.policy = v.policy ∧ b.level = v.level

/-- R101, R60, R7, R28, R66, R71, R72, R74, R77: the plant record, the counts, the timers and the channels keep their
ranges, while the lists name the SHED records and no other (R140, which ServiceStaysConsistent keeps). -/
def Obligations.FiguresStayInRange : Prop :=
  ∀ s t : State, s.listsOk → s.limitsOk → s.channelsOk → step s = .next t → t.limitsOk ∧ t.channelsOk

/-- R201: an entry pending for no port keeps count and subject 0, and an entry is pending only where it is routed. -/
def Obligations.NoticesStaySettled : Prop := ∀ s t : State, s.noticesOk → step s = .next t → t.noticesOk
end

