-- ==== Sys2Proof/Laws/State.lean ====
section
/-! SUPPORT. What each named update of the state leaves as it is: one lemma for each field and update. -/

namespace Sys2Proof.Machine

open Sys2Proof

@[simp] theorem State.setPort_inReset (s : State) (p : PortId) (q : Port) : (s.setPort p q).inReset = s.inReset := by cases p <;> rfl
@[simp] theorem State.setPort_maintEn (s : State) (p : PortId) (q : Port) : (s.setPort p q).maintEn = s.maintEn := by cases p <;> rfl
@[simp] theorem State.setPort_slots (s : State) (p : PortId) (q : Port) : (s.setPort p q).slots = s.slots := by cases p <;> rfl
@[simp] theorem State.setPort_pollCursor (s : State) (p : PortId) (q : Port) : (s.setPort p q).pollCursor = s.pollCursor := by cases p <;> rfl
@[simp] theorem State.setPort_exchange (s : State) (p : PortId) (q : Port) : (s.setPort p q).exchange = s.exchange := by cases p <;> rfl
@[simp] theorem State.setPort_replyMs (s : State) (p : PortId) (q : Port) : (s.setPort p q).replyMs = s.replyMs := by cases p <;> rfl
@[simp] theorem State.setPort_afterPoll (s : State) (p : PortId) (q : Port) : (s.setPort p q).afterPoll = s.afterPoll := by cases p <;> rfl
@[simp] theorem State.setPort_setpointQueue (s : State) (p : PortId) (q : Port) : (s.setPort p q).setpointQueue = s.setpointQueue := by cases p <;> rfl
@[simp] theorem State.setPort_ltx (s : State) (p : PortId) (q : Port) : (s.setPort p q).ltx = s.ltx := by cases p <;> rfl
@[simp] theorem State.setPort_channels (s : State) (p : PortId) (q : Port) : (s.setPort p q).channels = s.channels := by cases p <;> rfl
@[simp] theorem State.setPort_grades (s : State) (p : PortId) (q : Port) : (s.setPort p q).grades = s.grades := by cases p <;> rfl
@[simp] theorem State.setPort_windows (s : State) (p : PortId) (q : Port) : (s.setPort p q).windows = s.windows := by cases p <;> rfl
@[simp] theorem State.setPort_plant (s : State) (p : PortId) (q : Port) : (s.setPort p q).plant = s.plant := by cases p <;> rfl
@[simp] theorem State.setPort_passMs (s : State) (p : PortId) (q : Port) : (s.setPort p q).passMs = s.passMs := by cases p <;> rfl
@[simp] theorem State.setPort_passLength (s : State) (p : PortId) (q : Port) : (s.setPort p q).passLength = s.passLength := by cases p <;> rfl
@[simp] theorem State.setPort_pass (s : State) (p : PortId) (q : Port) : (s.setPort p q).pass = s.pass := by cases p <;> rfl
@[simp] theorem State.setPort_passSeq (s : State) (p : PortId) (q : Port) : (s.setPort p q).passSeq = s.passSeq := by cases p <;> rfl
@[simp] theorem State.setPort_balance (s : State) (p : PortId) (q : Port) : (s.setPort p q).balance = s.balance := by cases p <;> rfl
@[simp] theorem State.setPort_stack (s : State) (p : PortId) (q : Port) : (s.setPort p q).stack = s.stack := by cases p <;> rfl
@[simp] theorem State.setPort_readmission (s : State) (p : PortId) (q : Port) : (s.setPort p q).readmission = s.readmission := by cases p <;> rfl
@[simp] theorem State.setPort_recoveryTimer (s : State) (p : PortId) (q : Port) : (s.setPort p q).recoveryTimer = s.recoveryTimer := by cases p <;> rfl
@[simp] theorem State.setPort_accounts (s : State) (p : PortId) (q : Port) : (s.setPort p q).accounts = s.accounts := by cases p <;> rfl
@[simp] theorem State.setPort_band (s : State) (p : PortId) (q : Port) : (s.setPort p q).band = s.band := by cases p <;> rfl
@[simp] theorem State.setPort_pairs (s : State) (p : PortId) (q : Port) : (s.setPort p q).pairs = s.pairs := by cases p <;> rfl
@[simp] theorem State.setPort_season (s : State) (p : PortId) (q : Port) : (s.setPort p q).season = s.season := by cases p <;> rfl
@[simp] theorem State.setPort_notices (s : State) (p : PortId) (q : Port) : (s.setPort p q).notices = s.notices := by cases p <;> rfl
@[simp] theorem State.setPort_clearMode (s : State) (p : PortId) (q : Port) : (s.setPort p q).clearMode = s.clearMode := by cases p <;> rfl
@[simp] theorem State.setPort_tickMs (s : State) (p : PortId) (q : Port) : (s.setPort p q).tickMs = s.tickMs := by cases p <;> rfl
@[simp] theorem State.setPort_pending (s : State) (p : PortId) (q : Port) : (s.setPort p q).pending = s.pending := by cases p <;> rfl

@[simp] theorem State.putOfftake_inReset (s : State) (i : Nat) (o : Option Offtake) : (s.putOfftake i o).inReset = s.inReset := rfl
@[simp] theorem State.putOfftake_maintEn (s : State) (i : Nat) (o : Option Offtake) : (s.putOfftake i o).maintEn = s.maintEn := rfl
@[simp] theorem State.putOfftake_portA (s : State) (i : Nat) (o : Option Offtake) : (s.putOfftake i o).portA = s.portA := rfl
@[simp] theorem State.putOfftake_portB (s : State) (i : Nat) (o : Option Offtake) : (s.putOfftake i o).portB = s.portB := rfl
@[simp] theorem State.putOfftake_pollCursor (s : State) (i : Nat) (o : Option Offtake) : (s.putOfftake i o).pollCursor = s.pollCursor := rfl
@[simp] theorem State.putOfftake_exchange (s : State) (i : Nat) (o : Option Offtake) : (s.putOfftake i o).exchange = s.exchange := rfl
@[simp] theorem State.putOfftake_replyMs (s : State) (i : Nat) (o : Option Offtake) : (s.putOfftake i o).replyMs = s.replyMs := rfl
@[simp] theorem State.putOfftake_afterPoll (s : State) (i : Nat) (o : Option Offtake) : (s.putOfftake i o).afterPoll = s.afterPoll := rfl
@[simp] theorem State.putOfftake_setpointQueue (s : State) (i : Nat) (o : Option Offtake) : (s.putOfftake i o).setpointQueue = s.setpointQueue := rfl
@[simp] theorem State.putOfftake_ltx (s : State) (i : Nat) (o : Option Offtake) : (s.putOfftake i o).ltx = s.ltx := rfl
@[simp] theorem State.putOfftake_channels (s : State) (i : Nat) (o : Option Offtake) : (s.putOfftake i o).channels = s.channels := rfl
@[simp] theorem State.putOfftake_grades (s : State) (i : Nat) (o : Option Offtake) : (s.putOfftake i o).grades = s.grades := rfl
@[simp] theorem State.putOfftake_windows (s : State) (i : Nat) (o : Option Offtake) : (s.putOfftake i o).windows = s.windows := rfl
@[simp] theorem State.putOfftake_plant (s : State) (i : Nat) (o : Option Offtake) : (s.putOfftake i o).plant = s.plant := rfl
@[simp] theorem State.putOfftake_passMs (s : State) (i : Nat) (o : Option Offtake) : (s.putOfftake i o).passMs = s.passMs := rfl
@[simp] theorem State.putOfftake_passLength (s : State) (i : Nat) (o : Option Offtake) : (s.putOfftake i o).passLength = s.passLength := rfl
@[simp] theorem State.putOfftake_pass (s : State) (i : Nat) (o : Option Offtake) : (s.putOfftake i o).pass = s.pass := rfl
@[simp] theorem State.putOfftake_passSeq (s : State) (i : Nat) (o : Option Offtake) : (s.putOfftake i o).passSeq = s.passSeq := rfl
@[simp] theorem State.putOfftake_balance (s : State) (i : Nat) (o : Option Offtake) : (s.putOfftake i o).balance = s.balance := rfl
@[simp] theorem State.putOfftake_stack (s : State) (i : Nat) (o : Option Offtake) : (s.putOfftake i o).stack = s.stack := rfl
@[simp] theorem State.putOfftake_readmission (s : State) (i : Nat) (o : Option Offtake) : (s.putOfftake i o).readmission = s.readmission := rfl
@[simp] theorem State.putOfftake_recoveryTimer (s : State) (i : Nat) (o : Option Offtake) : (s.putOfftake i o).recoveryTimer = s.recoveryTimer := rfl
@[simp] theorem State.putOfftake_accounts (s : State) (i : Nat) (o : Option Offtake) : (s.putOfftake i o).accounts = s.accounts := rfl
@[simp] theorem State.putOfftake_band (s : State) (i : Nat) (o : Option Offtake) : (s.putOfftake i o).band = s.band := rfl
@[simp] theorem State.putOfftake_pairs (s : State) (i : Nat) (o : Option Offtake) : (s.putOfftake i o).pairs = s.pairs := rfl
@[simp] theorem State.putOfftake_season (s : State) (i : Nat) (o : Option Offtake) : (s.putOfftake i o).season = s.season := rfl
@[simp] theorem State.putOfftake_notices (s : State) (i : Nat) (o : Option Offtake) : (s.putOfftake i o).notices = s.notices := rfl
@[simp] theorem State.putOfftake_clearMode (s : State) (i : Nat) (o : Option Offtake) : (s.putOfftake i o).clearMode = s.clearMode := rfl
@[simp] theorem State.putOfftake_tickMs (s : State) (i : Nat) (o : Option Offtake) : (s.putOfftake i o).tickMs = s.tickMs := rfl
@[simp] theorem State.putOfftake_pending (s : State) (i : Nat) (o : Option Offtake) : (s.putOfftake i o).pending = s.pending := rfl

@[simp] theorem State.modOfftake_inReset (s : State) (i : Nat) (f : Offtake → Offtake) : (s.modOfftake i f).inReset = s.inReset := by unfold State.modOfftake; split <;> rfl
@[simp] theorem State.modOfftake_maintEn (s : State) (i : Nat) (f : Offtake → Offtake) : (s.modOfftake i f).maintEn = s.maintEn := by unfold State.modOfftake; split <;> rfl
@[simp] theorem State.modOfftake_portA (s : State) (i : Nat) (f : Offtake → Offtake) : (s.modOfftake i f).portA = s.portA := by unfold State.modOfftake; split <;> rfl
@[simp] theorem State.modOfftake_portB (s : State) (i : Nat) (f : Offtake → Offtake) : (s.modOfftake i f).portB = s.portB := by unfold State.modOfftake; split <;> rfl
@[simp] theorem State.modOfftake_pollCursor (s : State) (i : Nat) (f : Offtake → Offtake) : (s.modOfftake i f).pollCursor = s.pollCursor := by unfold State.modOfftake; split <;> rfl
@[simp] theorem State.modOfftake_exchange (s : State) (i : Nat) (f : Offtake → Offtake) : (s.modOfftake i f).exchange = s.exchange := by unfold State.modOfftake; split <;> rfl
@[simp] theorem State.modOfftake_replyMs (s : State) (i : Nat) (f : Offtake → Offtake) : (s.modOfftake i f).replyMs = s.replyMs := by unfold State.modOfftake; split <;> rfl
@[simp] theorem State.modOfftake_afterPoll (s : State) (i : Nat) (f : Offtake → Offtake) : (s.modOfftake i f).afterPoll = s.afterPoll := by unfold State.modOfftake; split <;> rfl
@[simp] theorem State.modOfftake_setpointQueue (s : State) (i : Nat) (f : Offtake → Offtake) : (s.modOfftake i f).setpointQueue = s.setpointQueue := by unfold State.modOfftake; split <;> rfl
@[simp] theorem State.modOfftake_ltx (s : State) (i : Nat) (f : Offtake → Offtake) : (s.modOfftake i f).ltx = s.ltx := by unfold State.modOfftake; split <;> rfl
@[simp] theorem State.modOfftake_channels (s : State) (i : Nat) (f : Offtake → Offtake) : (s.modOfftake i f).channels = s.channels := by unfold State.modOfftake; split <;> rfl
@[simp] theorem State.modOfftake_grades (s : State) (i : Nat) (f : Offtake → Offtake) : (s.modOfftake i f).grades = s.grades := by unfold State.modOfftake; split <;> rfl
@[simp] theorem State.modOfftake_windows (s : State) (i : Nat) (f : Offtake → Offtake) : (s.modOfftake i f).windows = s.windows := by unfold State.modOfftake; split <;> rfl
@[simp] theorem State.modOfftake_plant (s : State) (i : Nat) (f : Offtake → Offtake) : (s.modOfftake i f).plant = s.plant := by unfold State.modOfftake; split <;> rfl
@[simp] theorem State.modOfftake_passMs (s : State) (i : Nat) (f : Offtake → Offtake) : (s.modOfftake i f).passMs = s.passMs := by unfold State.modOfftake; split <;> rfl
@[simp] theorem State.modOfftake_passLength (s : State) (i : Nat) (f : Offtake → Offtake) : (s.modOfftake i f).passLength = s.passLength := by unfold State.modOfftake; split <;> rfl
@[simp] theorem State.modOfftake_pass (s : State) (i : Nat) (f : Offtake → Offtake) : (s.modOfftake i f).pass = s.pass := by unfold State.modOfftake; split <;> rfl
@[simp] theorem State.modOfftake_passSeq (s : State) (i : Nat) (f : Offtake → Offtake) : (s.modOfftake i f).passSeq = s.passSeq := by unfold State.modOfftake; split <;> rfl
@[simp] theorem State.modOfftake_balance (s : State) (i : Nat) (f : Offtake → Offtake) : (s.modOfftake i f).balance = s.balance := by unfold State.modOfftake; split <;> rfl
@[simp] theorem State.modOfftake_stack (s : State) (i : Nat) (f : Offtake → Offtake) : (s.modOfftake i f).stack = s.stack := by unfold State.modOfftake; split <;> rfl
@[simp] theorem State.modOfftake_readmission (s : State) (i : Nat) (f : Offtake → Offtake) : (s.modOfftake i f).readmission = s.readmission := by unfold State.modOfftake; split <;> rfl
@[simp] theorem State.modOfftake_recoveryTimer (s : State) (i : Nat) (f : Offtake → Offtake) : (s.modOfftake i f).recoveryTimer = s.recoveryTimer := by unfold State.modOfftake; split <;> rfl
@[simp] theorem State.modOfftake_accounts (s : State) (i : Nat) (f : Offtake → Offtake) : (s.modOfftake i f).accounts = s.accounts := by unfold State.modOfftake; split <;> rfl
@[simp] theorem State.modOfftake_band (s : State) (i : Nat) (f : Offtake → Offtake) : (s.modOfftake i f).band = s.band := by unfold State.modOfftake; split <;> rfl
@[simp] theorem State.modOfftake_pairs (s : State) (i : Nat) (f : Offtake → Offtake) : (s.modOfftake i f).pairs = s.pairs := by unfold State.modOfftake; split <;> rfl
@[simp] theorem State.modOfftake_season (s : State) (i : Nat) (f : Offtake → Offtake) : (s.modOfftake i f).season = s.season := by unfold State.modOfftake; split <;> rfl
@[simp] theorem State.modOfftake_notices (s : State) (i : Nat) (f : Offtake → Offtake) : (s.modOfftake i f).notices = s.notices := by unfold State.modOfftake; split <;> rfl
@[simp] theorem State.modOfftake_clearMode (s : State) (i : Nat) (f : Offtake → Offtake) : (s.modOfftake i f).clearMode = s.clearMode := by unfold State.modOfftake; split <;> rfl
@[simp] theorem State.modOfftake_tickMs (s : State) (i : Nat) (f : Offtake → Offtake) : (s.modOfftake i f).tickMs = s.tickMs := by unfold State.modOfftake; split <;> rfl
@[simp] theorem State.modOfftake_pending (s : State) (i : Nat) (f : Offtake → Offtake) : (s.modOfftake i f).pending = s.pending := by unfold State.modOfftake; split <;> rfl

@[simp] theorem State.modChannel_inReset (s : State) (c : Nat) (f : Channel → Channel) : (s.modChannel c f).inReset = s.inReset := rfl
@[simp] theorem State.modChannel_maintEn (s : State) (c : Nat) (f : Channel → Channel) : (s.modChannel c f).maintEn = s.maintEn := rfl
@[simp] theorem State.modChannel_portA (s : State) (c : Nat) (f : Channel → Channel) : (s.modChannel c f).portA = s.portA := rfl
@[simp] theorem State.modChannel_portB (s : State) (c : Nat) (f : Channel → Channel) : (s.modChannel c f).portB = s.portB := rfl
@[simp] theorem State.modChannel_slots (s : State) (c : Nat) (f : Channel → Channel) : (s.modChannel c f).slots = s.slots := rfl
@[simp] theorem State.modChannel_pollCursor (s : State) (c : Nat) (f : Channel → Channel) : (s.modChannel c f).pollCursor = s.pollCursor := rfl
@[simp] theorem State.modChannel_exchange (s : State) (c : Nat) (f : Channel → Channel) : (s.modChannel c f).exchange = s.exchange := rfl
@[simp] theorem State.modChannel_replyMs (s : State) (c : Nat) (f : Channel → Channel) : (s.modChannel c f).replyMs = s.replyMs := rfl
@[simp] theorem State.modChannel_afterPoll (s : State) (c : Nat) (f : Channel → Channel) : (s.modChannel c f).afterPoll = s.afterPoll := rfl
@[simp] theorem State.modChannel_setpointQueue (s : State) (c : Nat) (f : Channel → Channel) : (s.modChannel c f).setpointQueue = s.setpointQueue := rfl
@[simp] theorem State.modChannel_ltx (s : State) (c : Nat) (f : Channel → Channel) : (s.modChannel c f).ltx = s.ltx := rfl
@[simp] theorem State.modChannel_grades (s : State) (c : Nat) (f : Channel → Channel) : (s.modChannel c f).grades = s.grades := rfl
@[simp] theorem State.modChannel_windows (s : State) (c : Nat) (f : Channel → Channel) : (s.modChannel c f).windows = s.windows := rfl
@[simp] theorem State.modChannel_plant (s : State) (c : Nat) (f : Channel → Channel) : (s.modChannel c f).plant = s.plant := rfl
@[simp] theorem State.modChannel_passMs (s : State) (c : Nat) (f : Channel → Channel) : (s.modChannel c f).passMs = s.passMs := rfl
@[simp] theorem State.modChannel_passLength (s : State) (c : Nat) (f : Channel → Channel) : (s.modChannel c f).passLength = s.passLength := rfl
@[simp] theorem State.modChannel_pass (s : State) (c : Nat) (f : Channel → Channel) : (s.modChannel c f).pass = s.pass := rfl
@[simp] theorem State.modChannel_passSeq (s : State) (c : Nat) (f : Channel → Channel) : (s.modChannel c f).passSeq = s.passSeq := rfl
@[simp] theorem State.modChannel_balance (s : State) (c : Nat) (f : Channel → Channel) : (s.modChannel c f).balance = s.balance := rfl
@[simp] theorem State.modChannel_stack (s : State) (c : Nat) (f : Channel → Channel) : (s.modChannel c f).stack = s.stack := rfl
@[simp] theorem State.modChannel_readmission (s : State) (c : Nat) (f : Channel → Channel) : (s.modChannel c f).readmission = s.readmission := rfl
@[simp] theorem State.modChannel_recoveryTimer (s : State) (c : Nat) (f : Channel → Channel) : (s.modChannel c f).recoveryTimer = s.recoveryTimer := rfl
@[simp] theorem State.modChannel_accounts (s : State) (c : Nat) (f : Channel → Channel) : (s.modChannel c f).accounts = s.accounts := rfl
@[simp] theorem State.modChannel_band (s : State) (c : Nat) (f : Channel → Channel) : (s.modChannel c f).band = s.band := rfl
@[simp] theorem State.modChannel_pairs (s : State) (c : Nat) (f : Channel → Channel) : (s.modChannel c f).pairs = s.pairs := rfl
@[simp] theorem State.modChannel_season (s : State) (c : Nat) (f : Channel → Channel) : (s.modChannel c f).season = s.season := rfl
@[simp] theorem State.modChannel_notices (s : State) (c : Nat) (f : Channel → Channel) : (s.modChannel c f).notices = s.notices := rfl
@[simp] theorem State.modChannel_clearMode (s : State) (c : Nat) (f : Channel → Channel) : (s.modChannel c f).clearMode = s.clearMode := rfl
@[simp] theorem State.modChannel_tickMs (s : State) (c : Nat) (f : Channel → Channel) : (s.modChannel c f).tickMs = s.tickMs := rfl
@[simp] theorem State.modChannel_pending (s : State) (c : Nat) (f : Channel → Channel) : (s.modChannel c f).pending = s.pending := rfl

@[simp] theorem State.putGrade_inReset (s : State) (g : Grade) (r : GradeRecord) : (s.putGrade g r).inReset = s.inReset := rfl
@[simp] theorem State.putGrade_maintEn (s : State) (g : Grade) (r : GradeRecord) : (s.putGrade g r).maintEn = s.maintEn := rfl
@[simp] theorem State.putGrade_portA (s : State) (g : Grade) (r : GradeRecord) : (s.putGrade g r).portA = s.portA := rfl
@[simp] theorem State.putGrade_portB (s : State) (g : Grade) (r : GradeRecord) : (s.putGrade g r).portB = s.portB := rfl
@[simp] theorem State.putGrade_slots (s : State) (g : Grade) (r : GradeRecord) : (s.putGrade g r).slots = s.slots := rfl
@[simp] theorem State.putGrade_pollCursor (s : State) (g : Grade) (r : GradeRecord) : (s.putGrade g r).pollCursor = s.pollCursor := rfl
@[simp] theorem State.putGrade_exchange (s : State) (g : Grade) (r : GradeRecord) : (s.putGrade g r).exchange = s.exchange := rfl
@[simp] theorem State.putGrade_replyMs (s : State) (g : Grade) (r : GradeRecord) : (s.putGrade g r).replyMs = s.replyMs := rfl
@[simp] theorem State.putGrade_afterPoll (s : State) (g : Grade) (r : GradeRecord) : (s.putGrade g r).afterPoll = s.afterPoll := rfl
@[simp] theorem State.putGrade_setpointQueue (s : State) (g : Grade) (r : GradeRecord) : (s.putGrade g r).setpointQueue = s.setpointQueue := rfl
@[simp] theorem State.putGrade_ltx (s : State) (g : Grade) (r : GradeRecord) : (s.putGrade g r).ltx = s.ltx := rfl
@[simp] theorem State.putGrade_channels (s : State) (g : Grade) (r : GradeRecord) : (s.putGrade g r).channels = s.channels := rfl
@[simp] theorem State.putGrade_windows (s : State) (g : Grade) (r : GradeRecord) : (s.putGrade g r).windows = s.windows := rfl
@[simp] theorem State.putGrade_plant (s : State) (g : Grade) (r : GradeRecord) : (s.putGrade g r).plant = s.plant := rfl
@[simp] theorem State.putGrade_passMs (s : State) (g : Grade) (r : GradeRecord) : (s.putGrade g r).passMs = s.passMs := rfl
@[simp] theorem State.putGrade_passLength (s : State) (g : Grade) (r : GradeRecord) : (s.putGrade g r).passLength = s.passLength := rfl
@[simp] theorem State.putGrade_pass (s : State) (g : Grade) (r : GradeRecord) : (s.putGrade g r).pass = s.pass := rfl
@[simp] theorem State.putGrade_passSeq (s : State) (g : Grade) (r : GradeRecord) : (s.putGrade g r).passSeq = s.passSeq := rfl
@[simp] theorem State.putGrade_balance (s : State) (g : Grade) (r : GradeRecord) : (s.putGrade g r).balance = s.balance := rfl
@[simp] theorem State.putGrade_stack (s : State) (g : Grade) (r : GradeRecord) : (s.putGrade g r).stack = s.stack := rfl
@[simp] theorem State.putGrade_readmission (s : State) (g : Grade) (r : GradeRecord) : (s.putGrade g r).readmission = s.readmission := rfl
@[simp] theorem State.putGrade_recoveryTimer (s : State) (g : Grade) (r : GradeRecord) : (s.putGrade g r).recoveryTimer = s.recoveryTimer := rfl
@[simp] theorem State.putGrade_accounts (s : State) (g : Grade) (r : GradeRecord) : (s.putGrade g r).accounts = s.accounts := rfl
@[simp] theorem State.putGrade_band (s : State) (g : Grade) (r : GradeRecord) : (s.putGrade g r).band = s.band := rfl
@[simp] theorem State.putGrade_pairs (s : State) (g : Grade) (r : GradeRecord) : (s.putGrade g r).pairs = s.pairs := rfl
@[simp] theorem State.putGrade_season (s : State) (g : Grade) (r : GradeRecord) : (s.putGrade g r).season = s.season := rfl
@[simp] theorem State.putGrade_notices (s : State) (g : Grade) (r : GradeRecord) : (s.putGrade g r).notices = s.notices := rfl
@[simp] theorem State.putGrade_clearMode (s : State) (g : Grade) (r : GradeRecord) : (s.putGrade g r).clearMode = s.clearMode := rfl
@[simp] theorem State.putGrade_tickMs (s : State) (g : Grade) (r : GradeRecord) : (s.putGrade g r).tickMs = s.tickMs := rfl
@[simp] theorem State.putGrade_pending (s : State) (g : Grade) (r : GradeRecord) : (s.putGrade g r).pending = s.pending := rfl

@[simp] theorem State.raise_inReset (s : State) (k : NoticeKind) (n : Nat) : (s.raise k n).inReset = s.inReset := rfl
@[simp] theorem State.raise_maintEn (s : State) (k : NoticeKind) (n : Nat) : (s.raise k n).maintEn = s.maintEn := rfl
@[simp] theorem State.raise_portA (s : State) (k : NoticeKind) (n : Nat) : (s.raise k n).portA = s.portA := rfl
@[simp] theorem State.raise_portB (s : State) (k : NoticeKind) (n : Nat) : (s.raise k n).portB = s.portB := rfl
@[simp] theorem State.raise_slots (s : State) (k : NoticeKind) (n : Nat) : (s.raise k n).slots = s.slots := rfl
@[simp] theorem State.raise_pollCursor (s : State) (k : NoticeKind) (n : Nat) : (s.raise k n).pollCursor = s.pollCursor := rfl
@[simp] theorem State.raise_exchange (s : State) (k : NoticeKind) (n : Nat) : (s.raise k n).exchange = s.exchange := rfl
@[simp] theorem State.raise_replyMs (s : State) (k : NoticeKind) (n : Nat) : (s.raise k n).replyMs = s.replyMs := rfl
@[simp] theorem State.raise_afterPoll (s : State) (k : NoticeKind) (n : Nat) : (s.raise k n).afterPoll = s.afterPoll := rfl
@[simp] theorem State.raise_setpointQueue (s : State) (k : NoticeKind) (n : Nat) : (s.raise k n).setpointQueue = s.setpointQueue := rfl
@[simp] theorem State.raise_ltx (s : State) (k : NoticeKind) (n : Nat) : (s.raise k n).ltx = s.ltx := rfl
@[simp] theorem State.raise_channels (s : State) (k : NoticeKind) (n : Nat) : (s.raise k n).channels = s.channels := rfl
@[simp] theorem State.raise_grades (s : State) (k : NoticeKind) (n : Nat) : (s.raise k n).grades = s.grades := rfl
@[simp] theorem State.raise_windows (s : State) (k : NoticeKind) (n : Nat) : (s.raise k n).windows = s.windows := rfl
@[simp] theorem State.raise_plant (s : State) (k : NoticeKind) (n : Nat) : (s.raise k n).plant = s.plant := rfl
@[simp] theorem State.raise_passMs (s : State) (k : NoticeKind) (n : Nat) : (s.raise k n).passMs = s.passMs := rfl
@[simp] theorem State.raise_passLength (s : State) (k : NoticeKind) (n : Nat) : (s.raise k n).passLength = s.passLength := rfl
@[simp] theorem State.raise_pass (s : State) (k : NoticeKind) (n : Nat) : (s.raise k n).pass = s.pass := rfl
@[simp] theorem State.raise_passSeq (s : State) (k : NoticeKind) (n : Nat) : (s.raise k n).passSeq = s.passSeq := rfl
@[simp] theorem State.raise_balance (s : State) (k : NoticeKind) (n : Nat) : (s.raise k n).balance = s.balance := rfl
@[simp] theorem State.raise_stack (s : State) (k : NoticeKind) (n : Nat) : (s.raise k n).stack = s.stack := rfl
@[simp] theorem State.raise_readmission (s : State) (k : NoticeKind) (n : Nat) : (s.raise k n).readmission = s.readmission := rfl
@[simp] theorem State.raise_recoveryTimer (s : State) (k : NoticeKind) (n : Nat) : (s.raise k n).recoveryTimer = s.recoveryTimer := rfl
@[simp] theorem State.raise_accounts (s : State) (k : NoticeKind) (n : Nat) : (s.raise k n).accounts = s.accounts := rfl
@[simp] theorem State.raise_band (s : State) (k : NoticeKind) (n : Nat) : (s.raise k n).band = s.band := rfl
@[simp] theorem State.raise_pairs (s : State) (k : NoticeKind) (n : Nat) : (s.raise k n).pairs = s.pairs := rfl
@[simp] theorem State.raise_season (s : State) (k : NoticeKind) (n : Nat) : (s.raise k n).season = s.season := rfl
@[simp] theorem State.raise_clearMode (s : State) (k : NoticeKind) (n : Nat) : (s.raise k n).clearMode = s.clearMode := rfl
@[simp] theorem State.raise_tickMs (s : State) (k : NoticeKind) (n : Nat) : (s.raise k n).tickMs = s.tickMs := rfl
@[simp] theorem State.raise_pending (s : State) (k : NoticeKind) (n : Nat) : (s.raise k n).pending = s.pending := rfl

@[simp] theorem State.dropEntry_inReset (s : State) (i : Nat) : (s.dropEntry i).inReset = s.inReset := rfl
@[simp] theorem State.dropEntry_maintEn (s : State) (i : Nat) : (s.dropEntry i).maintEn = s.maintEn := rfl
@[simp] theorem State.dropEntry_portA (s : State) (i : Nat) : (s.dropEntry i).portA = s.portA := rfl
@[simp] theorem State.dropEntry_portB (s : State) (i : Nat) : (s.dropEntry i).portB = s.portB := rfl
@[simp] theorem State.dropEntry_slots (s : State) (i : Nat) : (s.dropEntry i).slots = s.slots := rfl
@[simp] theorem State.dropEntry_pollCursor (s : State) (i : Nat) : (s.dropEntry i).pollCursor = s.pollCursor := rfl
@[simp] theorem State.dropEntry_exchange (s : State) (i : Nat) : (s.dropEntry i).exchange = s.exchange := rfl
@[simp] theorem State.dropEntry_replyMs (s : State) (i : Nat) : (s.dropEntry i).replyMs = s.replyMs := rfl
@[simp] theorem State.dropEntry_afterPoll (s : State) (i : Nat) : (s.dropEntry i).afterPoll = s.afterPoll := rfl
@[simp] theorem State.dropEntry_ltx (s : State) (i : Nat) : (s.dropEntry i).ltx = s.ltx := rfl
@[simp] theorem State.dropEntry_channels (s : State) (i : Nat) : (s.dropEntry i).channels = s.channels := rfl
@[simp] theorem State.dropEntry_grades (s : State) (i : Nat) : (s.dropEntry i).grades = s.grades := rfl
@[simp] theorem State.dropEntry_windows (s : State) (i : Nat) : (s.dropEntry i).windows = s.windows := rfl
@[simp] theorem State.dropEntry_plant (s : State) (i : Nat) : (s.dropEntry i).plant = s.plant := rfl
@[simp] theorem State.dropEntry_passMs (s : State) (i : Nat) : (s.dropEntry i).passMs = s.passMs := rfl
@[simp] theorem State.dropEntry_passLength (s : State) (i : Nat) : (s.dropEntry i).passLength = s.passLength := rfl
@[simp] theorem State.dropEntry_pass (s : State) (i : Nat) : (s.dropEntry i).pass = s.pass := rfl
@[simp] theorem State.dropEntry_passSeq (s : State) (i : Nat) : (s.dropEntry i).passSeq = s.passSeq := rfl
@[simp] theorem State.dropEntry_balance (s : State) (i : Nat) : (s.dropEntry i).balance = s.balance := rfl
@[simp] theorem State.dropEntry_stack (s : State) (i : Nat) : (s.dropEntry i).stack = s.stack := rfl
@[simp] theorem State.dropEntry_readmission (s : State) (i : Nat) : (s.dropEntry i).readmission = s.readmission := rfl
@[simp] theorem State.dropEntry_recoveryTimer (s : State) (i : Nat) : (s.dropEntry i).recoveryTimer = s.recoveryTimer := rfl
@[simp] theorem State.dropEntry_accounts (s : State) (i : Nat) : (s.dropEntry i).accounts = s.accounts := rfl
@[simp] theorem State.dropEntry_band (s : State) (i : Nat) : (s.dropEntry i).band = s.band := rfl
@[simp] theorem State.dropEntry_pairs (s : State) (i : Nat) : (s.dropEntry i).pairs = s.pairs := rfl
@[simp] theorem State.dropEntry_season (s : State) (i : Nat) : (s.dropEntry i).season = s.season := rfl
@[simp] theorem State.dropEntry_notices (s : State) (i : Nat) : (s.dropEntry i).notices = s.notices := rfl
@[simp] theorem State.dropEntry_clearMode (s : State) (i : Nat) : (s.dropEntry i).clearMode = s.clearMode := rfl
@[simp] theorem State.dropEntry_tickMs (s : State) (i : Nat) : (s.dropEntry i).tickMs = s.tickMs := rfl
@[simp] theorem State.dropEntry_pending (s : State) (i : Nat) : (s.dropEntry i).pending = s.pending := rfl

@[simp] theorem State.voidEntry_inReset (s : State) (i : Nat) : (s.voidEntry i).inReset = s.inReset := rfl
@[simp] theorem State.voidEntry_maintEn (s : State) (i : Nat) : (s.voidEntry i).maintEn = s.maintEn := rfl
@[simp] theorem State.voidEntry_portA (s : State) (i : Nat) : (s.voidEntry i).portA = s.portA := rfl
@[simp] theorem State.voidEntry_portB (s : State) (i : Nat) : (s.voidEntry i).portB = s.portB := rfl
@[simp] theorem State.voidEntry_slots (s : State) (i : Nat) : (s.voidEntry i).slots = s.slots := rfl
@[simp] theorem State.voidEntry_pollCursor (s : State) (i : Nat) : (s.voidEntry i).pollCursor = s.pollCursor := rfl
@[simp] theorem State.voidEntry_exchange (s : State) (i : Nat) : (s.voidEntry i).exchange = s.exchange := rfl
@[simp] theorem State.voidEntry_replyMs (s : State) (i : Nat) : (s.voidEntry i).replyMs = s.replyMs := rfl
@[simp] theorem State.voidEntry_afterPoll (s : State) (i : Nat) : (s.voidEntry i).afterPoll = s.afterPoll := rfl
@[simp] theorem State.voidEntry_setpointQueue (s : State) (i : Nat) : (s.voidEntry i).setpointQueue = s.setpointQueue := rfl
@[simp] theorem State.voidEntry_ltx (s : State) (i : Nat) : (s.voidEntry i).ltx = s.ltx := rfl
@[simp] theorem State.voidEntry_channels (s : State) (i : Nat) : (s.voidEntry i).channels = s.channels := rfl
@[simp] theorem State.voidEntry_grades (s : State) (i : Nat) : (s.voidEntry i).grades = s.grades := rfl
@[simp] theorem State.voidEntry_windows (s : State) (i : Nat) : (s.voidEntry i).windows = s.windows := rfl
@[simp] theorem State.voidEntry_plant (s : State) (i : Nat) : (s.voidEntry i).plant = s.plant := rfl
@[simp] theorem State.voidEntry_passMs (s : State) (i : Nat) : (s.voidEntry i).passMs = s.passMs := rfl
@[simp] theorem State.voidEntry_passLength (s : State) (i : Nat) : (s.voidEntry i).passLength = s.passLength := rfl
@[simp] theorem State.voidEntry_passSeq (s : State) (i : Nat) : (s.voidEntry i).passSeq = s.passSeq := rfl
@[simp] theorem State.voidEntry_balance (s : State) (i : Nat) : (s.voidEntry i).balance = s.balance := rfl
@[simp] theorem State.voidEntry_stack (s : State) (i : Nat) : (s.voidEntry i).stack = s.stack := rfl
@[simp] theorem State.voidEntry_readmission (s : State) (i : Nat) : (s.voidEntry i).readmission = s.readmission := rfl
@[simp] theorem State.voidEntry_recoveryTimer (s : State) (i : Nat) : (s.voidEntry i).recoveryTimer = s.recoveryTimer := rfl
@[simp] theorem State.voidEntry_accounts (s : State) (i : Nat) : (s.voidEntry i).accounts = s.accounts := rfl
@[simp] theorem State.voidEntry_band (s : State) (i : Nat) : (s.voidEntry i).band = s.band := rfl
@[simp] theorem State.voidEntry_pairs (s : State) (i : Nat) : (s.voidEntry i).pairs = s.pairs := rfl
@[simp] theorem State.voidEntry_season (s : State) (i : Nat) : (s.voidEntry i).season = s.season := rfl
@[simp] theorem State.voidEntry_notices (s : State) (i : Nat) : (s.voidEntry i).notices = s.notices := rfl
@[simp] theorem State.voidEntry_clearMode (s : State) (i : Nat) : (s.voidEntry i).clearMode = s.clearMode := rfl
@[simp] theorem State.voidEntry_tickMs (s : State) (i : Nat) : (s.voidEntry i).tickMs = s.tickMs := rfl
@[simp] theorem State.voidEntry_pending (s : State) (i : Nat) : (s.voidEntry i).pending = s.pending := rfl

@[simp] theorem State.unlist_inReset (s : State) (i : Nat) : (s.unlist i).inReset = s.inReset := rfl
@[simp] theorem State.unlist_maintEn (s : State) (i : Nat) : (s.unlist i).maintEn = s.maintEn := rfl
@[simp] theorem State.unlist_portA (s : State) (i : Nat) : (s.unlist i).portA = s.portA := rfl
@[simp] theorem State.unlist_portB (s : State) (i : Nat) : (s.unlist i).portB = s.portB := rfl
@[simp] theorem State.unlist_slots (s : State) (i : Nat) : (s.unlist i).slots = s.slots := rfl
@[simp] theorem State.unlist_pollCursor (s : State) (i : Nat) : (s.unlist i).pollCursor = s.pollCursor := rfl
@[simp] theorem State.unlist_exchange (s : State) (i : Nat) : (s.unlist i).exchange = s.exchange := rfl
@[simp] theorem State.unlist_replyMs (s : State) (i : Nat) : (s.unlist i).replyMs = s.replyMs := rfl
@[simp] theorem State.unlist_afterPoll (s : State) (i : Nat) : (s.unlist i).afterPoll = s.afterPoll := rfl
@[simp] theorem State.unlist_setpointQueue (s : State) (i : Nat) : (s.unlist i).setpointQueue = s.setpointQueue := rfl
@[simp] theorem State.unlist_ltx (s : State) (i : Nat) : (s.unlist i).ltx = s.ltx := rfl
@[simp] theorem State.unlist_channels (s : State) (i : Nat) : (s.unlist i).channels = s.channels := rfl
@[simp] theorem State.unlist_grades (s : State) (i : Nat) : (s.unlist i).grades = s.grades := rfl
@[simp] theorem State.unlist_windows (s : State) (i : Nat) : (s.unlist i).windows = s.windows := rfl
@[simp] theorem State.unlist_plant (s : State) (i : Nat) : (s.unlist i).plant = s.plant := rfl
@[simp] theorem State.unlist_passMs (s : State) (i : Nat) : (s.unlist i).passMs = s.passMs := rfl
@[simp] theorem State.unlist_passLength (s : State) (i : Nat) : (s.unlist i).passLength = s.passLength := rfl
@[simp] theorem State.unlist_pass (s : State) (i : Nat) : (s.unlist i).pass = s.pass := rfl
@[simp] theorem State.unlist_passSeq (s : State) (i : Nat) : (s.unlist i).passSeq = s.passSeq := rfl
@[simp] theorem State.unlist_balance (s : State) (i : Nat) : (s.unlist i).balance = s.balance := rfl
@[simp] theorem State.unlist_recoveryTimer (s : State) (i : Nat) : (s.unlist i).recoveryTimer = s.recoveryTimer := rfl
@[simp] theorem State.unlist_accounts (s : State) (i : Nat) : (s.unlist i).accounts = s.accounts := rfl
@[simp] theorem State.unlist_band (s : State) (i : Nat) : (s.unlist i).band = s.band := rfl
@[simp] theorem State.unlist_pairs (s : State) (i : Nat) : (s.unlist i).pairs = s.pairs := rfl
@[simp] theorem State.unlist_season (s : State) (i : Nat) : (s.unlist i).season = s.season := rfl
@[simp] theorem State.unlist_notices (s : State) (i : Nat) : (s.unlist i).notices = s.notices := rfl
@[simp] theorem State.unlist_clearMode (s : State) (i : Nat) : (s.unlist i).clearMode = s.clearMode := rfl
@[simp] theorem State.unlist_tickMs (s : State) (i : Nat) : (s.unlist i).tickMs = s.tickMs := rfl
@[simp] theorem State.unlist_pending (s : State) (i : Nat) : (s.unlist i).pending = s.pending := rfl

@[simp] theorem State.appendTop_inReset (s : State) (i : Nat) : (s.appendTop i).inReset = s.inReset := by unfold State.appendTop; split <;> rfl
@[simp] theorem State.appendTop_maintEn (s : State) (i : Nat) : (s.appendTop i).maintEn = s.maintEn := by unfold State.appendTop; split <;> rfl
@[simp] theorem State.appendTop_portA (s : State) (i : Nat) : (s.appendTop i).portA = s.portA := by unfold State.appendTop; split <;> rfl
@[simp] theorem State.appendTop_portB (s : State) (i : Nat) : (s.appendTop i).portB = s.portB := by unfold State.appendTop; split <;> rfl
@[simp] theorem State.appendTop_slots (s : State) (i : Nat) : (s.appendTop i).slots = s.slots := by unfold State.appendTop; split <;> rfl
@[simp] theorem State.appendTop_pollCursor (s : State) (i : Nat) : (s.appendTop i).pollCursor = s.pollCursor := by unfold State.appendTop; split <;> rfl
@[simp] theorem State.appendTop_exchange (s : State) (i : Nat) : (s.appendTop i).exchange = s.exchange := by unfold State.appendTop; split <;> rfl
@[simp] theorem State.appendTop_replyMs (s : State) (i : Nat) : (s.appendTop i).replyMs = s.replyMs := by unfold State.appendTop; split <;> rfl
@[simp] theorem State.appendTop_afterPoll (s : State) (i : Nat) : (s.appendTop i).afterPoll = s.afterPoll := by unfold State.appendTop; split <;> rfl
@[simp] theorem State.appendTop_setpointQueue (s : State) (i : Nat) : (s.appendTop i).setpointQueue = s.setpointQueue := by unfold State.appendTop; split <;> rfl
@[simp] theorem State.appendTop_ltx (s : State) (i : Nat) : (s.appendTop i).ltx = s.ltx := by unfold State.appendTop; split <;> rfl
@[simp] theorem State.appendTop_channels (s : State) (i : Nat) : (s.appendTop i).channels = s.channels := by unfold State.appendTop; split <;> rfl
@[simp] theorem State.appendTop_grades (s : State) (i : Nat) : (s.appendTop i).grades = s.grades := by unfold State.appendTop; split <;> rfl
@[simp] theorem State.appendTop_windows (s : State) (i : Nat) : (s.appendTop i).windows = s.windows := by unfold State.appendTop; split <;> rfl
@[simp] theorem State.appendTop_plant (s : State) (i : Nat) : (s.appendTop i).plant = s.plant := by unfold State.appendTop; split <;> rfl
@[simp] theorem State.appendTop_passMs (s : State) (i : Nat) : (s.appendTop i).passMs = s.passMs := by unfold State.appendTop; split <;> rfl
@[simp] theorem State.appendTop_passLength (s : State) (i : Nat) : (s.appendTop i).passLength = s.passLength := by unfold State.appendTop; split <;> rfl
@[simp] theorem State.appendTop_pass (s : State) (i : Nat) : (s.appendTop i).pass = s.pass := by unfold State.appendTop; split <;> rfl
@[simp] theorem State.appendTop_passSeq (s : State) (i : Nat) : (s.appendTop i).passSeq = s.passSeq := by unfold State.appendTop; split <;> rfl
@[simp] theorem State.appendTop_balance (s : State) (i : Nat) : (s.appendTop i).balance = s.balance := by unfold State.appendTop; split <;> rfl
@[simp] theorem State.appendTop_readmission (s : State) (i : Nat) : (s.appendTop i).readmission = s.readmission := by unfold State.appendTop; split <;> rfl
@[simp] theorem State.appendTop_recoveryTimer (s : State) (i : Nat) : (s.appendTop i).recoveryTimer = s.recoveryTimer := by unfold State.appendTop; split <;> rfl
@[simp] theorem State.appendTop_accounts (s : State) (i : Nat) : (s.appendTop i).accounts = s.accounts := by unfold State.appendTop; split <;> rfl
@[simp] theorem State.appendTop_band (s : State) (i : Nat) : (s.appendTop i).band = s.band := by unfold State.appendTop; split <;> rfl
@[simp] theorem State.appendTop_pairs (s : State) (i : Nat) : (s.appendTop i).pairs = s.pairs := by unfold State.appendTop; split <;> rfl
@[simp] theorem State.appendTop_season (s : State) (i : Nat) : (s.appendTop i).season = s.season := by unfold State.appendTop; split <;> rfl
@[simp] theorem State.appendTop_notices (s : State) (i : Nat) : (s.appendTop i).notices = s.notices := by unfold State.appendTop; split <;> rfl
@[simp] theorem State.appendTop_clearMode (s : State) (i : Nat) : (s.appendTop i).clearMode = s.clearMode := by unfold State.appendTop; split <;> rfl
@[simp] theorem State.appendTop_tickMs (s : State) (i : Nat) : (s.appendTop i).tickMs = s.tickMs := by unfold State.appendTop; split <;> rfl
@[simp] theorem State.appendTop_pending (s : State) (i : Nat) : (s.appendTop i).pending = s.pending := by unfold State.appendTop; split <;> rfl

@[simp] theorem State.abandon_inReset (s : State) (i : Nat) : (s.abandon i).inReset = s.inReset := by
  unfold State.abandon
  repeat' split
  all_goals rfl
@[simp] theorem State.abandon_maintEn (s : State) (i : Nat) : (s.abandon i).maintEn = s.maintEn := by
  unfold State.abandon
  repeat' split
  all_goals rfl
@[simp] theorem State.abandon_portA (s : State) (i : Nat) : (s.abandon i).portA = s.portA := by
  unfold State.abandon
  repeat' split
  all_goals rfl
@[simp] theorem State.abandon_portB (s : State) (i : Nat) : (s.abandon i).portB = s.portB := by
  unfold State.abandon
  repeat' split
  all_goals rfl
@[simp] theorem State.abandon_slots (s : State) (i : Nat) : (s.abandon i).slots = s.slots := by
  unfold State.abandon
  repeat' split
  all_goals rfl
@[simp] theorem State.abandon_pollCursor (s : State) (i : Nat) : (s.abandon i).pollCursor = s.pollCursor := by
  unfold State.abandon
  repeat' split
  all_goals rfl
@[simp] theorem State.abandon_replyMs (s : State) (i : Nat) : (s.abandon i).replyMs = s.replyMs := by
  unfold State.abandon
  repeat' split
  all_goals rfl
@[simp] theorem State.abandon_afterPoll (s : State) (i : Nat) : (s.abandon i).afterPoll = s.afterPoll := by
  unfold State.abandon
  repeat' split
  all_goals rfl
@[simp] theorem State.abandon_setpointQueue (s : State) (i : Nat) : (s.abandon i).setpointQueue = s.setpointQueue := by
  unfold State.abandon
  repeat' split
  all_goals rfl
@[simp] theorem State.abandon_ltx (s : State) (i : Nat) : (s.abandon i).ltx = s.ltx := by
  unfold State.abandon
  repeat' split
  all_goals rfl
@[simp] theorem State.abandon_channels (s : State) (i : Nat) : (s.abandon i).channels = s.channels := by
  unfold State.abandon
  repeat' split
  all_goals rfl
@[simp] theorem State.abandon_grades (s : State) (i : Nat) : (s.abandon i).grades = s.grades := by
  unfold State.abandon
  repeat' split
  all_goals rfl
@[simp] theorem State.abandon_windows (s : State) (i : Nat) : (s.abandon i).windows = s.windows := by
  unfold State.abandon
  repeat' split
  all_goals rfl
@[simp] theorem State.abandon_plant (s : State) (i : Nat) : (s.abandon i).plant = s.plant := by
  unfold State.abandon
  repeat' split
  all_goals rfl
@[simp] theorem State.abandon_passMs (s : State) (i : Nat) : (s.abandon i).passMs = s.passMs := by
  unfold State.abandon
  repeat' split
  all_goals rfl
@[simp] theorem State.abandon_passLength (s : State) (i : Nat) : (s.abandon i).passLength = s.passLength := by
  unfold State.abandon
  repeat' split
  all_goals rfl
@[simp] theorem State.abandon_pass (s : State) (i : Nat) : (s.abandon i).pass = s.pass := by
  unfold State.abandon
  repeat' split
  all_goals rfl
@[simp] theorem State.abandon_passSeq (s : State) (i : Nat) : (s.abandon i).passSeq = s.passSeq := by
  unfold State.abandon
  repeat' split
  all_goals rfl
@[simp] theorem State.abandon_balance (s : State) (i : Nat) : (s.abandon i).balance = s.balance := by
  unfold State.abandon
  repeat' split
  all_goals rfl
@[simp] theorem State.abandon_stack (s : State) (i : Nat) : (s.abandon i).stack = s.stack := by
  unfold State.abandon
  repeat' split
  all_goals rfl
@[simp] theorem State.abandon_readmission (s : State) (i : Nat) : (s.abandon i).readmission = s.readmission := by
  unfold State.abandon
  repeat' split
  all_goals rfl
@[simp] theorem State.abandon_recoveryTimer (s : State) (i : Nat) : (s.abandon i).recoveryTimer = s.recoveryTimer := by
  unfold State.abandon
  repeat' split
  all_goals rfl
@[simp] theorem State.abandon_accounts (s : State) (i : Nat) : (s.abandon i).accounts = s.accounts := by
  unfold State.abandon
  repeat' split
  all_goals rfl
@[simp] theorem State.abandon_band (s : State) (i : Nat) : (s.abandon i).band = s.band := by
  unfold State.abandon
  repeat' split
  all_goals rfl
@[simp] theorem State.abandon_pairs (s : State) (i : Nat) : (s.abandon i).pairs = s.pairs := by
  unfold State.abandon
  repeat' split
  all_goals rfl
@[simp] theorem State.abandon_season (s : State) (i : Nat) : (s.abandon i).season = s.season := by
  unfold State.abandon
  repeat' split
  all_goals rfl
@[simp] theorem State.abandon_notices (s : State) (i : Nat) : (s.abandon i).notices = s.notices := by
  unfold State.abandon
  repeat' split
  all_goals rfl
@[simp] theorem State.abandon_clearMode (s : State) (i : Nat) : (s.abandon i).clearMode = s.clearMode := by
  unfold State.abandon
  repeat' split
  all_goals rfl
@[simp] theorem State.abandon_tickMs (s : State) (i : Nat) : (s.abandon i).tickMs = s.tickMs := by
  unfold State.abandon
  repeat' split
  all_goals rfl
@[simp] theorem State.abandon_pending (s : State) (i : Nat) : (s.abandon i).pending = s.pending := by
  unfold State.abandon
  repeat' split
  all_goals rfl

@[simp] theorem State.dropPoll_inReset (s : State) (i : Nat) : (s.dropPoll i).inReset = s.inReset := by
  unfold State.dropPoll
  repeat' split
  all_goals rfl
@[simp] theorem State.dropPoll_maintEn (s : State) (i : Nat) : (s.dropPoll i).maintEn = s.maintEn := by
  unfold State.dropPoll
  repeat' split
  all_goals rfl
@[simp] theorem State.dropPoll_portA (s : State) (i : Nat) : (s.dropPoll i).portA = s.portA := by
  unfold State.dropPoll
  repeat' split
  all_goals rfl
@[simp] theorem State.dropPoll_portB (s : State) (i : Nat) : (s.dropPoll i).portB = s.portB := by
  unfold State.dropPoll
  repeat' split
  all_goals rfl
@[simp] theorem State.dropPoll_slots (s : State) (i : Nat) : (s.dropPoll i).slots = s.slots := by
  unfold State.dropPoll
  repeat' split
  all_goals rfl
@[simp] theorem State.dropPoll_pollCursor (s : State) (i : Nat) : (s.dropPoll i).pollCursor = s.pollCursor := by
  unfold State.dropPoll
  repeat' split
  all_goals rfl
@[simp] theorem State.dropPoll_replyMs (s : State) (i : Nat) : (s.dropPoll i).replyMs = s.replyMs := by
  unfold State.dropPoll
  repeat' split
  all_goals rfl
@[simp] theorem State.dropPoll_afterPoll (s : State) (i : Nat) : (s.dropPoll i).afterPoll = s.afterPoll := by
  unfold State.dropPoll
  repeat' split
  all_goals rfl
@[simp] theorem State.dropPoll_setpointQueue (s : State) (i : Nat) : (s.dropPoll i).setpointQueue = s.setpointQueue := by
  unfold State.dropPoll
  repeat' split
  all_goals rfl
@[simp] theorem State.dropPoll_ltx (s : State) (i : Nat) : (s.dropPoll i).ltx = s.ltx := by
  unfold State.dropPoll
  repeat' split
  all_goals rfl
@[simp] theorem State.dropPoll_channels (s : State) (i : Nat) : (s.dropPoll i).channels = s.channels := by
  unfold State.dropPoll
  repeat' split
  all_goals rfl
@[simp] theorem State.dropPoll_grades (s : State) (i : Nat) : (s.dropPoll i).grades = s.grades := by
  unfold State.dropPoll
  repeat' split
  all_goals rfl
@[simp] theorem State.dropPoll_windows (s : State) (i : Nat) : (s.dropPoll i).windows = s.windows := by
  unfold State.dropPoll
  repeat' split
  all_goals rfl
@[simp] theorem State.dropPoll_plant (s : State) (i : Nat) : (s.dropPoll i).plant = s.plant := by
  unfold State.dropPoll
  repeat' split
  all_goals rfl
@[simp] theorem State.dropPoll_passMs (s : State) (i : Nat) : (s.dropPoll i).passMs = s.passMs := by
  unfold State.dropPoll
  repeat' split
  all_goals rfl
@[simp] theorem State.dropPoll_passLength (s : State) (i : Nat) : (s.dropPoll i).passLength = s.passLength := by
  unfold State.dropPoll
  repeat' split
  all_goals rfl
@[simp] theorem State.dropPoll_pass (s : State) (i : Nat) : (s.dropPoll i).pass = s.pass := by
  unfold State.dropPoll
  repeat' split
  all_goals rfl
@[simp] theorem State.dropPoll_passSeq (s : State) (i : Nat) : (s.dropPoll i).passSeq = s.passSeq := by
  unfold State.dropPoll
  repeat' split
  all_goals rfl
@[simp] theorem State.dropPoll_balance (s : State) (i : Nat) : (s.dropPoll i).balance = s.balance := by
  unfold State.dropPoll
  repeat' split
  all_goals rfl
@[simp] theorem State.dropPoll_stack (s : State) (i : Nat) : (s.dropPoll i).stack = s.stack := by
  unfold State.dropPoll
  repeat' split
  all_goals rfl
@[simp] theorem State.dropPoll_readmission (s : State) (i : Nat) : (s.dropPoll i).readmission = s.readmission := by
  unfold State.dropPoll
  repeat' split
  all_goals rfl
@[simp] theorem State.dropPoll_recoveryTimer (s : State) (i : Nat) : (s.dropPoll i).recoveryTimer = s.recoveryTimer := by
  unfold State.dropPoll
  repeat' split
  all_goals rfl
@[simp] theorem State.dropPoll_accounts (s : State) (i : Nat) : (s.dropPoll i).accounts = s.accounts := by
  unfold State.dropPoll
  repeat' split
  all_goals rfl
@[simp] theorem State.dropPoll_band (s : State) (i : Nat) : (s.dropPoll i).band = s.band := by
  unfold State.dropPoll
  repeat' split
  all_goals rfl
@[simp] theorem State.dropPoll_pairs (s : State) (i : Nat) : (s.dropPoll i).pairs = s.pairs := by
  unfold State.dropPoll
  repeat' split
  all_goals rfl
@[simp] theorem State.dropPoll_season (s : State) (i : Nat) : (s.dropPoll i).season = s.season := by
  unfold State.dropPoll
  repeat' split
  all_goals rfl
@[simp] theorem State.dropPoll_notices (s : State) (i : Nat) : (s.dropPoll i).notices = s.notices := by
  unfold State.dropPoll
  repeat' split
  all_goals rfl
@[simp] theorem State.dropPoll_clearMode (s : State) (i : Nat) : (s.dropPoll i).clearMode = s.clearMode := by
  unfold State.dropPoll
  repeat' split
  all_goals rfl
@[simp] theorem State.dropPoll_tickMs (s : State) (i : Nat) : (s.dropPoll i).tickMs = s.tickMs := by
  unfold State.dropPoll
  repeat' split
  all_goals rfl
@[simp] theorem State.dropPoll_pending (s : State) (i : Nat) : (s.dropPoll i).pending = s.pending := by
  unfold State.dropPoll
  repeat' split
  all_goals rfl

@[simp] theorem State.handGrant_inReset (s : State) (i : Nat) : (s.handGrant i).inReset = s.inReset := by
  unfold State.handGrant
  repeat' split
  all_goals rfl
@[simp] theorem State.handGrant_maintEn (s : State) (i : Nat) : (s.handGrant i).maintEn = s.maintEn := by
  unfold State.handGrant
  repeat' split
  all_goals rfl
@[simp] theorem State.handGrant_portA (s : State) (i : Nat) : (s.handGrant i).portA = s.portA := by
  unfold State.handGrant
  repeat' split
  all_goals rfl
@[simp] theorem State.handGrant_portB (s : State) (i : Nat) : (s.handGrant i).portB = s.portB := by
  unfold State.handGrant
  repeat' split
  all_goals rfl
@[simp] theorem State.handGrant_slots (s : State) (i : Nat) : (s.handGrant i).slots = s.slots := by
  unfold State.handGrant
  repeat' split
  all_goals rfl
@[simp] theorem State.handGrant_pollCursor (s : State) (i : Nat) : (s.handGrant i).pollCursor = s.pollCursor := by
  unfold State.handGrant
  repeat' split
  all_goals rfl
@[simp] theorem State.handGrant_exchange (s : State) (i : Nat) : (s.handGrant i).exchange = s.exchange := by
  unfold State.handGrant
  repeat' split
  all_goals rfl
@[simp] theorem State.handGrant_replyMs (s : State) (i : Nat) : (s.handGrant i).replyMs = s.replyMs := by
  unfold State.handGrant
  repeat' split
  all_goals rfl
@[simp] theorem State.handGrant_afterPoll (s : State) (i : Nat) : (s.handGrant i).afterPoll = s.afterPoll := by
  unfold State.handGrant
  repeat' split
  all_goals rfl
@[simp] theorem State.handGrant_ltx (s : State) (i : Nat) : (s.handGrant i).ltx = s.ltx := by
  unfold State.handGrant
  repeat' split
  all_goals rfl
@[simp] theorem State.handGrant_channels (s : State) (i : Nat) : (s.handGrant i).channels = s.channels := by
  unfold State.handGrant
  repeat' split
  all_goals rfl
@[simp] theorem State.handGrant_grades (s : State) (i : Nat) : (s.handGrant i).grades = s.grades := by
  unfold State.handGrant
  repeat' split
  all_goals rfl
@[simp] theorem State.handGrant_windows (s : State) (i : Nat) : (s.handGrant i).windows = s.windows := by
  unfold State.handGrant
  repeat' split
  all_goals rfl
@[simp] theorem State.handGrant_plant (s : State) (i : Nat) : (s.handGrant i).plant = s.plant := by
  unfold State.handGrant
  repeat' split
  all_goals rfl
@[simp] theorem State.handGrant_passMs (s : State) (i : Nat) : (s.handGrant i).passMs = s.passMs := by
  unfold State.handGrant
  repeat' split
  all_goals rfl
@[simp] theorem State.handGrant_passLength (s : State) (i : Nat) : (s.handGrant i).passLength = s.passLength := by
  unfold State.handGrant
  repeat' split
  all_goals rfl
@[simp] theorem State.handGrant_pass (s : State) (i : Nat) : (s.handGrant i).pass = s.pass := by
  unfold State.handGrant
  repeat' split
  all_goals rfl
@[simp] theorem State.handGrant_passSeq (s : State) (i : Nat) : (s.handGrant i).passSeq = s.passSeq := by
  unfold State.handGrant
  repeat' split
  all_goals rfl
@[simp] theorem State.handGrant_balance (s : State) (i : Nat) : (s.handGrant i).balance = s.balance := by
  unfold State.handGrant
  repeat' split
  all_goals rfl
@[simp] theorem State.handGrant_stack (s : State) (i : Nat) : (s.handGrant i).stack = s.stack := by
  unfold State.handGrant
  repeat' split
  all_goals rfl
@[simp] theorem State.handGrant_readmission (s : State) (i : Nat) : (s.handGrant i).readmission = s.readmission := by
  unfold State.handGrant
  repeat' split
  all_goals rfl
@[simp] theorem State.handGrant_recoveryTimer (s : State) (i : Nat) : (s.handGrant i).recoveryTimer = s.recoveryTimer := by
  unfold State.handGrant
  repeat' split
  all_goals rfl
@[simp] theorem State.handGrant_accounts (s : State) (i : Nat) : (s.handGrant i).accounts = s.accounts := by
  unfold State.handGrant
  repeat' split
  all_goals rfl
@[simp] theorem State.handGrant_band (s : State) (i : Nat) : (s.handGrant i).band = s.band := by
  unfold State.handGrant
  repeat' split
  all_goals rfl
@[simp] theorem State.handGrant_pairs (s : State) (i : Nat) : (s.handGrant i).pairs = s.pairs := by
  unfold State.handGrant
  repeat' split
  all_goals rfl
@[simp] theorem State.handGrant_season (s : State) (i : Nat) : (s.handGrant i).season = s.season := by
  unfold State.handGrant
  repeat' split
  all_goals rfl
@[simp] theorem State.handGrant_notices (s : State) (i : Nat) : (s.handGrant i).notices = s.notices := by
  unfold State.handGrant
  repeat' split
  all_goals rfl
@[simp] theorem State.handGrant_clearMode (s : State) (i : Nat) : (s.handGrant i).clearMode = s.clearMode := by
  unfold State.handGrant
  repeat' split
  all_goals rfl
@[simp] theorem State.handGrant_tickMs (s : State) (i : Nat) : (s.handGrant i).tickMs = s.tickMs := by
  unfold State.handGrant
  repeat' split
  all_goals rfl
@[simp] theorem State.handGrant_pending (s : State) (i : Nat) : (s.handGrant i).pending = s.pending := by
  unfold State.handGrant
  repeat' split
  all_goals rfl

@[simp] theorem State.modAccount_inReset (s : State) (n : Nat) (f : Account → Account) : (s.modAccount n f).inReset = s.inReset := by unfold State.modAccount; split <;> rfl
@[simp] theorem State.modAccount_maintEn (s : State) (n : Nat) (f : Account → Account) : (s.modAccount n f).maintEn = s.maintEn := by unfold State.modAccount; split <;> rfl
@[simp] theorem State.modAccount_portA (s : State) (n : Nat) (f : Account → Account) : (s.modAccount n f).portA = s.portA := by unfold State.modAccount; split <;> rfl
@[simp] theorem State.modAccount_portB (s : State) (n : Nat) (f : Account → Account) : (s.modAccount n f).portB = s.portB := by unfold State.modAccount; split <;> rfl
@[simp] theorem State.modAccount_slots (s : State) (n : Nat) (f : Account → Account) : (s.modAccount n f).slots = s.slots := by unfold State.modAccount; split <;> rfl
@[simp] theorem State.modAccount_pollCursor (s : State) (n : Nat) (f : Account → Account) : (s.modAccount n f).pollCursor = s.pollCursor := by unfold State.modAccount; split <;> rfl
@[simp] theorem State.modAccount_exchange (s : State) (n : Nat) (f : Account → Account) : (s.modAccount n f).exchange = s.exchange := by unfold State.modAccount; split <;> rfl
@[simp] theorem State.modAccount_replyMs (s : State) (n : Nat) (f : Account → Account) : (s.modAccount n f).replyMs = s.replyMs := by unfold State.modAccount; split <;> rfl
@[simp] theorem State.modAccount_afterPoll (s : State) (n : Nat) (f : Account → Account) : (s.modAccount n f).afterPoll = s.afterPoll := by unfold State.modAccount; split <;> rfl
@[simp] theorem State.modAccount_setpointQueue (s : State) (n : Nat) (f : Account → Account) : (s.modAccount n f).setpointQueue = s.setpointQueue := by unfold State.modAccount; split <;> rfl
@[simp] theorem State.modAccount_ltx (s : State) (n : Nat) (f : Account → Account) : (s.modAccount n f).ltx = s.ltx := by unfold State.modAccount; split <;> rfl
@[simp] theorem State.modAccount_channels (s : State) (n : Nat) (f : Account → Account) : (s.modAccount n f).channels = s.channels := by unfold State.modAccount; split <;> rfl
@[simp] theorem State.modAccount_grades (s : State) (n : Nat) (f : Account → Account) : (s.modAccount n f).grades = s.grades := by unfold State.modAccount; split <;> rfl
@[simp] theorem State.modAccount_windows (s : State) (n : Nat) (f : Account → Account) : (s.modAccount n f).windows = s.windows := by unfold State.modAccount; split <;> rfl
@[simp] theorem State.modAccount_plant (s : State) (n : Nat) (f : Account → Account) : (s.modAccount n f).plant = s.plant := by unfold State.modAccount; split <;> rfl
@[simp] theorem State.modAccount_passMs (s : State) (n : Nat) (f : Account → Account) : (s.modAccount n f).passMs = s.passMs := by unfold State.modAccount; split <;> rfl
@[simp] theorem State.modAccount_passLength (s : State) (n : Nat) (f : Account → Account) : (s.modAccount n f).passLength = s.passLength := by unfold State.modAccount; split <;> rfl
@[simp] theorem State.modAccount_pass (s : State) (n : Nat) (f : Account → Account) : (s.modAccount n f).pass = s.pass := by unfold State.modAccount; split <;> rfl
@[simp] theorem State.modAccount_passSeq (s : State) (n : Nat) (f : Account → Account) : (s.modAccount n f).passSeq = s.passSeq := by unfold State.modAccount; split <;> rfl
@[simp] theorem State.modAccount_balance (s : State) (n : Nat) (f : Account → Account) : (s.modAccount n f).balance = s.balance := by unfold State.modAccount; split <;> rfl
@[simp] theorem State.modAccount_stack (s : State) (n : Nat) (f : Account → Account) : (s.modAccount n f).stack = s.stack := by unfold State.modAccount; split <;> rfl
@[simp] theorem State.modAccount_readmission (s : State) (n : Nat) (f : Account → Account) : (s.modAccount n f).readmission = s.readmission := by unfold State.modAccount; split <;> rfl
@[simp] theorem State.modAccount_recoveryTimer (s : State) (n : Nat) (f : Account → Account) : (s.modAccount n f).recoveryTimer = s.recoveryTimer := by unfold State.modAccount; split <;> rfl
@[simp] theorem State.modAccount_band (s : State) (n : Nat) (f : Account → Account) : (s.modAccount n f).band = s.band := by unfold State.modAccount; split <;> rfl
@[simp] theorem State.modAccount_pairs (s : State) (n : Nat) (f : Account → Account) : (s.modAccount n f).pairs = s.pairs := by unfold State.modAccount; split <;> rfl
@[simp] theorem State.modAccount_season (s : State) (n : Nat) (f : Account → Account) : (s.modAccount n f).season = s.season := by unfold State.modAccount; split <;> rfl
@[simp] theorem State.modAccount_notices (s : State) (n : Nat) (f : Account → Account) : (s.modAccount n f).notices = s.notices := by unfold State.modAccount; split <;> rfl
@[simp] theorem State.modAccount_clearMode (s : State) (n : Nat) (f : Account → Account) : (s.modAccount n f).clearMode = s.clearMode := by unfold State.modAccount; split <;> rfl
@[simp] theorem State.modAccount_tickMs (s : State) (n : Nat) (f : Account → Account) : (s.modAccount n f).tickMs = s.tickMs := by unfold State.modAccount; split <;> rfl
@[simp] theorem State.modAccount_pending (s : State) (n : Nat) (f : Account → Account) : (s.modAccount n f).pending = s.pending := by unfold State.modAccount; split <;> rfl

end Sys2Proof.Machine
end

