-- ==== Sys2Proof/Laws/Ops.lean ====
section
/-! SUPPORT. For each shared operation, once, everything it does: what proofs cite instead of unfolding it. -/

namespace Sys2Proof.Machine

open Sys2Proof

/-! ### Tables -/

theorem modAt_getElem? {α : Type} {n : Nat} (v : Vector α n) (i j : Nat) (f : α → α) :
    (modAt v i f)[j]? = if i = j then v[j]?.map f else v[j]? := by
  unfold modAt
  cases h : v[i]? with
  | none => by_cases e : i = j <;> simp_all
  | some a =>
    rw [Vector.getElem?_setIfInBounds]
    by_cases e : i = j
    · subst e
      obtain ⟨hi, ha⟩ := Vector.getElem?_eq_some_iff.mp h
      simp [hi, ha]
    · simp [e]

theorem modAt_eq {α : Type} {n : Nat} (v : Vector α n) (i : Nat) (a : α) (f : α → α) (h : v[i]? = some a) :
    modAt v i f = v.setIfInBounds i (f a) := by simp [modAt, h]

/-- A record stands in one of the 24 slots. -/
theorem State.offtake_lt {s : State} {i : Nat} {o : Offtake} (h : s.offtake i = some o) : i < 24 := by
  unfold State.offtake at h
  by_contra hi
  rw [Vector.getElem?_eq_none (by omega)] at h
  cases h

theorem State.offtake_of_slots {s t : State} (h : t.slots = s.slots) (i : Nat) : t.offtake i = s.offtake i := by
  simp [State.offtake, h]

theorem State.offtake_putOfftake (s : State) (i j : Nat) (o : Option Offtake) :
    (s.putOfftake i o).offtake j = if i = j ∧ i < 24 then o else s.offtake j := by
  unfold State.offtake State.putOfftake
  simp only [Vector.getElem?_setIfInBounds]
  by_cases e : i = j
  · subst e
    by_cases hi : i < 24
    · simp [hi]
    · simp [hi]
  · simp [e]

theorem State.offtake_modOfftake (s : State) (i j : Nat) (f : Offtake → Offtake) :
    (s.modOfftake i f).offtake j = if i = j then (s.offtake j).map f else s.offtake j := by
  unfold State.modOfftake
  cases h : s.offtake i with
  | none => by_cases e : i = j <;> simp_all
  | some o =>
    have := State.offtake_lt h
    simp only [State.offtake_putOfftake]
    by_cases e : i = j <;> simp_all

/-- A record that is there is rewritten in place. -/
theorem State.modOfftake_eq {s : State} {i : Nat} {o : Offtake} (h : s.offtake i = some o) (f : Offtake → Offtake) :
    s.modOfftake i f = s.putOfftake i (some (f o)) := by simp [State.modOfftake, h]

theorem State.modOfftake_none {s : State} {i : Nat} (h : s.offtake i = none) (f : Offtake → Offtake) :
    s.modOfftake i f = s := by simp [State.modOfftake, h]

@[simp] theorem State.offtake_setPort (s : State) (p : PortId) (q : Port) (i : Nat) :
    (s.setPort p q).offtake i = s.offtake i := State.offtake_of_slots (by simp) i

@[simp] theorem State.offtake_raise (s : State) (k : NoticeKind) (n i : Nat) : (s.raise k n).offtake i = s.offtake i := rfl

@[simp] theorem State.offtake_dropEntry (s : State) (i j : Nat) : (s.dropEntry i).offtake j = s.offtake j := rfl

@[simp] theorem State.offtake_voidEntry (s : State) (i j : Nat) : (s.voidEntry i).offtake j = s.offtake j := rfl

@[simp] theorem State.offtake_unlist (s : State) (i j : Nat) : (s.unlist i).offtake j = s.offtake j := rfl

@[simp] theorem State.offtake_abandon (s : State) (i j : Nat) : (s.abandon i).offtake j = s.offtake j :=
  State.offtake_of_slots (by simp) j

@[simp] theorem State.offtake_dropPoll (s : State) (i j : Nat) : (s.dropPoll i).offtake j = s.offtake j :=
  State.offtake_of_slots (by simp) j

@[simp] theorem State.offtake_handGrant (s : State) (i j : Nat) : (s.handGrant i).offtake j = s.offtake j :=
  State.offtake_of_slots (by simp) j

@[simp] theorem State.offtake_appendTop (s : State) (i j : Nat) : (s.appendTop i).offtake j = s.offtake j :=
  State.offtake_of_slots (by simp) j

@[simp] theorem State.offtake_modAccount (s : State) (n : Nat) (f : Account → Account) (j : Nat) :
    (s.modAccount n f).offtake j = s.offtake j := State.offtake_of_slots (by simp) j

/-! ### Ports -/

@[simp] theorem State.port_setPort (s : State) (p p' : PortId) (q : Port) :
    (s.setPort p q).port p' = if p = p' then q else s.port p' := by cases p <;> cases p' <;> rfl

@[simp] theorem State.setPort_setPort (s : State) (p : PortId) (q q' : Port) :
    (s.setPort p q).setPort p q' = s.setPort p q' := by cases p <;> rfl

/-- A request that its port is to apply is answered in one event. -/
theorem applyRequest_taken {p : PortId} {r : Request} {f : State → Reply} {s : State} {q : Port}
    (hr : s.inReset = false) (hq : (s.port p).taking r = some q) :
    applyRequest p r f s = .next ((f s).state.setPort p (q.answered r.code (f s).result (f s).body)) := by
  simp [applyRequest, hr, hq]

/-- A request that its port is not to apply is discarded. -/
theorem applyRequest_discarded {p : PortId} {r : Request} {f : State → Reply} {s : State}
    (h : s.inReset = true ∨ (s.port p).taking r = none) : applyRequest p r f s = .next s := by
  unfold applyRequest
  by_cases hr : s.inReset = true
  · simp [hr]
  · rcases h with h | h
    · exact absurd h hr
    · simp [h]

theorem runEvent_running {f : State → State} {s : State} (h : s.inReset = false) : runEvent f s = .next (f s) := by
  simp [runEvent, h]

theorem runEvent_inReset {f : State → State} {s : State} (h : s.inReset = true) : runEvent f s = .next s := by
  simp [runEvent, h]

/-! ### Notices -/

theorem State.notice_def (s : State) (k : NoticeKind) : s.notices[k.code]? = some (s.notice k) := by
  cases k <;> simp [State.notice, NoticeKind.code]

theorem NoticeKind.code_inj {j k : NoticeKind} (h : j.code = k.code) : j = k := by
  cases j <;> cases k <;> first | rfl | exact absurd h (by decide)

/-- A raising rewrites the entry of its kind and no other. -/
theorem State.notice_raise (s : State) (k j : NoticeKind) (n : Nat) :
    (s.raise k n).notice j = if j = k then (s.notice j).raise n else s.notice j := by
  have h : (s.raise k n).notices[j.code]? = if k.code = j.code then (s.notices[j.code]?).map (NoticeEntry.raise n)
      else s.notices[j.code]? := modAt_getElem? _ _ _ _
  rw [State.notice_def, State.notice_def] at h
  by_cases e : j = k
  · subst e; simpa using h
  · have : k.code ≠ j.code := fun c => e (NoticeKind.code_inj c).symm
    simpa [e, this] using h

/-! ### Channels -/

theorem State.modChannel_eq {s : State} {c : Nat} {ch : Channel} (h : s.channels[c]? = some ch) (f : Channel → Channel) :
    s.modChannel c f = { s with channels := s.channels.setIfInBounds c (f ch) } := by simp [State.modChannel, modAt_eq _ _ _ _ h]

/-! ### Records leaving supply and the link -/

/-- What withdrawing a record leaves of it, and of every other record. -/
theorem State.offtake_withdraw (s : State) (i j : Nat) (st : Supply) :
    (s.withdraw i st).offtake j =
      if i = j then (s.offtake j).map fun o => { o.zeroGrant with supply := st } else s.offtake j := by
  simp [State.withdraw, State.offtake_modOfftake]

/-- Freeing empties the slot and no other. -/
theorem State.offtake_free (s : State) (i j : Nat) :
    (s.free i).offtake j = if i = j then none else s.offtake j := by
  unfold State.free
  cases h : s.offtake i with
  | none => by_cases e : i = j <;> simp_all
  | some o =>
    have hi := State.offtake_lt h
    have hb : (s.unbindCount o.account).offtake j = s.offtake j := by
      unfold State.unbindCount
      cases o.account <;> simp
    by_cases e : i = j <;> simp [State.offtake_putOfftake, e, hb]
    all_goals omega

/-- Leaving the link, entering QUIET and losing the link change no record but the slot's own. -/
theorem State.offtake_leaveLinked_ne (s : State) {i j : Nat} (h : i ≠ j) : (s.leaveLinked i).offtake j = s.offtake j := by
  unfold State.leaveLinked
  cases s.offtake i with
  | none => rfl
  | some o =>
    by_cases hs : o.supply = .active <;> by_cases hr : o.retiring <;>
      simp [hs, hr, State.offtake_free, State.offtake_modOfftake, State.offtake_withdraw, h]

theorem State.offtake_unlink_ne (s : State) {i j : Nat} (h : i ≠ j) : (s.unlink i).offtake j = s.offtake j := by
  unfold State.unlink
  cases s.offtake i with
  | none => rfl
  | some o => by_cases hl : o.linked <;> simp [hl, State.offtake_leaveLinked_ne s h]

theorem State.offtake_enterQuiet_ne (s : State) {i j : Nat} (h : i ≠ j) : (s.enterQuiet i).offtake j = s.offtake j := by
  simp [State.enterQuiet, State.offtake_modOfftake, h, State.offtake_unlink_ne s h]

/-! ### The setpoint queue -/

/-- Placing a close among the closes loses no entry and makes one. -/
theorem insertClose_perm (e : SetpointEntry) (q : List SetpointEntry) : (insertClose e q).Perm (e :: q) := by
  unfold insertClose
  refine List.perm_middle.trans ?_
  rw [List.takeWhile_append_dropWhile]

/-- A grant handed over moves or makes an entry of its own slot alone. -/
theorem queueAfterGrant_other (i g a : Nat) (q : List SetpointEntry) :
    (queueAfterGrant i g a q).filter (·.slot ≠ i) = q.filter (·.slot ≠ i) := by
  have key : ∀ (e : SetpointEntry) (l : List SetpointEntry), e.slot = i →
      (insertClose e l).filter (·.slot ≠ i) = l.filter (·.slot ≠ i) := by
    intro e l he
    unfold insertClose
    rw [List.filter_append, List.filter_cons_of_neg (by simp [he]), ← List.filter_append, List.takeWhile_append_dropWhile]
  unfold queueAfterGrant
  cases hf : q.find? (·.slot = i) with
  | none =>
    have k2 := key ⟨i, true, 0, false⟩ q rfl
    by_cases h1 : g = a
    · simp [h1]
    · by_cases h2 : g = 0
      · simp only [h2, if_true]
        split
        · rfl
        · exact k2
      · simp [h1, h2]
  | some e =>
    have hs : e.slot = i := by simpa using List.find?_some hf
    by_cases h : (!e.close && decide (g = 0)) = true
    · simp only [h, if_true]
      rw [key { e with close := true } _ hs]
      simp [List.filter_filter]
    · simp [h]

/-! ### Accounts -/

theorem State.accountEntry_spec {s : State} {n e : Nat} (h : s.accountEntry n = some e) :
    ∃ a, (s.accounts[e]?).join = some a ∧ a.number = n := by
  have := List.find?_some h
  simp only [Option.any_eq_true, decide_eq_true_eq] at this
  exact this

/-- Rewriting an account changes the entry that holds its number, if there is one, and nothing else. -/
theorem State.modAccount_eq {s : State} {n e : Nat} (h : s.accountEntry n = some e) (f : Account → Account) :
    s.modAccount n f = { s with accounts := modAt s.accounts e (Option.map f) } := by simp [State.modAccount, h]

/-! ### The class pass -/

/-- What the visits of a class pass give out and what they leave are the pool, as long as the running weight is that of
the candidates still to be visited. -/
theorem shareOut_total (cs : List Cand) :
    ∀ pool, ((shareOut pool (cs.map (·.weight)).sum cs).1.map (·.grant)).sum
      + (shareOut pool (cs.map (·.weight)).sum cs).2 = pool := by
  induction cs with
  | nil => intro pool; simp [shareOut]
  | cons c cs ih =>
    intro pool
    have hw : ((c :: cs).map (·.weight)).sum - c.weight = (cs.map (·.weight)).sum := by simp
    have hp : min c.call (pool * c.weight / ((c :: cs).map (·.weight)).sum) ≤ pool := by
      refine (min_le_right _ _).trans ?_
      refine Nat.div_le_of_le_mul ?_
      rw [Nat.mul_comm]
      exact Nat.mul_le_mul_right _ (by simp)
    unfold shareOut
    simp only [hw]
    split
    · simpa using ih pool
    · have := ih (pool - min c.call (pool * c.weight / ((c :: cs).map (·.weight)).sum))
      simp only [List.map_cons, List.sum_cons] at this ⊢ hp
      omega

end Sys2Proof.Machine
end

