-- ==== Sys2Proof/Laws/Exec.lean ====
section
/-! SUPPORT. `exec` in two equations: a request is applied by its port, any other command is one event of the part. -/

namespace Sys2Proof.Machine

open Sys2Proof

/-- What a request does on a port. -/
def replyOf (p : PortId) : Request → State → Reply
  | .createOfftake b => reqCreateOfftake p b
  | .amendOfftake b => reqAmendOfftake p b
  | .findOfftake t => reqFindOfftake t
  | .readOfftake i => reqReadOfftake i
  | .retireOfftake i t => reqRetireOfftake p i t
  | .renegotiate i t => reqRenegotiate p i t
  | .release i t => reqRelease p i t
  | .setChannel b => reqSetChannel p b
  | .readChannel c => reqReadChannel c
  | .setGrade b => reqSetGrade p b
  | .readGrade g => reqReadGrade g
  | .setWindow b => reqSetWindow p b
  | .clearWindow w => reqClearWindow p w
  | .readWindow w => reqReadWindow w
  | .setPlant b => reqSetPlant p b
  | .readPlant => reqReadPlant
  | .setCommitment v => reqSetCommitment p v
  | .readBalance => reqReadBalance
  | .pushCurtail level => reqPushCurtail p level
  | .popCurtail => reqPopCurtail p
  | .readCurtail => reqReadCurtail
  | .openAccount n k key => reqOpenAccount p n k key
  | .amendAccount n key => reqAmendAccount p n key
  | .readAccount n => reqReadAccount n
  | .retireAccount n => reqRetireAccount p n
  | .bindAccount i t n => reqBindAccount p i t n
  | .unbindAccount i t => reqUnbindAccount p i t
  | .setExportAccount n => reqSetExportAccount p n
  | .closePeriod n => reqClosePeriod p n
  | .takeStatement n => reqTakeStatement p n
  | .reprice n => reqReprice p n
  | .writeTariff b => reqWriteTariff p b
  | .invalidateTariff i => reqInvalidateTariff p i
  | .readTariff i => reqReadTariff i
  | .probeTariff m key => reqProbeTariff m key
  | .setSeason n => reqSetSeason p n
  | .setBand b => reqSetBand p b
  | .readNotices => reqReadNotices p
  | .clearNotice c => reqClearNotice p c
  | .setRouting port setMask clearMask => reqSetRouting p port setMask clearMask
  | .setNoticeMode m => reqSetNoticeMode p m
  | .restart => reqRestart p

/-- A request command is its request applied by its port. -/
theorem exec_request (p : PortId) (r : Request) (s : State) :
    exec (Instr.ofRequest p r) s = applyRequest p r (replyOf p r) s := by cases r <;> rfl

/-- A request that its port is to apply is answered in one event. -/
theorem exec_taken {p : PortId} {r : Request} {s : State} {q : Port} (hr : s.inReset = false)
    (hq : (s.port p).taking r = some q) :
    exec (Instr.ofRequest p r) s =
      .next ((replyOf p r s).state.setPort p (q.answered r.code (replyOf p r s).result (replyOf p r s).body)) :=
  (exec_request p r s).trans (applyRequest_taken hr hq)

/-- What a command that is neither a request nor a reset does in the running part. -/
def eventOf : Instr → Option (State → State)
  | .writeFrame p x => some fun s => s.setPort p ((s.port p).wroteFrame x)
  | .readAnswer p x => some fun s => s.setPort p ((s.port p).transacted x)
  | .sampleMessage bytes => some fun s => match readSample bytes with
    | some d => s.takeSample d
    | none => s
  | .ageExpiry c => some (·.ageExpiry c)
  | .staleTimerExpiry c => some (·.staleExpiry c)
  | .quietHoldExpiry i => some (·.quietExpiry i)
  | .silenceExpiry i => some (·.silenceExpiry i)
  | .poll => some State.beginPoll
  | .pollTimeout => some State.pollTimedOut
  | .advert m => some fun s => s.takeReply m.addr (readAdvert m) State.takeAdvert
  | .status m => some fun s => s.takeReply m.addr (readStatus m) State.takeStatus
  | .legacy m => some fun s => s.takeReply m.addr (readLegacy m) State.takeLegacy
  | .setpoint => some State.beginSetpoint
  | .setpointAck m => some (·.takeAck m)
  | .failedAttempt => some State.failAttempt
  | .meteringTick => some State.meteringTick
  | .cut i => some (·.cutSlot i)
  | .idleRelease i => some (·.idleSlot i)
  | .passBegin => some State.beginPass
  | .passCompletion => some State.completePass
  | .recoveryHoldExpiry => some State.recover
  | _ => none

/-- An event command is its event, in the running part. -/
theorem exec_event {c : Instr} {f : State → State} (h : eventOf c = some f) (s : State) : exec c s = runEvent f s := by
  cases c <;> first | (injection h with h; subst h; rfl) | exact absurd h (by simp [eventOf])

/-- Every command is a reset, the release of one, a request of a port, or an event. -/
theorem exec_cases (c : Instr) :
    c = .fullReset ∨ (∃ m n, c = .resetRelease m n) ∨ (∃ p r, c = Instr.ofRequest p r) ∨ ∃ f, eventOf c = some f := by
  cases c with
  | fullReset => exact .inl rfl
  | resetRelease m n => exact .inr (.inl ⟨m, n, rfl⟩)
  | createOfftake p b => exact .inr (.inr (.inl ⟨p, .createOfftake b, rfl⟩))
  | amendOfftake p b => exact .inr (.inr (.inl ⟨p, .amendOfftake b, rfl⟩))
  | findOfftake p t => exact .inr (.inr (.inl ⟨p, .findOfftake t, rfl⟩))
  | readOfftake p i => exact .inr (.inr (.inl ⟨p, .readOfftake i, rfl⟩))
  | retireOfftake p i t => exact .inr (.inr (.inl ⟨p, .retireOfftake i t, rfl⟩))
  | renegotiate p i t => exact .inr (.inr (.inl ⟨p, .renegotiate i t, rfl⟩))
  | release p i t => exact .inr (.inr (.inl ⟨p, .release i t, rfl⟩))
  | setChannel p b => exact .inr (.inr (.inl ⟨p, .setChannel b, rfl⟩))
  | readChannel p c => exact .inr (.inr (.inl ⟨p, .readChannel c, rfl⟩))
  | setGrade p b => exact .inr (.inr (.inl ⟨p, .setGrade b, rfl⟩))
  | readGrade p g => exact .inr (.inr (.inl ⟨p, .readGrade g, rfl⟩))
  | setWindow p b => exact .inr (.inr (.inl ⟨p, .setWindow b, rfl⟩))
  | clearWindow p w => exact .inr (.inr (.inl ⟨p, .clearWindow w, rfl⟩))
  | readWindow p w => exact .inr (.inr (.inl ⟨p, .readWindow w, rfl⟩))
  | setPlant p b => exact .inr (.inr (.inl ⟨p, .setPlant b, rfl⟩))
  | readPlant p => exact .inr (.inr (.inl ⟨p, .readPlant, rfl⟩))
  | setCommitment p v => exact .inr (.inr (.inl ⟨p, .setCommitment v, rfl⟩))
  | readBalance p => exact .inr (.inr (.inl ⟨p, .readBalance, rfl⟩))
  | pushCurtail p l => exact .inr (.inr (.inl ⟨p, .pushCurtail l, rfl⟩))
  | popCurtail p => exact .inr (.inr (.inl ⟨p, .popCurtail, rfl⟩))
  | readCurtail p => exact .inr (.inr (.inl ⟨p, .readCurtail, rfl⟩))
  | openAccount p n k t => exact .inr (.inr (.inl ⟨p, .openAccount n k t, rfl⟩))
  | amendAccount p n t => exact .inr (.inr (.inl ⟨p, .amendAccount n t, rfl⟩))
  | readAccount p n => exact .inr (.inr (.inl ⟨p, .readAccount n, rfl⟩))
  | retireAccount p n => exact .inr (.inr (.inl ⟨p, .retireAccount n, rfl⟩))
  | bindAccount p i t n => exact .inr (.inr (.inl ⟨p, .bindAccount i t n, rfl⟩))
  | unbindAccount p i t => exact .inr (.inr (.inl ⟨p, .unbindAccount i t, rfl⟩))
  | setExportAccount p n => exact .inr (.inr (.inl ⟨p, .setExportAccount n, rfl⟩))
  | closePeriod p n => exact .inr (.inr (.inl ⟨p, .closePeriod n, rfl⟩))
  | takeStatement p n => exact .inr (.inr (.inl ⟨p, .takeStatement n, rfl⟩))
  | reprice p n => exact .inr (.inr (.inl ⟨p, .reprice n, rfl⟩))
  | writeTariff p b => exact .inr (.inr (.inl ⟨p, .writeTariff b, rfl⟩))
  | invalidateTariff p t => exact .inr (.inr (.inl ⟨p, .invalidateTariff t, rfl⟩))
  | readTariff p t => exact .inr (.inr (.inl ⟨p, .readTariff t, rfl⟩))
  | probeTariff p m k => exact .inr (.inr (.inl ⟨p, .probeTariff m k, rfl⟩))
  | setSeason p n => exact .inr (.inr (.inl ⟨p, .setSeason n, rfl⟩))
  | setBand p b => exact .inr (.inr (.inl ⟨p, .setBand b, rfl⟩))
  | readNotices p => exact .inr (.inr (.inl ⟨p, .readNotices, rfl⟩))
  | clearNotice p k => exact .inr (.inr (.inl ⟨p, .clearNotice k, rfl⟩))
  | setRouting p q a c => exact .inr (.inr (.inl ⟨p, .setRouting q a c, rfl⟩))
  | setNoticeMode p m => exact .inr (.inr (.inl ⟨p, .setNoticeMode m, rfl⟩))
  | restart p => exact .inr (.inr (.inl ⟨p, .restart, rfl⟩))
  | writeFrame p x => exact .inr (.inr (.inr ⟨_, rfl⟩))
  | readAnswer p x => exact .inr (.inr (.inr ⟨_, rfl⟩))
  | sampleMessage b => exact .inr (.inr (.inr ⟨_, rfl⟩))
  | ageExpiry c => exact .inr (.inr (.inr ⟨_, rfl⟩))
  | staleTimerExpiry c => exact .inr (.inr (.inr ⟨_, rfl⟩))
  | quietHoldExpiry i => exact .inr (.inr (.inr ⟨_, rfl⟩))
  | silenceExpiry i => exact .inr (.inr (.inr ⟨_, rfl⟩))
  | poll => exact .inr (.inr (.inr ⟨_, rfl⟩))
  | pollTimeout => exact .inr (.inr (.inr ⟨_, rfl⟩))
  | advert m => exact .inr (.inr (.inr ⟨_, rfl⟩))
  | status m => exact .inr (.inr (.inr ⟨_, rfl⟩))
  | legacy m => exact .inr (.inr (.inr ⟨_, rfl⟩))
  | setpoint => exact .inr (.inr (.inr ⟨_, rfl⟩))
  | setpointAck m => exact .inr (.inr (.inr ⟨_, rfl⟩))
  | failedAttempt => exact .inr (.inr (.inr ⟨_, rfl⟩))
  | meteringTick => exact .inr (.inr (.inr ⟨_, rfl⟩))
  | cut i => exact .inr (.inr (.inr ⟨_, rfl⟩))
  | idleRelease i => exact .inr (.inr (.inr ⟨_, rfl⟩))
  | passBegin => exact .inr (.inr (.inr ⟨_, rfl⟩))
  | passCompletion => exact .inr (.inr (.inr ⟨_, rfl⟩))
  | recoveryHoldExpiry => exact .inr (.inr (.inr ⟨_, rfl⟩))

/-- What every event and every request keeps, and a full reset and its release, every command keeps. -/
theorem exec_keeps {P : State → Prop} (hreset : ∀ s, P s → P s.intoReset)
    (hrelease : ∀ (s : State) m n, P s → P { State.released m n with pending := s.pending })
    (hrequest : ∀ p r (s : State) q, s.inReset = false → (s.port p).taking r = some q → P s →
      P ((replyOf p r s).state.setPort p (q.answered r.code (replyOf p r s).result (replyOf p r s).body)))
    (hevent : ∀ c f s, eventOf c = some f → s.inReset = false → P s → P (f s))
    (c : Instr) (s t : State) (hs : P s) (h : exec c s = .next t) : P t := by
  rcases exec_cases c with rfl | ⟨m, n, rfl⟩ | ⟨p, r, rfl⟩ | ⟨f, hf⟩
  · cases h; exact hreset s hs
  · cases h; exact hrelease s m n hs
  · rw [exec_request] at h
    cases hr : s.inReset with
    | true => rw [applyRequest_discarded (.inl hr)] at h; cases h; exact hs
    | false =>
      cases hq : (s.port p).taking r with
      | none => rw [applyRequest_discarded (.inr hq)] at h; cases h; exact hs
      | some q => rw [applyRequest_taken hr hq] at h; cases h; exact hrequest p r s q hr hq hs
  · rw [exec_event hf] at h
    cases hr : s.inReset with
    | true => rw [runEvent_inReset hr] at h; cases h; exact hs
    | false => rw [runEvent_running hr] at h; cases h; exact hevent c f s hf hr hs

/-- What every command keeps, the passing of a millisecond and the taking of a command, every step keeps. -/
theorem step_keeps {P : State → Prop} (hexec : ∀ c s t, P s → exec c s = .next t → P t)
    (helapse : ∀ s, P s → P s.elapse) (htake : ∀ s rest, P s → P { s with pending := rest })
    (s t : State) (hs : P s) (h : step s = .next t) : P t := by
  unfold step at h
  split at h
  · exact hexec _ _ _ (htake _ _ hs) h
  · unfold idleStep at h
    repeat' split at h
    · cases h; exact hs
    · exact hexec _ _ _ hs h
    · cases h; exact helapse s hs

end Sys2Proof.Machine
end

