-- ==== Sys2Proof/Laws/Frames.lean ====
section
/-! SUPPORT. The frame of each shared operation, said once: `X_frame` is the state after `X` as the state before with
only the fields that `X` may write; and what the operations on a link leave of the record itself. -/

open Sys2Proof

namespace Sys2Proof.Machine

theorem State.modOfftake_frame (s : State) (i : Nat) (f : Offtake → Offtake) :
    s.modOfftake i f = { s with slots := (s.modOfftake i f).slots } := by
  unfold State.modOfftake; split <;> rfl
theorem State.handGrant_frame (s : State) (i : Nat) :
    s.handGrant i = { s with setpointQueue := (s.handGrant i).setpointQueue } := by
  unfold State.handGrant; repeat' split
  all_goals rfl
theorem State.withdraw_frame (s : State) (i : Nat) (st : Supply) :
    s.withdraw i st = { s with
      slots := (s.withdraw i st).slots
      setpointQueue := (s.withdraw i st).setpointQueue
      pass := (s.withdraw i st).pass } := by
  ext1 <;> simp [State.withdraw]
theorem State.unbindCount_frame (s : State) (n : Option Nat) :
    s.unbindCount n = { s with accounts := (s.unbindCount n).accounts } := by
  unfold State.unbindCount; split
  · unfold State.modAccount; split <;> rfl
  · rfl
theorem State.free_frame (s : State) (i : Nat) :
    s.free i = { s with
      slots := (s.free i).slots
      setpointQueue := (s.free i).setpointQueue
      exchange := (s.free i).exchange
      pass := (s.free i).pass
      accounts := (s.free i).accounts } := by
  unfold State.free
  split
  · rename_i o _
    rw [State.unbindCount_frame]
    ext1 <;> simp
  · rfl
theorem State.free_notices (s : State) (i : Nat) : (s.free i).notices = s.notices :=
  (congrArg State.notices (State.free_frame s i) :)
theorem State.leaveLinked_frame (s : State) (i : Nat) :
    s.leaveLinked i = { s with
      slots := (s.leaveLinked i).slots
      setpointQueue := (s.leaveLinked i).setpointQueue
      exchange := (s.leaveLinked i).exchange
      pass := (s.leaveLinked i).pass
      accounts := (s.leaveLinked i).accounts } := by
  unfold State.leaveLinked
  split
  · rename_i o _
    by_cases hs : o.supply = .active <;> by_cases hr : o.retiring <;> simp only [hs, hr, if_true, if_false]
    · rw [State.free_frame, State.withdraw_frame]; ext1 <;> simp
    · rw [State.withdraw_frame]; ext1 <;> simp
    · rw [State.free_frame]; ext1 <;> simp
    · ext1 <;> simp
  · rfl

theorem State.unlink_frame (s : State) (i : Nat) :
    s.unlink i = { s with
      slots := (s.unlink i).slots
      setpointQueue := (s.unlink i).setpointQueue
      exchange := (s.unlink i).exchange
      pass := (s.unlink i).pass
      accounts := (s.unlink i).accounts } := by
  unfold State.unlink
  repeat' split
  · exact State.leaveLinked_frame _ _
  · rfl
  · rfl
theorem State.enterQuiet_frame (s : State) (i : Nat) :
    s.enterQuiet i = { s with
      slots := (s.enterQuiet i).slots
      setpointQueue := (s.enterQuiet i).setpointQueue
      exchange := (s.enterQuiet i).exchange
      pass := (s.enterQuiet i).pass
      accounts := (s.enterQuiet i).accounts } := by
  unfold State.enterQuiet
  rw [State.unlink_frame]
  ext1 <;> simp
theorem State.enterQuiet_notices (s : State) (i : Nat) : (s.enterQuiet i).notices = s.notices :=
  (congrArg State.notices (State.enterQuiet_frame s i) :)
theorem State.joinSupply_frame (s : State) (i : Nat) :
    s.joinSupply i = { s with slots := (s.joinSupply i).slots, stack := (s.joinSupply i).stack } := by
  unfold State.joinSupply
  repeat' split
  all_goals first | rfl | (ext1 <;> simp)
theorem State.cutRecord_frame (s : State) (i : Nat) :
    s.cutRecord i = { s with
      slots := (s.cutRecord i).slots
      setpointQueue := (s.cutRecord i).setpointQueue
      pass := (s.cutRecord i).pass
      stack := (s.cutRecord i).stack
      readmission := (s.cutRecord i).readmission
      notices := (s.cutRecord i).notices } := by
  unfold State.cutRecord
  rw [State.withdraw_frame]
  ext1 <;> simp
theorem State.releaseIdle_frame (s : State) (i : Nat) :
    s.releaseIdle i = { s with
      slots := (s.releaseIdle i).slots
      setpointQueue := (s.releaseIdle i).setpointQueue
      exchange := (s.releaseIdle i).exchange
      pass := (s.releaseIdle i).pass
      accounts := (s.releaseIdle i).accounts
      notices := (s.releaseIdle i).notices } := by
  unfold State.releaseIdle
  split
  · rename_i o _
    by_cases hr : o.retiring <;> by_cases hl : s.plant.lockoutLimit ≤ o.overdrawCount + 1 <;>
      simp only [hr, hl, if_true, decide_true, decide_false]
    · exact (State.free_frame s i).trans (by ext1 <;> simp [State.free_notices])
    · exact (State.free_frame s i).trans (by ext1 <;> simp [State.free_notices])
    · exact (State.enterQuiet_frame _ _).trans (by ext1 <;> simp [State.enterQuiet_notices])
    · exact (State.enterQuiet_frame _ _).trans (by ext1 <;> simp [State.enterQuiet_notices])
  · rfl
theorem State.shedEach_frame (is : List Nat) : ∀ s : State,
    (s.shedEach is).1 = { s with
      slots := (s.shedEach is).1.slots
      setpointQueue := (s.shedEach is).1.setpointQueue
      pass := (s.shedEach is).1.pass } := by
  induction is with
  | nil => intro s; rfl
  | cons i is ih =>
    intro s
    unfold State.shedEach
    split
    · simp only
      rw [ih, State.shed, State.withdraw_frame]
    · exact ih s
theorem State.push_frame (s : State) (level : Nat) (o : Origin) (c : Cause) (lead : List Nat) :
    s.push level o c lead = { s with
      slots := (s.push level o c lead).slots
      setpointQueue := (s.push level o c lead).setpointQueue
      pass := (s.push level o c lead).pass
      stack := (s.push level o c lead).stack
      readmission := (s.push level o c lead).readmission
      recoveryTimer := 0
      notices := (s.raise .curtailUp level).notices } := by
  unfold State.push
  simp only
  rw [State.shedEach_frame, State.shedEach_frame]
  ext1 <;> simp [State.raise]
theorem State.pop_frame (s : State) :
    s.pop = { s with
      stack := s.pop.stack
      readmission := s.pop.readmission
      recoveryTimer := s.pop.recoveryTimer
      notices := s.pop.notices } := by
  unfold State.pop
  split <;> rfl
theorem State.readmitFrom_frame (q : List Nat) : ∀ s : State,
    s.readmitFrom q = { s with
      slots := (s.readmitFrom q).slots
      stack := (s.readmitFrom q).stack
      readmission := (s.readmitFrom q).readmission } := by
  induction q with
  | nil => intro s; rfl
  | cons i q ih =>
    intro s
    unfold State.readmitFrom
    split
    · rw [State.modOfftake_frame]
    · rw [ih]; ext1 <;> simp

/-! ### The slot's own record -/
theorem State.withdraw_self {s : State} {i : Nat} {o : Offtake} (h : s.offtake i = some o) (st : Supply) :
    (s.withdraw i st).offtake i = some { o.zeroGrant with supply := st } := by
  simp [State.offtake_withdraw, h]
theorem State.unlink_linked {s : State} {i : Nat} {o : Offtake} (h : s.offtake i = some o) (hl : o.linked = true) :
    s.unlink i = s.leaveLinked i := by simp [State.unlink, h, hl]
theorem State.unlink_unlinked {s : State} {i : Nat} {o : Offtake} (h : s.offtake i = some o) (hl : o.linked = false) :
    s.unlink i = s := by simp [State.unlink, h, hl]
/-- What leaving BOUND or LEGACY_BOUND leaves of a record that is not retiring (R29). -/
theorem State.leaveLinked_self {s : State} {i : Nat} {o : Offtake} (h : s.offtake i = some o) (hr : o.retiring = false) :
    (s.leaveLinked i).offtake i = some { o with
      ackGrant := 0
      legacy := if o.link = .legacyBound then false else o.legacy
      supply := if o.supply = .active then .held else o.supply
      grant := if o.supply = .active then 0 else o.grant
      split := if o.supply = .active then o.split.map fun _ => ⟨0, 0, 0⟩ else o.split } := by
  unfold State.leaveLinked
  rw [h]
  by_cases hs : o.supply = .active <;> simp [hs, hr, State.offtake_modOfftake, State.withdraw_self h, h, Offtake.zeroGrant]
theorem State.leaveLinked_retiring {s : State} {i : Nat} {o : Offtake} (h : s.offtake i = some o) (hr : o.retiring = true) :
    (s.leaveLinked i).offtake i = none := by
  unfold State.leaveLinked
  rw [h]
  simp [hr, State.offtake_free]
end Sys2Proof.Machine
end

