-- ==== Sys2Proof/Laws/Safety.lean ====
section
/-! SUPPORT. The checks of a request read one by one: a verdict is a chain of choices, and so is the result of a reply
that is chosen. -/

open Sys2Proof

namespace Sys2Proof.Machine

@[simp] theorem firstFailing_nil : firstFailing [] = .ok := rfl
@[simp] theorem firstFailing_cons (fails : Bool) (r : Result) (rest : List (Bool × Result)) :
    firstFailing ((fails, r) :: rest) = if fails then r else firstFailing rest := rfl

theorem Reply.result_ite (c : Prop) [Decidable c] (a b : Reply) :
    (if c then a else b).result = if c then a.result else b.result := by split <;> rfl

@[simp] theorem State.refuse_result (s : State) (r : Result) : (s.refuse r).result = r := rfl
@[simp] theorem State.accept_result (s : State) : s.accept.result = .ok := rfl

/-- No check of the list fails exactly when the request is accepted, if no check answers OK. -/
theorem firstFailing_eq_ok {l : List (Bool × Result)} (h : ∀ c ∈ l, c.2 ≠ .ok) :
    firstFailing l = .ok ↔ ∀ c ∈ l, c.1 = false := by
  induction l with
  | nil => simp
  | cons c rest ih =>
    obtain ⟨fails, r⟩ := c
    have hr : r ≠ .ok := h (fails, r) (by simp)
    cases fails
    · simpa using ih fun c hc => h c (by simp [hc])
    · simp [hr]

/-- A mode byte is a set of modes of the class exactly when it is not bad (R3). -/
theorem validModes_eq (c : OffClass) (b : Byte) : validModes c b = !modesBad c b := by
  cases c <;> revert b <;> decide +kernel

end Sys2Proof.Machine
end

