-- ==== Sys2Proof/Tests/Slice0.lean ====
section
/-! SUPPORT. Tests. First the smoke tests of WellFormed and the wire, then the worked examples of the spec, each on a
small state and with the figures the spec gives; last, for every statement with hypotheses, the states and operands
that meet them (`test_meets_…`). -/

namespace Sys2Proof.Tests

open Sys2Proof Sys2Proof.Machine

/-! ### Small states -/

/-- What a command leaves. -/
def after (c : Instr) (s : State) : State :=
  match exec c s with
  | .next t => t
  | .fault _ => s
  | .refused _ => s

/-- What a list of commands leaves. -/
def run (cs : List Instr) (s : State) : State := cs.foldl (fun s c => after c s) s

/-- The answers a port holds, as results. -/
def results (s : State) (p : PortId) : List Result := (s.port p).answers.map (·.result)

/-- The result of the request last answered on a port. -/
def lastResult (s : State) (p : PortId) : Option Result := (results s p).getLast?

def figures : OfftakeFigures where
  cls := 0
  addr := 9
  modes := 0x0D#8
  rating := 90000
  grade := 0
  minFiring := 40000
  maxFiring := 150000
  prio := 1
  weight := 12
  eff := 880
  bind1 := 40
  bind2 := 41
  bind3 := 0

/-- A channel in NORMAL that reads `v`. -/
def reading (k : ChannelKind) (v : Int) : Channel :=
  { Channel.reset with
    kind := k
    value := v
    activity := if k.isFlow then (if v = 0 then some .idle else some .flowing) else none
    condition := .normal }

/-- A BOUND boiler in supply that calls for `call`. -/
def boiler (tag : Tag) (addr prio weight : Nat) (m : Mode) (min call eff : Nat) : Offtake where
  tag := tag
  cls := .boiler
  addr := addr
  permitted := 0x0F#6
  rating := 90000
  grade := some .tg
  minFiring := min
  maxFiring := 1000000
  prio := prio
  weight := weight
  eff := some eff
  account := none
  retiring := false
  bind1 := 40
  bind2 := 41
  bind3 := none
  link := .bound
  mode := some m
  advert := some ⟨0x0F#6, true, 1000000⟩
  call := call
  ackGrant := 0
  grant := 0
  split := if m = .blend then some ⟨0, 0, 0⟩ else none
  delivered := 0
  overdrawTimer := 0
  idleTimer := 0
  overdrawCount := 0
  noMode := false
  absent := false
  legacy := false
  trip := false
  estimated := false
  supply := .active
  quietMs := 4000
  silenceMs := 0
  confirmCount := 3
  legacyRun := 0

/-- A BOUND substation in supply that calls for `call`. -/
def station (tag : Tag) (addr prio weight min call : Nat) : Offtake :=
  { boiler tag addr prio weight .heatMod min call 0 with
    cls := .heatSub
    permitted := 0x30#6
    grade := none
    eff := none
    bind1 := 42
    bind2 := 43
    bind3 := some 44
    advert := some ⟨0x30#6, true, 1000000⟩ }

def withRecords (s : State) (rs : List (Nat × Offtake)) : State := rs.foldl (fun s r => s.putOfftake r.1 (some r.2)) s

def withChannels (s : State) (cs : List (Nat × Channel)) : State := cs.foldl (fun s c => s.withChannel c.1 c.2) s

/-! ### Well-formedness: each check refuses a term -/

theorem test_wf_figure_too_wide : (Instr.readOfftake .portA 256).wf = false := by decide
theorem test_wf_figure_fits : (Instr.readOfftake .portA 255).wf = true := by decide
theorem test_wf_rating_too_wide : (Instr.createOfftake .portA ⟨0x0A2210#24, { figures with rating := 4294967296 }⟩).wf = false := by
  decide
theorem test_wf_amend_slot : (Instr.amendOfftake .portA ⟨300, 1#24, 2#16, figures⟩).wf = false := by decide
theorem test_wf_amend : (Instr.amendOfftake .portA ⟨3, 1#24, 2#16, figures⟩).wf = true := by decide
theorem test_wf_channel_offset : (Instr.setChannel .portA ⟨1, 1, 1, 2147483648, 0, 0, 0, 0⟩).wf = false := by decide
theorem test_wf_channel_lowest : (Instr.setChannel .portA ⟨1, 1, 1, -2147483648, 0, 0, 0, 0⟩).wf = true := by decide
theorem test_wf_grade_channel_255 : (Instr.setGrade .portA ⟨0, 0, 0, 0, 0, 0, some 255, none, 0, 0, 0, 0, 0⟩).wf = false := by
  decide
theorem test_wf_grade_gain : (Instr.setGrade .portA ⟨0, 0, 0, 0, 0, 0, none, none, 0, 0, 0, 32768, 0⟩).wf = false := by
  decide
theorem test_wf_window_reserve : (Instr.setWindow .portA ⟨0, 0, 0, 0, -2147483649⟩).wf = false := by decide
theorem test_wf_plant_limit :
    (Instr.setPlant .portA ⟨2, 60, 50, 2000, 90, 256, 330, 600, 4190, 0, none, none, none, none, none, 0⟩).wf = false := by
  decide
theorem test_wf_price_absent_code : (Instr.writeTariff .portB ⟨0, 0, 0, 0, 0, true, some 4294967295, none⟩).wf = false := by
  decide
theorem test_wf_export_account_0 : (Instr.setExportAccount .portB (some 0)).wf = false := by decide
theorem test_wf_export_account_none : (Instr.setExportAccount .portB none).wf = true := by decide
theorem test_wf_commitment : (Instr.setCommitment .portA 2147483648).wf = false := by decide
theorem test_wf_channel_48 : (Instr.ageExpiry 48).wf = false := by decide
theorem test_wf_slot_24 : (Instr.cut 24).wf = false := by decide
theorem test_wf_frame_of_nine : (Frame.mk 1 (List.replicate 9 .readPlant)).wf = false := by decide
theorem test_wf_frame_empty : (Frame.mk 1 []).wf = false := by decide
theorem test_wf_frame_restart_with_another : (Frame.mk 1 [.restart, .readPlant]).wf = false := by decide
theorem test_wf_read_with_the_write_code : (Instr.readAnswer .portA ⟨0x10#8, false, 0⟩).wf = false := by decide
theorem test_wf_reply_in_another_row : (Instr.advert (writeStatus 9#8 ⟨0, false⟩)).wf = false := by decide
theorem test_wf_reply_of_no_row : (Instr.advert ⟨9#8, 0x77#8, [], 0#16⟩).wf = true := by decide
theorem test_wf_frame_restart : (Frame.mk 255 [.restart]).wf = true := by decide

/-! ### The wire (section 11.4) -/

/-- The catalogued check values of the two CRCs, for the bytes "123456789". -/
def nineDigits : List Byte := [0x31#8, 0x32#8, 0x33#8, 0x34#8, 0x35#8, 0x36#8, 0x37#8, 0x38#8, 0x39#8]

theorem test_crc16 : crc16 nineDigits = 0x29B1#16 := by decide +kernel
theorem test_crc8 : crc8 nineDigits = 0xF4#8 := by decide +kernel

/-- A frame with READ_OFFTAKE 3, written out: length 9, tag 7, one request of kind 0x04 with one byte. -/
def readFrameBytes : List Byte := [0x00#8, 0x09#8, 0x07#8, 0x01#8, 0x04#8, 0x01#8, 0x03#8]

theorem test_frame_read : (readFrame (sealed readFrameBytes)) = some ⟨7, [.readOfftake 3]⟩ := by decide +kernel
theorem test_frame_written : (Frame.mk 7 [.readOfftake 3]).bytes = sealed readFrameBytes := by decide +kernel
theorem test_frame_bad_check : readFrame (readFrameBytes ++ [0#8, 0#8]) = none := by decide +kernel

/-- R196: a count of 0, a request missing, a byte left over, an unknown kind, a body of another length, and RESTART with
another request, each in a frame whose length and check are right. -/
theorem test_frame_malformed :
    [[0x00#8, 0x06#8, 0x07#8, 0x00#8], [0x00#8, 0x09#8, 0x07#8, 0x02#8, 0x04#8, 0x01#8, 0x03#8],
      [0x00#8, 0x0A#8, 0x07#8, 0x01#8, 0x04#8, 0x01#8, 0x03#8, 0x00#8], [0x00#8, 0x08#8, 0x07#8, 0x01#8, 0x0A#8, 0x00#8],
      [0x00#8, 0x0A#8, 0x07#8, 0x01#8, 0x04#8, 0x02#8, 0x03#8, 0x03#8],
      [0x00#8, 0x0A#8, 0x07#8, 0x02#8, 0x7F#8, 0x00#8, 0x23#8, 0x00#8]].map (fun bytes => readFrame (sealed bytes)) =
      List.replicate 6 none := by decide +kernel

/-- 0x45: channel 5 with status bits 1 (OVERRANGE), raw reading −2. -/
theorem test_sample_read : readSample [0x45#8, 0xFF#8, 0xFE#8, crc8 [0x45#8, 0xFF#8, 0xFE#8]] = some ⟨5, .overrange, -2⟩ := by
  decide +kernel
theorem test_advert_read :
    readAdvert (.closed .advert 9#8 [0x4E#8, 0x00#8, 0x02#8, 0x22#8, 0xE0#8]) = some ⟨0x0E#6, true, 140000⟩ := by
  decide +kernel
/-- R211: a message of a type that is not listed is no reply, though its check passes. -/
theorem test_type_not_listed : readAdvert ⟨9#8, 0x85#8, [0x4E#8, 0x00#8, 0x02#8, 0x22#8, 0xE0#8],
    crc16 [9#8, 0x85#8, 0x4E#8, 0x00#8, 0x02#8, 0x22#8, 0xE0#8]⟩ = none := by decide +kernel
theorem test_no_word_spells_a_command : decodeTableWord 8 0 = none := by decide

/-! ### Ports and reset (chapter 11) -/

/-- The part idle, with nothing configured but two channels. -/
def idle : State := withChannels State.reset [(40, reading .gasFlow 9600), (41, reading .cv 3300)]

/-- The boiler of section 2.10, created in slot 3, VACANT slots 0 to 2 being filled first. -/
def enrolled : State := run [.createOfftake .portA ⟨0x0A2210#24, figures⟩] idle

theorem test_create_answers_slot : lastResult enrolled .portA = some .ok
    ∧ enrolled.portA.answers.map (·.body) = [.slotNumber 0] := by decide +kernel

theorem test_created_is_quiet_and_held :
    (enrolled.offtake 0).map (fun o => (o.link, o.supply, o.mode, o.minFiring, o.eff)) =
      some (.quiet, .held, none, 40000, some 880) := by decide +kernel

/-- A frame of two reads, taken in IDLE. -/
theorem test_frame_taken :
    let s := after (.writeFrame .portA ⟨false, (Frame.mk 9 [.readPlant, .readBalance]).bytes⟩) idle
    s.portA.status = .executing ∧ s.portA.seqTag = 9 ∧ s.portA.remaining = [.readPlant, .readBalance] := by
  decide +kernel

/-- Section 11's frame with a refusal, as the port holds it once taken: the second channel, the tag refused, the two
requests behind it cancelled. -/
def working : State :=
  enrolled.setPort .portA { Port.reset with
    status := .executing
    count := 4
    remaining := [.setChannel ⟨41, 2, 1, 0, 0, 0, 0, 0⟩, .createOfftake ⟨0x0A2210#24, figures⟩, .setCommitment 95000,
      .pushCurtail 2] }

theorem test_frame_with_a_refusal :
    let s := run [.setChannel .portA ⟨41, 2, 1, 0, 0, 0, 0, 0⟩, .createOfftake .portA ⟨0x0A2210#24, figures⟩] working
    results s .portA = [.ok, .duplicateTag, .cancelled, .cancelled] ∧ s.portA.status = .answerReady
      ∧ s.plant.commitment = 0 ∧ s.level = 0 ∧ s.condition 41 = .stale := by decide +kernel

theorem test_answer_read_then_discarded :
    let s := after (.readAnswer .portA ⟨0x20#8, false, 2⟩) enrolled
    s.portA.status = .idle ∧ s.portA.answers = [] ∧ s.portA.miso = [0x02#8, 0x00#8, 0x0C#8] := by decide +kernel

/-- R195: a transaction that began while the frame was worked through shows EXECUTING; any other code shows the state
byte alone, and the answer stands. -/
theorem test_state_byte_at_the_start :
    (after (.readAnswer .portA ⟨0x20#8, true, 0⟩) enrolled).portA.miso = [0x01#8]
      ∧ (let s := after (.readAnswer .portA ⟨0x77#8, false, 5⟩) enrolled
         s.portA.miso = [0x02#8] ∧ s.portA.status = .answerReady ∧ s.portA.answers = enrolled.portA.answers) := by
  decide +kernel

theorem test_malformed_frame : (after (.writeFrame .portB ⟨false, [1#8, 2#8, 0x55#8]⟩) idle).portB.malformed = true
    ∧ (after (.writeFrame .portB ⟨false, [1#8, 2#8, 0x55#8]⟩) idle).portB.status = .answerReady := by decide +kernel

theorem test_reset_stops_everything : exec .meteringTick (after .fullReset enrolled) = .next (after .fullReset enrolled)
    ∧ (run [.fullReset, .resetRelease false true] enrolled).clearMode = .checked
    ∧ (run [.fullReset, .resetRelease false true] enrolled).offtake 0 = none := by
  refine ⟨rfl, ?_, ?_⟩ <;> decide +kernel

theorem test_no_right_without_maintain :
    lastResult (after (.restart .portA) { idle with maintEn := false }) .portA = some .noRight := by decide +kernel

/-! ### Enrollment (section 2.10): Each line of the worked example is one event -/

def advertMsg (ack : Bool) : LinkMsg := writeAdvert 9#8 ⟨0x0E#6, ack, 140000⟩

/-- The curtailment stack holds an AUTO context at level 2; the boiler is in LISTEN and is polled. -/
def polled : State :=
  run [.quietHoldExpiry 0, .poll] { enrolled with stack := [⟨2, .auto, .gas, []⟩] }

theorem test_quiet_hold_then_poll :
    (polled.offtake 0).map (·.link) = some .listen ∧ polled.exchange = some (.poll 0 9 false)
      ∧ polled.ltx.take 3 = [9#8, 0x01#8, 0x8D#8] := by decide +kernel

/-- After the ADVERT of 4.15 s: CONFIRM with LEAN resolved. -/
def confirming : State := after (.advert (advertMsg false)) polled

theorem test_advert_resolves_lean :
    (confirming.offtake 0).map (fun o => (o.link, o.mode, o.confirmCount)) = some (.confirm, some .lean, 0) := by
  decide +kernel

/-- After the third matching ADVERT: BOUND and ACTIVE, since level 2 admits class 1. -/
def bound : State :=
  run [.poll, .advert (advertMsg true), .poll, .pollTimeout, .poll, .advert (advertMsg true), .poll,
    .advert (advertMsg true)] confirming

theorem test_third_advert_binds :
    (bound.offtake 0).map (fun o => (o.link, o.mode, o.confirmCount, o.supply, o.limits)) =
      some (.bound, some .lean, 3, .active, (40000, 140000)) := by decide +kernel

theorem test_bound_above_the_ceiling_is_shed :
    let s := run [.poll, .advert (advertMsg true), .poll, .advert (advertMsg true), .poll, .advert (advertMsg true)]
      { confirming with stack := [⟨4, .auto, .gas, []⟩] }
    (s.offtake 0).map (·.supply) = some .shed ∧ s.stack = [⟨4, .auto, .gas, [0]⟩] := by decide +kernel

theorem test_status_gives_the_call :
    let s := run [.poll, .status (writeStatus 9#8 ⟨120000, false⟩)] bound
    (s.offtake 0).map (fun o => (o.call, o.effCall)) = some (120000, 120000) := by decide +kernel

theorem test_renegotiate_goes_to_quiet :
    let s := run [.readAnswer .portA ⟨0x20#8, false, 0⟩, .renegotiate .portA 0 0x0A2210#24] bound
    (s.offtake 0).map (fun o => (o.link, o.mode, o.supply, o.call)) = some (.quiet, none, .held, 0) := by decide +kernel

/-- R35: three LEGACY replies bind a boiler that is served at its declared rating. -/
theorem test_legacy_binds :
    let m := writeLegacy 9#8 ⟨100000, false⟩
    let s := run [.legacy m, .poll, .legacy m, .poll, .legacy m] polled
    (s.offtake 0).map (fun o => (o.link, o.mode, o.legacy, o.effCall)) =
      some (.legacyBound, some .fixed, true, 90000) := by decide +kernel

theorem test_silence : ((after (.silenceExpiry 0) bound).offtake 0).map (·.link) = some .quiet
    ∧ ((after (.silenceExpiry 0) bound).notice .linkDown).pendingA = true
    ∧ ((after (.silenceExpiry 0) polled).offtake 0).map (·.absent) = some true := by decide +kernel

theorem test_amend_address_quiets :
    let s := run [.readAnswer .portA ⟨0x20#8, false, 0⟩, .amendOfftake .portA ⟨0, 0x0A2210#24, 2#16, { figures with addr := 10 }⟩] bound
    (s.offtake 0).map (fun o => (o.addr, o.link, o.minFiring)) = some (10, .quiet, 40000) := by decide +kernel

/-! ### Setpoint delivery (sections 1.7 and 3.3) -/

/-- Slots 2, 5, 7 and 12 with grants unlike their acknowledged grants, and slot 5's close. -/
def queued (slot grant ack : Nat) : Nat × Offtake :=
  (slot, { boiler (BitVec.ofNat 24 (slot + 1)) (slot + 1) 1 1 .lean 0 0 880 with grant := grant, ackGrant := ack })

def delivering : State :=
  { withRecords idle [queued 2 60000 50000, queued 5 0 40000, queued 7 30000 30000, queued 12 20000 0] with
    afterPoll := true
    setpointQueue := [⟨5, true, 0, false⟩, ⟨2, false, 0, false⟩, ⟨12, false, 0, false⟩] }

/-- The shed of slot 7 makes a close directly behind slot 5's. -/
theorem test_shed_makes_a_close_behind_the_closes :
    (delivering.shed 7).setpointQueue = [⟨5, true, 0, false⟩, ⟨7, true, 0, false⟩, ⟨2, false, 0, false⟩, ⟨12, false, 0, false⟩] := by
  decide +kernel

theorem test_setpoint_then_acknowledged :
    let s := run [.setpoint, .setpointAck (writeAck 6#8 0)] delivering
    s.setpointQueue = [⟨2, false, 0, false⟩, ⟨12, false, 0, false⟩] ∧ (s.offtake 5).map (·.ackGrant) = some 0
      ∧ s.exchange = none := by decide +kernel

theorem test_third_failure_loses_the_link :
    let s := run [.setpoint, .failedAttempt]
      { delivering with setpointQueue := [⟨5, true, 2, false⟩, ⟨2, false, 0, false⟩] }
    s.setpointQueue = [⟨2, false, 0, false⟩] ∧ (s.offtake 5).map (·.link) = some .quiet
      ∧ (s.notice .linkDown).subject = 5 := by decide +kernel

/-- Section 1.7's retirement: RETIRING with a close, then freed by the acknowledgement, the account's count 1 to 0. -/
def account212 : Account := { newAccount 212 .gasSale 0 with boundCount := 1 }

def retiringState : State :=
  { (withRecords idle [(5, { boiler 0x31A00C#24 17 1 1 .lean 0 85000 880 with
      grant := 85000, ackGrant := 85000,
        account := some 212 })]).withAccount 4 (some account212) with afterPoll := true }

theorem test_retire_waits_for_a_close :
    let s := after (.retireOfftake .portA 5 0x31A00C#24) retiringState
    (s.offtake 5).map (fun o => (o.supply, o.retiring, o.grant, o.ackGrant)) = some (.held, true, 0, 85000)
      ∧ s.setpointQueue = [⟨5, true, 0, false⟩] ∧ s.portA.answers.map (·.body) = [.outcome true]
      ∧ (s.account 212).map (·.boundCount) = some 1 := by decide +kernel

theorem test_acknowledged_close_frees :
    let s := run [.retireOfftake .portA 5 0x31A00C#24, .meteringTick, .setpoint,
      .setpointAck (writeAck 17#8 0)] retiringState
    s.offtake 5 = none ∧ s.setpointQueue = [] ∧ (s.account 212).map (·.boundCount) = some 0 := by decide +kernel

/-! ### Metering and the draw monitor (sections 3.6 and 4.5) -/

/-- Section 4's conversions: WATER_FLOW with span 40,000 and TEMP with span 2,000. -/
def converting : State :=
  run [.setChannel .portA ⟨30, 4, 40000, 0, 500, 200, 0, 0⟩, .readAnswer .portA ⟨0x20#8, false, 0⟩,
    .setChannel .portA ⟨31, 3, 2000, 0, 0, 0, 0, 0⟩] idle

def sample (channel : Nat) (status : FrontEnd) (raw : Int) : Instr := .sampleMessage (writeSample ⟨channel, status, raw⟩)

theorem test_conversions :
    ((after (sample 30 .good 5120) converting).channels[30]?).map (·.value) = some 12500
      ∧ ((after (sample 31 .good 7782) converting).channels[31]?).map (·.value) = some 949
      ∧ ((after (sample 30 .good (-1)) converting).channels[30]?).map (·.value) = some (-2)
      ∧ ((after (sample 30 .overrange 32767) converting).channels[30]?).map (fun c => (c.value, c.overrange)) =
        some (79997, true) := by decide +kernel

theorem test_powers : heatPower 12500 4190 949 600 = 50774 ∧ gasPower 9600 3300 = 88000 := by decide +kernel

/-- Section 4's reversed meter: the eighth sample sets the flag, the ninth is negated. -/
def reversedMeter (n : Nat) : Option Channel :=
  (run (.setChannel .portA ⟨31, 4, 40000, 0, 200, 100, 1, 0⟩ :: List.replicate n (sample 31 .good (-2000))) idle).channels[31]?

theorem test_reversed_at_the_eighth :
    (reversedMeter 7).map (fun c => (c.reversed, c.value, c.negativeRun)) = some (false, -4882, 7)
      ∧ (reversedMeter 8).map (fun c => (c.reversed, c.value, c.negativeRun)) = some (true, -4882, 0)
      ∧ (reversedMeter 9).map (fun c => (c.value, c.effective)) = some (4882, 4882) := by decide +kernel

/-- Section 4's silent meter: STALE at its age, FAILED at its stale timer, its substitute then. -/
theorem test_silent_meter :
    let s := withChannels idle [(20, { reading .gasFlow 9600 with substitute := 8000, goodRun := 3 })]
    let t := after (.ageExpiry 20) s
    let u := after (.staleTimerExpiry 20) t
    (t.channels[20]?).map (fun c => (c.condition, c.effective, c.goodRun)) = some (.stale, 9600, 0)
      ∧ (t.notice .meterStale).subject = 20
      ∧ (u.channels[20]?).map (fun c => (c.condition, c.effective)) = some (.failed, 8000)
      ∧ (u.notice .meterFailed).count = 1 := by decide +kernel

/-- Section 3.6's boiler at slot 14, its overdraw limit 20 s, acknowledged 50,000 and drawing 78,000 kW: timer at 19. -/
def overdrawing (timer : Nat) : State :=
  let s := withChannels (withRecords idle [(14, { boiler 7#24 7 1 1 .lean 0 80000 880 with
    grant := 50000, ackGrant := 50000, overdrawTimer := timer, overdrawCount := 2 })])
    [(40, reading .gasFlow 7800), (41, reading .cv 3600)]
  { s with plant := { s.plant with overdrawLimit := 20 } }

theorem test_overdraw_threshold : Plant.reset.drawThreshold 80000 = 86000
      ∧ Plant.reset.drawThreshold 50000 = 54500 := by
  decide +kernel

theorem test_overdraw_cuts_at_the_limit :
    ((after .meteringTick (overdrawing 18)).offtake 14).map (fun o => (o.supply, o.overdrawTimer)) = some (.active, 19)
      ∧ ((after .meteringTick (overdrawing 19)).offtake 14).map (fun o => (o.supply, o.grant, o.overdrawTimer,
        o.delivered)) =
        some (.cut, 0, 0, 78000)
      ∧ (after .meteringTick (overdrawing 19)).setpointQueue = [⟨14, true, 0, false⟩]
      ∧ ((after .meteringTick (overdrawing 19)).notice .cut).subject = 14 := by decide +kernel

/-- A CUT record at idle timer 9 whose flow has stopped: the tenth tick is its idle release, the third,
    which locks it out. -/
def cutIdle : State :=
  withChannels (withRecords idle [(14, { boiler 7#24 7 1 1 .lean 0 80000 880 with
    supply := .cut, idleTimer := 9, overdrawCount := 2 })]) [(40, reading .gasFlow 0)]

theorem test_idle_release_locks_out :
    ((after .meteringTick cutIdle).offtake 14).map (fun o => (o.supply, o.overdrawCount, o.idleTimer, o.link)) =
      some (.lockout, 3, 0, .quiet)
      ∧ ((after .meteringTick cutIdle).notice .lockout).subject = 14
      ∧ ((run [.meteringTick, .release .portA 14 7#24] cutIdle).offtake 14).map (fun o => (o.supply, o.overdrawCount)) =
        some (.held, 0) := by decide +kernel

theorem test_cut_and_idle_release_commands :
    ((after (.cut 14) (overdrawing 3)).offtake 14).map (·.supply) = some .cut
      ∧ ((after (.idleRelease 14) { cutIdle with plant := { Plant.reset with lockoutLimit := 4 } }).offtake 14).map
        (fun o => (o.supply, o.overdrawCount)) = some (.held, 3) := by decide +kernel

/-! ### Grades and windows (chapter 5) -/

/-- The grades of section 5's worked example: TG with two windows. -/
def grades0 : PerGrade GradeRecord :=
  ⟨⟨[2, 3], some 10, some 12, 300, 400, 700, 500, 40000, 50, false, .reset⟩,
    ⟨[4], some 11, none, 0, 0, 0, 0, 0, 0, false, .reset⟩,
    ⟨[5], some 11, some 13, 200, 500, 900, 100, 30000, 0, false, .reset⟩⟩

def gradeChannels (flow2 flow3 cv10 level12 : Int) : List (Nat × Channel) :=
  [(2, reading .gasFlow flow2), (3, reading .gasFlow flow3), (10, reading .cv cv10), (12, reading .level level12),
    (4, reading .gasFlow 3600), (11, reading .cv 17500), (5, reading .gasFlow 0), (13, reading .level 700)]

def works (flow2 flow3 cv10 level12 : Int) : State :=
  { withChannels State.reset (gradeChannels flow2 flow3 cv10 level12) with
    grades := grades0
    windows := #v[⟨true, .tg, 0x0A2200#24, 0xFFFF00#24, 30⟩, ⟨true, .tg, 0x400000#24, 0xF00000#24, 20⟩, .reset,
      .reset] }

def works0 : State := works 24000 18000 3300 380

theorem test_grade_figures :
    works0.gradeView .tg = ⟨385000, -10000, 375000, false⟩ ∧ works0.gradeView .og = ⟨175000, 0, 175000, false⟩
      ∧ works0.gradeView .vg = ⟨0, 20000, 20000, false⟩ := by decide +kernel

theorem test_grade_in_reserve : (works 22000 14000 3250 340).gradeView .tg = ⟨324999, -30000, 294999, true⟩
    ∧ ((after .passBegin (works 22000 14000 3250 340)).notice .reserve).count = 1
    ∧ (after .passBegin (works 22000 14000 3250 340)).grades.tg.inReserve = true := by decide +kernel

theorem test_window_covers : (works0.windows[0]).covers 0x0A2210#24 = true
      ∧ (works0.windows[0]).covers 0x31A00C#24 = false := by
  decide +kernel

/-- SET_WINDOW 2 for TG with a reserve. -/
def setWindow2 (reserve : Int) : Instr := .setWindow .portA ⟨2, 0, 0x0B0000#24, 0xFF0000#24, reserve⟩

theorem test_reserve_limit :
    lastResult (after (setWindow2 260) works0) .portA = some .reserveLimit
      ∧ lastResult (after (setWindow2 250) works0) .portA = some .ok
      ∧ (after (setWindow2 250) works0).grades.tg.reserveTotal = 300
      ∧ (run [setWindow2 250, .readAnswer .portA ⟨0x20#8, false, 0⟩, .clearWindow .portA 2] works0).grades.tg.reserveTotal = 50 := by
  decide +kernel

/-- SET_GRADE TG with its high level lowered to 650. -/
def setGrade650 : Instr := .setGrade .portA ⟨0, 2, 2, 3, 0, 0, some 10, some 12, 300, 400, 650, 500, 40000⟩

theorem test_set_grade_judges_the_limit :
    lastResult (run [setWindow2 250, .readAnswer .portA ⟨0x20#8, false, 0⟩, setGrade650] works0) .portA = some .reserveLimit
      ∧ lastResult (after setGrade650 works0) .portA = some .ok ∧ (after setGrade650 works0).grades.tg.high = 650 := by
  decide +kernel

/-! ### One pass (chapters 6 and 7) -/

/-- The works of chapters 6 to 8: six boilers, two substations, the recovery loop, EXPORT_FIRST,
    a commitment of 90,000. -/
def town : State :=
  let s := withChannels works0 [(20, reading .waterFlow 8000), (21, reading .temp 950), (22, reading .temp 600),
    (23, reading .power 60000)]
  let s := withRecords s [(1, boiler 1#24 1 0 10 .lean 60000 200000 880), (2,
    boiler 2#24 2 1 10 .lean 50000 150000 880),
    (4, boiler 3#24 3 1 20 .blend 40000 180000 900), (7, boiler 4#24 4 2 5 .rich 30000 120000 850),
    (8, boiler 6#24 6 2 15 .rich 20000 60000 850), (9, boiler 5#24 5 3 5 .blend 50000 100000 850),
    (12, station 7#24 7 0 10 20000 120000), (13, station 8#24 8 1 8 10000 40000)]
  { s with plant := { s.plant with
      policy := .exportFirst
      commitment := 90000
      houseLoad := some 23
      loopFlow := some 20
      loopSupply := some 21
      loopReturn := some 22 } }

def townResult : PassResult := town.view.result

theorem test_gas_stages :
    townResult.grades = ⟨⟨385000, -10000, 375000, 375000, 0⟩, ⟨175000, 0, 175000, 165000, 10000⟩, ⟨0, 20000, 20000, 20000, 0⟩⟩
      ∧ townResult.splitOf 4 = ⟨20000, 25000, 135000⟩ ∧ townResult.shed = [⟨7, 2, false⟩, ⟨9, 3, false⟩, ⟨13, 1, true⟩]
      ∧ observedLevel townResult.shed = 3 ∧ causeOf townResult.shed = .gasAndHeat := by decide +kernel

theorem test_heat_stages :
    townResult.balance = ⟨495500, 32588, 297300, 40954, 73542, 73542, 40954, 150000, 60000, 90000, 90000, 0, .exportFirst, 0⟩ := by
  decide +kernel

theorem test_class_pass_with_shortage :
    classPass 40000 [⟨7, 120000, 30000, 5⟩, ⟨8, 60000, 20000, 15⟩] = ([⟨8, 30000, false⟩, ⟨7, 0, true⟩], 10000) := by
  decide

/-- The first completion: grants in the records, B6 swept by the AUTO context at level 3,
    closes and setpoints queued. -/
def completed : State := run [.passBegin, .passCompletion] town

theorem test_completion_writes_grants :
    (completed.offtake 1).map (·.grant) = some 200000
      ∧ (completed.offtake 4).map (fun o => (o.grant, o.split)) = some (180000, some ⟨20000, 25000, 135000⟩)
      ∧ (completed.offtake 12).map (·.grant) = some 73542
      ∧ (completed.offtake 8).map (fun o => (o.supply, o.grant)) = some (.shed, 0)
      ∧ completed.passSeq = 1 ∧ completed.pass = none := by decide +kernel

theorem test_completion_pushes_level_3 :
    completed.stack = [⟨3, .auto, .gasAndHeat, [7, 9, 13, 8]⟩] ∧ completed.recoveryTimer = 0
      ∧ (completed.notice .curtailUp).subject = 3
      ∧ completed.setpointQueue.map (·.slot) = [8, 1, 2, 4, 12] := by decide +kernel

/-- The next pass, under forced HEAT_FIRST, is short by 23,746 kW. -/
theorem test_forced_heat_first_is_short :
    let s := run [.passBegin, .passCompletion] completed
    s.balance.extractionCap = 282000 ∧ s.balance.exportCeiling = 66254 ∧ s.balance.shortfall = 23746
      ∧ s.balance.policy = .heatFirst ∧ (s.notice .exportShort).subject = 23746 ∧ s.recoveryTimer = 2
      ∧ (s.offtake 12).map (·.grant) = some 120000 := by decide +kernel

/-- Events in flight: slot 2 cut and slot 9's link lost void their entries; B4 and H2 are left in the shed set. -/
theorem test_void_entries_are_skipped :
    let s := run [.passBegin, .cut 2, .silenceExpiry 9, .passCompletion] town
    (s.offtake 2).map (fun o => (o.supply, o.grant)) = some (.cut, 0) ∧ (s.offtake 9).map (·.supply) = some .held
      ∧ s.stack.map (fun c => (c.level, c.cause)) = [(3, .gasAndHeat)] ∧ s.grades.tg.last.granted = 375000 := by
  decide +kernel

/-- Section 6's grade in reserve: slot 5 is left out, the blend record skips TG. -/
theorem test_reserve_leaves_out_unmatched_records :
    let s := withRecords (works 22000 14000 3250 340) [(3, boiler 0x0A2210#24 1 0 12 .lean 40000 100000 880),
      (5, boiler 0x31A00C#24 2 0 10 .lean 30000 90000 880), (10, boiler 0x0A2233#24 3 1 10 .blend 40000 210000 880)]
    let r := s.view.result
    r.grades.tg.unallocated = 194999 ∧ r.splitOf 10 = ⟨20000, 0, 175000⟩ ∧ grantIn r.shares 3 = 100000
      ∧ grantIn r.shares 5 = 0 ∧ r.shed = [] := by decide +kernel

/-! ### Curtailment (section 8's sequence) -/

/-- The MANUAL push to level 4 over level 3, and its pop. -/
def pushed : State := after (.pushCurtail .portA 4) { completed with recoveryTimer := 6 }

theorem test_push_sweeps :
    pushed.stack = [⟨4, .manual, .operator, [2, 4]⟩, ⟨3, .auto, .gasAndHeat, [7, 9, 13, 8]⟩] ∧ pushed.recoveryTimer = 0
      ∧ (pushed.notice .curtailUp).subject = 4
      ∧ (pushed.offtake 2).map (fun o => (o.supply, o.grant)) = some (.shed, 0) := by
  decide +kernel

def popped : State := run [.readAnswer .portA ⟨0x20#8, false, 0⟩, .popCurtail .portA] pushed

theorem test_pop_queues_and_pass_readmits :
    popped.stack = completed.stack ∧ popped.readmission = [2, 4] ∧ (popped.notice .curtailDown).subject = 3
      ∧ (after .passBegin popped).readmission = [4]
      ∧ ((after .passBegin popped).offtake 2).map (·.supply) = some .active := by
  decide +kernel

theorem test_recovery_pops_sorted :
    let s := after .recoveryHoldExpiry { completed with recoveryTimer := 60 }
    s.stack = [] ∧ s.readmission = [13, 7, 8, 9] ∧ s.recoveryTimer = 0 ∧ (s.notice .curtailDown).count = 1 := by
  decide +kernel

theorem test_auto_top_is_not_popped_by_request :
    lastResult (after (.popCurtail .portA) completed) .portA = some .notManual := by decide +kernel

/-! ### Accounts and tariffs (chapters 9 and 10) -/

def pair3 : TariffPair := ⟨true, .heat, 0x120#12, 0xFF0#12, 0, true, some 41500, some 28000⟩
def pair7 : TariffPair := ⟨true, .heat, 0x125#12, 0xFFF#12, 4, false, some 39000, none⟩

def account305 : Account :=
  { newAccount 305 .heatSale 0x125#12 with
    boundCount := 1
    period := 6
    primary := ⟨1000, 41500000, 0⟩
    residue := 2500 }

/-- The substation of slot 12, at what it was granted. -/
def billed : Offtake :=
  { station 7#24 7 0 10 0 0 with
    account := some 305
    ackGrant := 80000
    grant := 80000 }

/-- Account 305, pair 3, and the substation, which draws about 73,000 kW. -/
def billing : State :=
  let s := withChannels (withRecords State.reset [(12, billed)])
    [(42, reading .waterFlow 36000), (43, reading .temp 1000), (44, reading .temp 826)]
  { (s.withAccount 3 (some account305)).withPair 3 pair3 with season := 5, plant := { s.plant with cp := 4195 } }

theorem test_tick_carries_and_charges :
    ((after .meteringTick billing).offtake 12).map (·.delivered) = some 72993
      ∧ ((billing.carry 305 73000).account 305).map (fun a => (a.residue, a.primary)) = some (3500, ⟨1020, 42330000, 0⟩)
      ∧ (((billing.carry 305 73000).carry 305 73000).account 305).map (fun a => (a.residue, a.primary)) =
        some (900, ⟨1041, 43201500, 0⟩) := by decide +kernel

/-- Account 305 before the carry that misses. -/
def before305 : Account :=
  { account305 with
    residue := 1900
    primary := ⟨1041, 43201500, 0⟩
    secondary := ⟨20, 560000, 0⟩ }

/-- The carry after INVALIDATE_TARIFF 3, in the SECONDARY band: unpriced, with its notice on both ports. -/
def missed : State :=
  ((run [.setBand .portB 1, .readAnswer .portB ⟨0x20#8, false, 0⟩, .invalidateTariff .portB 3] billing).withAccount 3
    (some before305)).carry 305 73000

theorem test_miss_counts_unpriced :
    (missed.account 305).map (fun a => (a.residue, a.secondary, a.flags.unpriced)) = some (2900, ⟨40, 560000, 20⟩, true)
      ∧ (missed.notice .tariffMiss).subject = 305 ∧ alertLine missed .portA = true
      ∧ alertLine missed .portB = true := by
  decide +kernel

/-- REPRICE once the pair is written again, then the period's close and its statement. -/
def repriced : State :=
  run [.readAnswer .portB ⟨0x20#8, false, 0⟩, .writeTariff .portB ⟨3, 1, 0x120, 0xFF0, 0, true, some 41500, some 28000⟩,
    .readAnswer .portB ⟨0x20#8, false, 0⟩,
    .reprice .portB 305] missed

theorem test_reprice :
    (repriced.account 305).map (fun a => (a.secondary, a.flags.unpriced)) = some (⟨40, 1120000, 0⟩, false)
      ∧ lastResult (run [.readAnswer .portB ⟨0x20#8, false, 0⟩, .reprice .portB 305] missed) .portB = some .noTariff := by decide +kernel

theorem test_close_and_take :
    let s := run [.readAnswer .portB ⟨0x20#8, false, 0⟩, .closePeriod .portB 305] repriced
    (s.account 305).map (fun a => (a.period, a.residue, a.secondary, a.statement)) =
        some (7, 2900, ⟨0, 0, 0⟩, some ⟨6, ⟨1041, 43201500, 0⟩, ⟨40, 1120000, 0⟩, none, none, ⟨false, false, false, false⟩⟩)
      ∧ lastResult (run [.readAnswer .portB ⟨0x20#8, false, 0⟩, .closePeriod .portB 305] s) .portB = some .statementPending
      ∧ ((run [.readAnswer .portB ⟨0x20#8, false, 0⟩, .takeStatement .portB 305] s).account 305).map (·.statement) = some none := by
  decide +kernel

/-- R160: a statement holds the deviation counters of an EXPORT account only: 2 + 34 + 4 bytes, and 10 more. -/
theorem test_statement_bytes :
    (putStatement ⟨6, ⟨1, 2, 3⟩, ⟨4, 5, 6⟩, none, none, ⟨false, false, false, false⟩⟩).length = 40
      ∧ (putStatement ⟨6, ⟨1, 2, 3⟩, ⟨4, 5, 6⟩, some 7, some 8, ⟨false, false, false, false⟩⟩).length = 50 := by decide +kernel

/-- Section 9's export account over its first and its fourth tick. -/
def exporting (x : Int) (residue shortfallResidue : Nat) : State :=
  let s := withChannels State.reset [(25, reading .power x)]
  { (s.withAccount 0 (some { newAccount 900 .exportKind 1#12 with
      boundCount := 1, residue := residue, shortfallResidue := some shortfallResidue })).withPair 0
      ⟨true, .exportMedium, 1#12, 0xFFF#12, 0, true, some 52000, none⟩ with
    plant := { s.plant with exportChannel := some 25, exportAccount := some 900, commitment := 90000 } }

def exportAfter (x : Int) (residue shortfallResidue : Nat) : Option Account :=
  (after .meteringTick (exporting x residue shortfallResidue)).account 900

theorem test_export_shortfall :
    (exportAfter 80000 0 0).map (·.residue) = some 800 ∧ (exportAfter 80000 0 0).map (·.primary) = some ⟨22, 1144000, 0⟩
      ∧ (exportAfter 80000 0 0).map (·.shortfall) = some (some 1)
      ∧ (exportAfter 80000 0 0).map (·.shortfallResidue) = some (some 1400) := by decide +kernel

theorem test_export_surplus :
    (exportAfter 97000 3200 2800).map (·.residue) = some 3000
      ∧ (exportAfter 97000 3200 2800).map (·.primary) = some ⟨27, 1404000, 0⟩
      ∧ (exportAfter 97000 3200 2800).map (·.shortfallResidue) = some (some 2800)
      ∧ (exportAfter 97000 3200 2800).map (·.surplusResidue) = some (some 2000) := by decide +kernel

/-- Section 10's overlap: pair 3 shadows pair 7 in season 4, pair 2 shadows pair 3. -/
def tariffs : State := { ((State.reset.withPair 3 pair3).withPair 7 pair7) with season := 4 }

theorem test_probe_overlap :
    (tariffs.probe .heat 0x125#12).matched = [3, 7] ∧ tariffs.lookup .heat 0x125#12 .primary = ⟨some 41500, true⟩
      ∧ tariffs.lookup .heat 0x12A#12 .secondary = ⟨some 28000, false⟩ := by decide +kernel

theorem test_shadowing_pair :
    let s := run [.writeTariff .portB ⟨2, 1, 0x125, 0xFFF, 4, false, some 39000, none⟩, .readAnswer .portB ⟨0x20#8, false, 0⟩,
      .invalidateTariff .portB 7] tariffs
    s.lookup .heat 0x125#12 .primary = ⟨some 39000, true⟩ ∧ s.lookup .heat 0x125#12 .secondary = ⟨none, true⟩
      ∧ (run [.readAnswer .portB ⟨0x20#8, false, 0⟩, .setSeason .portB 5] s).lookup .heat 0x125#12 .primary = ⟨some 41500, false⟩ := by
  decide +kernel

/-- Opening, binding and retiring an account. -/
theorem test_account_requests :
    lastResult (after (.openAccount .portB 305 0 1) billing) .portB = some .duplicateAccount
      ∧ lastResult (after (.retireAccount .portB 305) billing) .portB = some .accountInUse
      ∧ ((after (.unbindAccount .portB 12 7#24) billing).account 305).map (·.boundCount) = some 0
      ∧ ((run [.openAccount .portB 306 0 1, .readAnswer .portB ⟨0x20#8, false, 0⟩,
        .bindAccount .portB 12 7#24 306] billing).account 306).map
        (·.boundCount) = some 1 := by decide +kernel

/-! ### Notices (section 11's notice on two ports) -/

/-- CHECKED mode, the notice of account 305's misses pending on both ports. -/
def noticed : State := { missed with clearMode := .checked }

theorem test_checked_clear_is_refused_while_standing :
    lastResult (run [.readAnswer .portB ⟨0x20#8, false, 0⟩, .clearNotice .portB 11] noticed) .portB = some .stillStanding := by
  decide +kernel

theorem test_notice_cleared_on_one_port :
    let s := run [.readAnswer .portB ⟨0x20#8, false, 0⟩, .clearNotice .portB 11] { repriced with clearMode := .checked }
    (s.notice .tariffMiss).pendingA = true ∧ (s.notice .tariffMiss).pendingB = false ∧ alertLine s .portB = false
      ∧ s.noticesFor .portA = [⟨.tariffMiss, 305, 1, false⟩]
      ∧ (run [.readAnswer .portA ⟨0x20#8, false, 0⟩, .clearNotice .portA 11] s).notice .tariffMiss = ⟨false, false, 0, 0, true, true⟩ := by
  decide +kernel

theorem test_routing : let s := after (.setRouting .portA 1 1#16 0x800#16) noticed
    (s.notice .noMode).routeB = true ∧ (s.notice .tariffMiss).pendingB = false
      ∧ (s.notice .tariffMiss).pendingA = true := by
  decide +kernel

theorem test_restart :
    let s := run [.readAnswer .portA ⟨0x20#8, false, 0⟩, .restart .portA] completed
    s.stack = [] ∧ s.setpointQueue = []
      ∧ (s.offtake 1).map (fun o => (o.supply, o.link, o.grant)) = some (.held, .quiet, 0)
      ∧ s.passSeq = 0 ∧ s.grades.tg.low = 300 := by decide +kernel

/-! ### The step and the clock -/

theorem test_front_command_first :
    let c : Instr := .readPlant .portA
    step { idle with pending := [c, .meteringTick] } = exec c { idle with pending := [.meteringTick] } := rfl

theorem test_due_events :
    { idle with tickMs := 1000 }.due = some .meteringTick ∧ { idle with passMs := 2000 }.due = some .passBegin
      ∧ idle.due = none := by decide +kernel

theorem test_one_millisecond : idle.elapse.tickMs = 1 ∧ (idle.elapse.channels[40]?).map (·.ageMs) = some 1 := by
  decide +kernel

/-! ### The hypotheses of the statements are met

`test_meets_X` shows, for the statement `Obligations.X`, states and operands that meet the hypotheses of each of its
clauses. -/

/-- An IDLE port as it takes a request by itself. -/
def one (q : Port) : Port :=
  { q with
    status := .executing
    seqTag := 0
    count := 1
    malformed := false
    remaining := []
    answers := []
    settled := .executing }

/-- An IDLE port of the running part takes any request. -/
theorem takes_one {s : State} {p : PortId} (h : (!s.inReset && decide ((s.port p).status = .idle)) = true) (r : Request) :
    s.takes p r (one (s.port p)) := by
  simp only [Bool.and_eq_true, Bool.not_eq_true', decide_eq_true_eq] at h
  exact ⟨h.1, by simp [Port.taking, h.2, one]⟩

/-- What every slot of a state passes, every record of it has. -/
theorem every_slot {s : State} {f : Nat → Offtake → Bool}
    (h : (List.range 24).all (fun i => (s.offtake i).all (f i)) = true) (i : Nat) (o : Offtake) (ho : s.offtake i = some o) :
    f i o = true := by
  have := List.all_eq_true.mp h i (List.mem_range.mpr (State.offtake_lt ho))
  simpa [ho] using this

/-- What every entry of a state passes, every account of it has. -/
theorem every_entry {s : State} {f : Nat → Account → Bool}
    (h : (List.range 32).all (fun e => (s.accountAt e).all (f e)) = true) (e : Nat) (a : Account)
    (ha : s.accountAt e = some a) : f e a = true := by
  have he : e < 32 := by
    by_contra c
    unfold State.accountAt at ha
    rw [Vector.getElem?_eq_none (by omega)] at ha
    cases ha
  have := List.all_eq_true.mp h e (List.mem_range.mpr he)
  simpa [ha] using this

/-- The part with its ports free again. -/
def freed (s : State) : State := { s with portA := .reset, portB := .reset }

theorem test_meets_StepRunsTheFrontCommand :
    { idle with pending := [.poll, .meteringTick] }.pending = Instr.poll :: [.meteringTick] := rfl

theorem test_meets_IdleStepTakesWhatIsDue :
    (after .fullReset idle).pending = [] ∧ (after .fullReset idle).inReset = true
      ∧ idle.pending = [] ∧ idle.inReset = false ∧ idle.due = none
      ∧ { idle with tickMs := 1000 }.due = some .meteringTick := by decide +kernel

theorem test_meets_NothingRunsInReset :
    (after .fullReset idle).inReset = true ∧ Instr.poll ≠ .fullReset ∧ ∀ m n, Instr.poll ≠ .resetRelease m n := by
  refine ⟨rfl, by decide, fun m n => by simp⟩

theorem test_meets_FramesRoundTrip : (Frame.mk 255 (List.replicate 8 (.createOfftake ⟨0x0A2210#24, figures⟩))).wf = true
    ∧ (Frame.mk 0 [.restart]).wf = true ∧ [0#8].length < 6 ∧ 256 < (List.replicate 257 0#8).length
    ∧ (0#8).toNat * 256 + (8#8).toNat ≠ (readFrameBytes.drop 2 ++ [0#8, 0#8]).length + 2
    ∧ (0#8).toNat * 256 + (0#8).toNat ≠ (crc16 readFrameBytes).toNat ∧ (0#8).toNat = 0 ∧ 8 < (9#8).toNat := by
  decide +kernel

/-- A count of 2 over one request; a byte behind it; a request with one byte of its two; an unknown kind; a READ_OFFTAKE
of two bytes; RESTART behind a READ_OFFTAKE. -/
theorem test_meets_MalformedFrames :
    let read : Byte × List Byte := (0x04#8, [3#8])
    let restart : Byte × List Byte := (0x7F#8, [])
    (∀ r ∈ [read, restart, (0x0A#8, []), (0x04#8, [3#8, 3#8])], r.2.length < 256)
      ∧ (2#8).toNat ≠ [read].length ∧ (1#8).toNat = [read].length ∧ [0#8] ≠ []
      ∧ [3#8].length < (2#8).toNat ∧ (2#8).toNat = [read].length + 1
      ∧ bodyLength (0x0A#8).toNat ≠ some 0 ∧ bodyLength (0x04#8).toNat ≠ some [3#8, 3#8].length
      ∧ restart ∈ [read, restart] ∧ restart.1 = 0x7F#8 ∧ 1 < [read, restart].length := by decide +kernel

theorem test_meets_LinkAndSampleMessagesAreRead :
    (writeStatus 9#8 ⟨1, false⟩).type ≠ 0x81#8 ∧ (advertMsg true).type ≠ 0x82#8 ∧ (advertMsg true).type ≠ 0x83#8
      ∧ (advertMsg true).type ≠ 0x84#8 ∧
    (AdvertData.mk 0x3F#6 true 4294967295).rating < 256 ^ 4 ∧ (CallData.mk 4294967295 true).call < 256 ^ 4
      ∧ (SampleData.mk 63 .fault (-32768)).channel < 64 ∧ (SampleData.mk 0 .good 32767).raw ≤ 32767
      ∧ [0#8, 0#8, 0#8].length ≠ 4 ∧ 1#8 ≠ crc8 [0#8, 0#8, 0#8] ∧ 192 ≤ (0xC0#8).toNat := by decide +kernel

theorem test_meets_PortTransactionsComplete :
    idle.inReset = false ∧ (Frame.mk 9 [.readPlant]).wf = true ∧ (idle.port .portA).status = .idle
      ∧ readFrame [] = none ∧ (working.port .portA).status = .executing
      ∧ (enrolled.port .portA).status = .answerReady ∧ 0x21#8 ≠ 0x20#8
      ∧ ((working.port .portA).taking (.setChannel ⟨41, 2, 1, 0, 0, 0, 0, 0⟩)).isSome = true := by
  decide +kernel

theorem test_meets_RequestsAreAnsweredAsOneEvent :
    idle.takes .portA .readPlant (one Port.reset) ∧ (enrolled.port .portA).taking .readPlant = none
      ∧ (replyOf .portA .popCurtail idle).result ≠ .ok ∧ (replyOf .portA .readPlant idle).result = .ok :=
  ⟨takes_one (p := .portA) (by decide +kernel) _, by decide +kernel, by decide +kernel, by decide +kernel⟩

theorem test_meets_LackOfRightRefuses :
    let s := { idle with maintEn := false }
    s.takes .portA .restart (one Port.reset) ∧ neededRight .restart = some .maintain ∧ s.maintEn = false
      ∧ s.takes .portA (.setBand 0) (one Port.reset) ∧ neededRight (.setBand 0) = some .settle
      ∧ s.takes .portB .popCurtail (one Port.reset) ∧ neededRight .popCurtail = some .operate
      ∧ s.verdict .portA .restart ≠ .ok
      ∧ idle.takes .portA .restart (one Port.reset) ∧ idle.hasRight .portA .maintain = true
      ∧ idle.verdict .portA .restart = .ok :=
  ⟨takes_one (p := .portA) (by decide +kernel) _, rfl, rfl, takes_one (p := .portA) (by decide +kernel) _, rfl,
    takes_one (p := .portB) (by decide +kernel) _, rfl, by decide +kernel, takes_one (p := .portA) (by decide +kernel) _, rfl,
    by decide +kernel⟩

/-- Two checks of one request fail: the rule's earlier one answers (R12, R14, R15, R61, R67, R93, R102, R148, R149, R163,
R166, R168). -/
def refusals : List (State × PortId × Request × Result) :=
  let f := { figures with bind1 := 0 }
  [(town, .portB, .createOfftake ⟨0#24, f⟩, .noRight), (town, .portA, .createOfftake ⟨0#24, f⟩, .badValue),
    (town, .portA, .createOfftake ⟨1#24, { f with addr := 1 }⟩, .badChannel),
    (bound, .portA, .createOfftake ⟨0x0A2210#24, figures⟩, .duplicateTag),
    (bound, .portA, .createOfftake ⟨1#24, figures⟩, .duplicateAddress),
    (town, .portA, .amendOfftake ⟨0, 1#24, 1#16, f⟩, .noSuchSlot), (town, .portA, .amendOfftake ⟨1, 9#24, 1#16, f⟩, .noSuchTag),
    (town, .portB, .amendOfftake ⟨1, 1#24, 0x81#16, f⟩, .noRight), (town, .portA, .amendOfftake ⟨1, 1#24, 0x401#16, f⟩, .badValue),
    (town, .portA, .amendOfftake ⟨1, 1#24, 0x402#16, { f with addr := 2 }⟩, .badChannel),
    (town, .portA, .release 0 0#24, .noSuchSlot), (town, .portA, .release 1 0#24, .noSuchTag),
    (town, .portA, .release 1 1#24, .wrongState), (idle, .portA, .setChannel ⟨48, 7, 0, 0, 0, 0, 2, 0⟩, .badChannel),
    (idle, .portA, .setChannel ⟨0, 2, 0, 0, 0, 0, 1, 0⟩, .badValue), (pushed, .portA, .pushCurtail 5, .badValue),
    (pushed, .portA, .pushCurtail 4, .wrongState), (completed, .portA, .popCurtail, .notManual),
    (billing, .portB, .openAccount 305 3 1, .badValue), (billing, .portB, .openAccount 305 0 1, .duplicateAccount),
    (billing, .portB, .retireAccount 305, .accountInUse), (billing, .portB, .bindAccount 12 7#24 9, .noAccount)]

theorem test_refusal_order :
    ∀ c ∈ refusals, (replyOf c.2.1 c.2.2.1 c.1).result = c.2.2.2 ∧ c.1.verdict c.2.1 c.2.2.1 = c.2.2.2 := by
  decide +kernel

/-- Two records that share neither tag nor address. -/
theorem town_distinct : town.recordsDistinct := by
  intro i j a b ha hb hij
  have h := every_slot (s := town) (f := fun i a => (List.range 24).all fun j =>
    decide (i = j) || (town.offtake j).all fun b => decide (a.tag ≠ b.tag) && decide (a.addr ≠ b.addr)) (by decide +kernel) i a ha
  have := List.all_eq_true.mp h j (List.mem_range.mpr (State.offtake_lt hb))
  simpa [hb, hij] using this

theorem test_meets_ReadRequestsComplete :
    (∀ r, town.takes .portB r (one Port.reset)) ∧ town.recordsDistinct ∧ (town.offtake 13).isSome = true
      ∧ town.offtake 23 = none ∧ (town.channels[47]?).isSome = true ∧ (town.windows[3]?).isSome = true
      ∧ (billing.account 305).isSome = true ∧ (∀ r, billing.takes .portA r (one Port.reset))
      ∧ (billing.pairs[15]?).isSome = true ∧ (∀ r, (freed tariffs).takes .portB r (one Port.reset))
      ∧ (freed tariffs).matchSet .heat 0x125#12 = 3 :: [7] ∧ (freed tariffs).matchSet .gas 0x125#12 = [] :=
  ⟨takes_one (p := .portB) (by decide +kernel), town_distinct, by decide +kernel, by decide +kernel, by decide +kernel,
    by decide +kernel, by decide +kernel, takes_one (p := .portA) (by decide +kernel), by decide +kernel,
    takes_one (p := .portB) (by decide +kernel), by decide +kernel, by decide +kernel⟩

theorem test_meets_CreateOfftakeCompletes :
    let s := withRecords idle [(0, boiler 1#24 1 0 1 .lean 0 0 880)]
    let b : CreateBody := ⟨0x0A2210#24, figures⟩
    s.takes .portA (.createOfftake b) (one Port.reset) ∧ s.hasRight .portA .maintain = true
      ∧ OffClass.ofCode b.fig.cls = some .boiler ∧ createValuesOk b .boiler = true
      ∧ s.bindingsOk .boiler b.fig.bind1 b.fig.bind2 (OffClass.boiler.third b.fig.bind3) = true
      ∧ (∀ j o, s.offtake j = some o → o.tag ≠ b.tag ∧ o.addr ≠ b.fig.addr)
      ∧ 1 < 24 ∧ s.offtake 1 = none ∧ (∀ j, j < 1 → s.offtake j ≠ none) := by
  refine ⟨takes_one (p := .portA) (by decide +kernel) _, rfl, rfl, by decide +kernel, by decide +kernel, ?_, by decide,
    by decide +kernel, by decide +kernel⟩
  intro j o ho
  have := every_slot (s := withRecords idle [(0, boiler 1#24 1 0 1 .lean 0 0 880)])
    (f := fun _ o => decide (o.tag ≠ 0x0A2210#24) && decide (o.addr ≠ figures.addr)) (by decide +kernel) j o ho
  simpa using this

/-- The record of section 2.10, bound, and the amendments of its address and of its resolved mode. -/
def amending (mask : BitVec 16) (addr : Nat) (modes : Byte) : AmendBody :=
  ⟨0, 0x0A2210#24, mask, { figures with addr := addr, modes := modes }⟩

theorem test_meets_AmendOfftakeCompletes :
    let s := freed bound
    (∀ r, s.takes .portA r (one Port.reset))
      ∧ (bound.offtake 0).map (fun o => (o.tag, o.retiring, o.mode)) = some (0x0A2210#24, false, some .lean)
      ∧ (∀ b ∈ [amending 2#16 10 0#8, amending 4#16 0 0x01#8, amending 0x80#16 0 0#8], (s.offtake 0).any (fun o =>
          amendRightsOk b s .portA o.cls && amendValuesOk b o (amended b o) && amendBindingsOk b s o (amended b o)) = true)
      ∧ (s.offtake 0).map (fun o => (amended (amending 2#16 10 0#8) o).addr) = some 10
      ∧ modeIn .lean 0x01#6 = false
      ∧ (∀ j x, j ≠ 0 → s.offtake j = some x → x.addr ≠ 10) := by
  refine ⟨takes_one (p := .portA) (by decide +kernel), by decide +kernel, by decide +kernel, by decide +kernel,
    by decide, ?_⟩
  intro j x hj hx
  have := every_slot (s := freed bound) (f := fun j _ => decide (j = 0)) (by decide +kernel) j x hx
  exact absurd (by simpa using this) hj

theorem test_meets_RetireOfftakeCompletes :
    (∀ r, retiringState.takes .portA r (one Port.reset)) ∧ retiringState.hasRight .portA .maintain = true
      ∧ (retiringState.offtake 5).any (fun o => o.tag = 0x31A00C#24 && !o.retiring && retiringState.waitsForClose 5 o) = true
      ∧ (∀ r, town.takes .portA r (one Port.reset))
      ∧ (town.offtake 1).any (fun o => o.tag = 1#24 && !o.retiring && !town.waitsForClose 1 o) = true :=
  ⟨takes_one (p := .portA) (by decide +kernel), rfl, by decide +kernel, takes_one (p := .portA) (by decide +kernel),
    by decide +kernel⟩

/-- A retiring record that waits for its close, one that is linked, and one in LISTEN. -/
theorem test_meets_EnteringQuietLeavesService :
    ((after (.retireOfftake .portA 5 0x31A00C#24) retiringState).offtake 5).any (fun o => o.linked && o.retiring) = true
      ∧ (bound.offtake 0).any (fun o => o.linked && !o.retiring) = true
      ∧ (polled.offtake 0).any (fun o => !o.linked) = true := by decide +kernel

theorem test_meets_RenegotiateAndReleaseComplete :
    let s := freed (after .meteringTick cutIdle)
    (∀ r, s.takes .portA r (one Port.reset)) ∧ s.hasRight .portA .operate = true
      ∧ (s.offtake 14).any (fun o => o.tag = 7#24 && !o.retiring && o.supply = .lockout) = true :=
  ⟨takes_one (p := .portA) (by decide +kernel), rfl, by decide +kernel⟩

theorem test_meets_SetChannelCompletes :
    let b : ChannelBody := ⟨47, 1, 0, -2147483648, 500, 700, 1, 0⟩
    let b' : ChannelBody := ⟨0, 0, 65535, 2147483647, 500, 700, 0, 0⟩
    (∀ r, idle.takes .portA r (one Port.reset)) ∧ idle.hasRight .portA .maintain = true ∧ b.channel < 48
      ∧ ChannelKind.ofCode b.kind = some .gasFlow ∧ Polarity.ofCode b.polarity = some .auto
      ∧ b'.channel < 48 ∧ ChannelKind.ofCode b'.kind = some .noKind ∧ Polarity.ofCode b'.polarity = some .fixed
      ∧ b'.offset ≤ 2147483647 :=
  ⟨takes_one (p := .portA) (by decide +kernel), rfl, by decide, rfl, rfl, by decide, rfl, rfl, by decide⟩

theorem test_meets_SampleMessageCompletes :
    readSample [] = none ∧ readSample (writeSample ⟨63, .good, 0⟩) = some ⟨63, .good, 0⟩ ∧ idle.channels[63]? = none
      ∧ readSample (writeSample ⟨40, .fault, 0⟩) = some ⟨40, .fault, 0⟩
      ∧ readSample (writeSample ⟨40, .overrange, -32768⟩) = some ⟨40, .overrange, -32768⟩
      ∧ (idle.channels[40]?).any (fun c => decide (c.kind ≠ .noKind)) = true
      ∧ (idle.channels[0]?).any (fun c => decide (c.kind = .noKind)) = true := by decide +kernel

theorem test_meets_ChannelExpiriesComplete :
    (idle.channels[40]?).any (fun c => decide (c.kind ≠ .noKind) && decide (c.condition = .normal)) = true
      ∧ (converting.channels[30]?).any (fun c => decide (c.kind ≠ .noKind) && decide (c.condition = .stale)) = true := by
  decide +kernel

/-- The grade totals of the works are those of its windows. -/
theorem works0_reserves : works0.reservesOk := by
  intro g
  cases g <;> decide +kernel

theorem test_meets_GradeRequestsComplete :
    (∀ r, works0.takes .portA r (one Port.reset)) ∧ works0.hasRight .portA .maintain = true
      ∧ gradeValuesOk ⟨0, 2, 2, 3, 0, 0, some 10, some 12, -1, 400, 700, -1, 600000⟩ = true
      ∧ gradeChannelsOk works0 ⟨0, 2, 2, 3, 0, 0, some 10, some 12, -1, 400, 700, -1, 600000⟩ = true
      ∧ works0.grades.tg.reserveTotal ≤ reserveLimit 0 700
      ∧ (works0.windows[2]?).isSome = true ∧ (0 : Nat) = Grade.tg.code
      ∧ works0.grades.tg.reserveTotal - 0 + 250 ≤ reserveLimit 300 700
      ∧ works0.reservesOk ∧ (works0.windows[0]?).any (·.valid) = true
      ∧ (works0.windows[3]?).any (fun w => !w.valid) = true :=
  ⟨takes_one (p := .portA) (by decide +kernel), rfl, by decide, by decide +kernel, by decide +kernel,
    by decide +kernel, rfl,
    by decide +kernel, works0_reserves, by decide +kernel, by decide +kernel⟩

theorem test_meets_GradeFiguresFollowTheirRules :
    (works0.grades.get .tg).cv = some 10 ∧ (works0.grades.get .tg).level = some 12
      ∧ (works0.grades.get .og).level = none
      ∧ (State.reset.grades.get .vg).supplyChannels = [] := by decide +kernel

def plantBody : PlantBody := ⟨0, 5, 201, 50001, 9, 1, 99, 801, 3799, 1, some 20, some 21, some 22, some 23, none,
    100001⟩

theorem test_meets_PlantRequestsComplete :
    (∀ r, town.takes .portA r (one Port.reset)) ∧ town.hasRight .portA .maintain = true
      ∧ town.hasRight .portA .operate = true
      ∧ plantBody.policy = Policy.exportFirst.code ∧ loopWhole plantBody = true
      ∧ plantChannelsOk town plantBody = true :=
  ⟨takes_one (p := .portA) (by decide +kernel), rfl, rfl, rfl, rfl, by decide +kernel⟩

theorem test_meets_PushAndPopComplete :
    let s := { freed completed with recoveryTimer := 6 }
    let t := freed pushed
    (∀ r, s.takes .portA r (one Port.reset)) ∧ s.hasRight .portA .operate = true ∧ s.level < 4
      ∧ (∀ r, t.takes .portA r (one Port.reset)) ∧ t.hasRight .portA .operate = true
      ∧ t.stack = ⟨4, .manual, .operator, [2, 4]⟩ :: completed.stack :=
  ⟨takes_one (p := .portA) (by decide +kernel), rfl, by decide +kernel, takes_one (p := .portA) (by decide +kernel),
    rfl,
    by decide +kernel⟩

theorem test_meets_PopHandsTheListOn :
    pushed.stack = ⟨4, .manual, .operator, [2, 4]⟩ :: [⟨3, .auto, .gasAndHeat, [7, 9, 13, 8]⟩]
      ∧ completed.stack = [⟨3, .auto, .gasAndHeat, [7, 9, 13, 8]⟩] := by decide +kernel

/-- Three candidates that do not stand in the order of their visits, with and without a shortage, and their visits. -/
theorem test_meets_ClassPassSharesThePool :
    let cs : List Cand := [⟨7, 120000, 30000, 5⟩, ⟨8, 60000, 20000, 15⟩, ⟨2, 24000, 0, 1⟩]
    let visits : List Cand := [⟨8, 60000, 20000, 15⟩, ⟨2, 24000, 0, 1⟩, ⟨7, 120000, 30000, 5⟩]
    (∀ x ∈ cs, x.min ≤ x.call ∧ 1 ≤ x.weight) ∧ (cs.map (·.slot)).Nodup ∧ (cs.map (·.call)).sum ≤ 204000
      ∧ 40000 < (cs.map (·.call)).sum ∧ visits.Perm cs
      ∧ visits.Pairwise (fun c d =>
        c.call * d.weight < d.call * c.weight ∨ (c.call * d.weight = d.call * c.weight ∧ c.slot < d.slot))
      ∧ visits = [⟨8, 60000, 20000, 15⟩] ++ ⟨2, 24000, 0, 1⟩ :: [⟨7, 120000, 30000, 5⟩]
      ∧ (classPass 40000 cs).1 = [⟨8, 28571, false⟩, ⟨2, 1904, false⟩, ⟨7, 0, true⟩] := by decide

theorem test_meets_ClassPassOfOne :
    let c : Cand := ⟨12, 120000, 20000, 10⟩
    [c] = [c] ∧ 73542 < c.call ∧ c.min ≤ 73542 := by decide

theorem test_meets_BlendGrantsAreDrawnInFull :
    180000 ≤ town.view.blendPool ⟨25000, 175000, 20000⟩
      ∧ 195000 ≤ (works 22000 14000 3250 340).view.blendPool ⟨194999, 175000, 20000⟩ := by decide +kernel

/-- TG in reserve, with one record its windows cover and one they do not. -/
def reserved : View :=
  (withRecords (works 22000 14000 3250 340) [(3, boiler 0x0A2210#24 1 0 12 .lean 40000 100000 880),
    (5, boiler 0x31A00C#24 2 0 10 .lean 30000 90000 880)]).view

/-- TG in reserve, with a record its windows do not cover. -/
def uncovered : View := (withRecords (works 22000 14000 3250 340) [(5, boiler 0x31A00C#24 2 0 10 .lean 30000 90000 880)]).view

/-- A window of the view stands valid for TG and agrees with the record's tag. -/
def coveredTg (v : View) (r : RecordView) : Bool :=
  v.windows.any fun w => w.valid && decide (w.grade = .tg) && decide (r.tag &&& w.mask = w.value &&& w.mask)

theorem test_meets_BlendGrantsOfAReserve :
    (reserved.grades.get .tg).inReserve = true ∧ (uncovered.grades.get .tg).inReserve = true
      ∧ (∀ r ∈ reserved.records, ∀ x ∈ reserved.records, x.slot = r.slot → x = r)
      ∧ reserved.records.map (fun r => (r.slot, r.boundGrade, coveredTg reserved r, reserved.candidate r)) =
        [(3, some .tg, true, true), (5, some .tg, false, true)]
      ∧ uncovered.records.map (fun r => (r.slot, coveredTg uncovered r)) = [(5, false)]
      ∧ (town.view.grades.get .tg).inReserve = false := by decide +kernel

theorem test_meets_PassBeginCompletes :
    popped.inReset = false ∧ popped.pass = none ∧ popped.readmission = 2 :: [4]
      ∧ (popped.offtake 2).any (fun o => admits popped.level o.prio) = true ∧ town.readmission = []
      ∧ ((works 22000 14000 3250 340).gradeView .tg).inReserve = true := by decide +kernel

/-- At level 3, a queue held out whole, and one whose second entry is admitted; the view's choices. -/
theorem test_meets_PassBeginsAboveALevel :
    let s := { completed with readmission := [7, 13] }
    s.pass = none ∧ s.stack.length = 1 ∧ (∀ j ∈ [7, 9], admits s.level (s.prioOf j) = false)
      ∧ s.readmission = [7] ++ 13 :: [] ∧ (s.offtake 13).any (fun o => admits s.level o.prio) = true
      ∧ 3 ≤ s.level ∧ town.level < 3 ∧ town.stack = []
      ∧ town.plant.loopFlow = some 20 ∧ town.plant.loopSupply = some 21 ∧ town.plant.loopReturn = some 22
      ∧ works0.plant.loopFlow = none ∧ works0.plant.houseLoad = none ∧ town.plant.houseLoad = some 23
      ∧ (withChannels town [(23, reading .power (-5))]).view.houseLoad = 0 := by decide +kernel

theorem test_meets_PassCompletionCompletes :
    (after .passBegin town).inReset = false ∧ (after .passBegin town).pass = some ⟨town.view, town.view.entries⟩
      ∧ (town.offtake 0) = none ∧ (town.offtake 1).any (fun o => decide (o.supply = .active)) = true
      ∧ ((after (.cut 2) (after .passBegin town)).offtake 2).any (fun o => decide (o.supply ≠ .active)) = true := by
  decide +kernel

/-- The level a pass's sheds call for. -/
def observedOf (s : State) : Nat :=
  observedLevel ((s.pass.toList.flatMap fun ps => ps.view.result.shed.filter fun m => !voided ps.table m.slot))

/-- A push; then, over no higher level: an empty stack, an AUTO top at the hold and below it, and a MANUAL top. -/
theorem test_meets_PassOutcomes :
    let above := after .passBegin town
    let empty := after .passBegin works0
    let held := after .passBegin { completed with recoveryTimer := 59 }
    let early := after .passBegin completed
    let manual := after .passBegin pushed
    above.level < observedOf above ∧ 0 < above.plant.recoveryHold
      ∧ observedOf empty ≤ empty.level ∧ empty.stack = [] ∧ empty.pass.isSome = true
      ∧ observedOf held < held.level ∧ (held.stack.head?).map (·.origin) = some .auto
      ∧ (held.pass.map fun ps => min (held.recoveryTimer + ps.view.interval) held.plant.recoveryHold) = some 60
      ∧ held.plant.recoveryHold = 60
      ∧ observedOf early ≤ early.level ∧ early.recoveryTimer + 2 ≠ 60 ∧ early.pass.isSome = true
      ∧ observedOf manual ≤ manual.level ∧ (manual.stack.head?).map (·.origin) = some .manual
      ∧ manual.pass.isSome = true := by
  decide +kernel

theorem test_meets_ShortPassesAreJudged :
    let s := after .passBegin completed
    s.inReset = false ∧ s.pass.isSome = true
      ∧ (after .passCompletion s).balance.exportCeiling + 5000 < 90000
      ∧ 90000 ≤ (after .passCompletion (after .passBegin town)).balance.exportCeiling + 5000 := by decide +kernel

theorem test_meets_RecoveryIsJudged :
    0 < completed.level ∧ 3 ≤ completed.level ∧ completed.level ≤ 3 ∧ town.stack = [] ∧ completed.inReset = false
      ∧ { completed with recoveryTimer := 60 }.recoveryTimer = completed.plant.recoveryHold
      ∧ completed.recoveryTimer ≠ completed.plant.recoveryHold
      ∧ completed.stack = ⟨3, .auto, .gasAndHeat, [7, 9, 13, 8]⟩ :: []
      ∧ (pushed.stack.head?).map (·.origin) = some .manual := by decide +kernel

/-- A table whose accounts stand in one entry alone has distinct numbers. -/
theorem distinct_of_one {s : State} {n : Nat}
    (h : (List.range 32).all (fun e => (s.accountAt e).all fun _ => decide (e = n)) = true) : s.numbersDistinct := by
  intro e f a b ha hb hef
  have h1 := every_entry (s := s) (f := fun e _ => decide (e = n)) h e a ha
  have h2 := every_entry (s := s) (f := fun e _ => decide (e = n)) h f b hb
  simp only [decide_eq_true_eq] at h1 h2
  omega

theorem billing_numbers : billing.numbersDistinct := distinct_of_one (n := 3) (by decide +kernel)

/-- Account 305 with nothing bound to it and nothing counted. -/
def settled : State := (freed billing).withAccount 3 (some (newAccount 305 .heatSale 0x125#12))

theorem settled_numbers : settled.numbersDistinct := distinct_of_one (n := 3) (by decide +kernel)

theorem test_meets_AccountTableRequestsComplete :
    (∀ r, settled.takes .portB r (one Port.reset)) ∧ settled.hasRight .portB .settle = true ∧ settled.numbersDistinct
      ∧ (∀ e a, settled.accountAt e = some a → a.number ≠ 65535) ∧ (∃ e, e < 32 ∧ settled.accountAt e = none)
      ∧ settled.accountAt 3 = some (newAccount 305 .heatSale 0x125#12) := by
  refine ⟨takes_one (p := .portB) (by decide +kernel), rfl, settled_numbers, ?_, ⟨31, by decide +kernel⟩,
    by decide +kernel⟩
  intro e a ha
  simpa using every_entry (s := settled) (f := fun _ a => decide (a.number ≠ 65535)) (by decide +kernel) e a ha

theorem test_meets_BindingRequestsComplete :
    (∀ r, billing.takes .portB r (one Port.reset)) ∧ billing.hasRight .portB .settle = true
      ∧ (billing.offtake 12).any (fun o => o.tag = 7#24 && !o.retiring && o.account = some 305 && o.cls = .heatSub) = true
      ∧ (billing.account 305).any (fun a => a.kind = .heatSale) = true
      ∧ ((after (.unbindAccount .portB 12 7#24) billing).offtake 12).any (fun o => o.account ≠ some 305) = true
      ∧ (∀ r, (exporting 0 0 0).takes .portB r (one Port.reset)) ∧ (exporting 0 0 0).plant.exportAccount = some 900
      ∧ ((exporting 0 0 0).account 900).any (fun a => a.kind = .exportKind) = true :=
  ⟨takes_one (p := .portB) (by decide +kernel), rfl, by decide +kernel, by decide +kernel, by decide +kernel,
    takes_one (p := .portB) (by decide +kernel), rfl, by decide +kernel⟩

/-- Account 305 with unpriced energy in both bands. -/
def unpriced : State :=
  (freed billing).withAccount 3 (some { account305 with primary := ⟨10, 0, 10⟩, secondary := ⟨20, 0, 20⟩ })

theorem test_meets_PeriodRequestsComplete :
    (∀ r, billing.takes .portB r (one Port.reset)) ∧ billing.hasRight .portB .settle = true ∧ billing.numbersDistinct
      ∧ billing.accountAt 3 = some account305 ∧ account305.statement = none ∧ account305.flags.unpriced = false
      ∧ (((freed (after (.closePeriod .portB 305) billing)).accountAt 3).any fun a => a.statement.isSome) = true
      ∧ (unpriced.accountAt 3).any (fun a => decide (0 < a.primary.unpriced) && decide (0 < a.secondary.unpriced)) = true
      ∧ unpriced.lookup .heat 0x125#12 .primary = ⟨some 41500, false⟩
      ∧ unpriced.lookup .heat 0x125#12 .secondary = ⟨some 28000, false⟩ ∧ 0 + 20 * 41500 ≤ Config.maxCharge :=
  ⟨takes_one (p := .portB) (by decide +kernel), rfl, billing_numbers, by decide +kernel, rfl, rfl, by decide +kernel,
    by decide +kernel, by decide +kernel, by decide +kernel, by decide +kernel⟩

/-- One band unpriced and priced; one priced and one missed; both missed; an overlap; and a charge at its top. -/
theorem test_meets_Repricings :
    let some900 := { account305 with primary := ⟨10, Config.maxCharge, 10⟩ }
    let bands := fun (a : Account) (t : TariffPair) => ((freed billing).withAccount 3 (some a)).withPair 3 t
    let one := bands { account305 with secondary := ⟨20, 0, 20⟩ } pair3
    let half := bands { account305 with primary := ⟨10, 0, 10⟩, secondary := ⟨20, 0, 20⟩ } { pair3 with secondary := none }
    let none' := bands { account305 with secondary := ⟨20, 0, 20⟩ } { pair3 with valid := false }
    let twice := (bands some900 pair3).withPair 7 { pair7 with shared := true }
    (∀ s ∈ [one, half, none', twice], (!s.inReset && decide ((s.port .portB).status = .idle)
        && s.hasRight .portB .settle && (List.range 32).all (fun e => (s.accountAt e).all fun _ => decide (e = 3))
        && (s.accountAt 3).any (fun a => a.number = 305)) = true)
      ∧ one.lookup .heat 0x125#12 .secondary = ⟨some 28000, false⟩
      ∧ half.lookup .heat 0x125#12 .primary = ⟨some 41500, false⟩ ∧ half.lookup .heat 0x125#12 .secondary = ⟨none, false⟩
      ∧ none'.lookup .heat 0x125#12 .secondary = ⟨none, false⟩
      ∧ twice.lookup .heat 0x125#12 .primary = ⟨some 41500, true⟩
      ∧ [one, half, none', twice].map (fun s => lastResult (after (.reprice .portB 305) s) .portB) =
        [some .ok, some .ok, some .noTariff, some .ok]
      ∧ ((after (.reprice .portB 305) half).account 305).map (fun a => (a.primary, a.secondary)) =
        some (⟨10, 415000, 0⟩, ⟨20, 0, 20⟩)
      ∧ ((after (.reprice .portB 305) twice).account 305).map (fun a => (a.primary.charge, a.flags.saturated, a.flags.overlap)) =
        some (Config.maxCharge, true, true) := by decide +kernel

theorem test_meets_CarryCountsAndPrices :
    billing.numbersDistinct ∧ billing.accountAt 3 = some account305 ∧ (account305.residue + 1099) / 3600 = 0
      ∧ 0 < (account305.residue + 1100) / 3600 ∧ (billing.lookup .heat 0x125#12 .primary).price = some 41500
      ∧ (State.reset.lookup .heat 0x125#12 .primary).price = none :=
  ⟨billing_numbers, by decide +kernel, by decide, by decide, by decide +kernel, by decide +kernel⟩

theorem test_meets_TariffRequestsComplete :
    let b : TariffBody := ⟨15, 2, 4095, 4095, 255, true, some 999999, none⟩
    (∀ r, idle.takes .portB r (one Port.reset)) ∧ idle.hasRight .portB .settle = true ∧ b.pair < 16
      ∧ b.medium = Medium.exportMedium.code ∧ b.key ≤ 4095 ∧ b.mask ≤ 4095 ∧ b.season ≤ 255
      ∧ (∀ x, b.primary = some x → x ≤ 999999) ∧ (∀ x, b.secondary = some x → x ≤ 999999)
      ∧ (idle.pairs[15]?).isSome = true := by
  refine ⟨takes_one (p := .portB) (by decide +kernel), rfl, by decide, rfl, by decide, by decide, by decide, ?_, ?_,
    by decide +kernel⟩
  · rintro x ⟨⟩
    decide
  · rintro x ⟨⟩

theorem test_meets_LookupChoosesTheLowestMatch :
    (tariffs.pairs[3]? = some pair3 ∧ pair3.valid = true ∧ pair3.medium = .heat
      ∧ 0x125#12 &&& pair3.mask = pair3.key &&& pair3.mask ∧ pair3.shared = true)
    ∧ (tariffs.pairs[7]? = some pair7 ∧ 0x125#12 &&& pair7.mask = pair7.key &&& pair7.mask
      ∧ pair7.season = tariffs.season)
    ∧ (∀ j, j < 3 → (tariffs.pairs[j]?).any (·.valid) = false) := by decide +kernel

theorem test_meets_NoticeRequestsComplete :
    let s := freed noticed
    (∀ r, s.takes .portA r (one Port.reset)) ∧ s.hasRight .portA .maintain = true ∧ s.clearMode = .checked
      ∧ (s.notice .tariffMiss).pendingA = true ∧ standing s .tariffMiss (s.notice .tariffMiss).subject = true
      ∧ (s.notice .cut).pendingA = false ∧ missed.clearMode = .readClears
      ∧ standing (freed repriced) .tariffMiss 305 = false ∧ ((freed repriced).notice .tariffMiss).pendingA = true
      ∧ (0x1000#16).toNat < 8192 ∧ (0x0FFF#16).toNat < 8192 ∧ 0x1000#16 &&& 0x0FFF#16 = 0#16
      ∧ (missed.notice .tariffMiss).pendingFor .portA = true ∧ (missed.notice .cut).pendingFor .portA = false
      ∧ (0x1000#16).getLsbD NoticeKind.tariffOverlap.code = true ∧ (0x0FFF#16).getLsbD NoticeKind.tariffMiss.code = true
      ∧ (0x0FFE#16).getLsbD NoticeKind.noMode.code = false :=
  ⟨takes_one (p := .portA) (by decide +kernel), rfl, rfl, by decide +kernel, by decide +kernel, by decide +kernel,
    by decide +kernel, by decide +kernel, by decide +kernel, by decide, by decide, by decide, by decide +kernel,
    by decide +kernel, by decide, by decide, by decide⟩

theorem test_meets_RaisedNoticesArePending :
    (idle.notice .cut).routeA = true ∧ (idle.notice .cut).routeB = false ∧ (idle.notice .tariffMiss).routeB = true
      ∧ ((after (.setRouting .portA 0 0#16 4#16) idle).notice .cut).routeA = false := by decide +kernel

theorem test_meets_LinkTimersComplete :
    idle.inReset = false ∧ (enrolled.offtake 0).map (·.link) = some .quiet
      ∧ (polled.offtake 0).map (·.link) = some .listen
      ∧ (confirming.offtake 0).map (·.link) = some .confirm ∧ (bound.offtake 0).map (·.link) = some .bound := by
  decide +kernel

/-- Polling among the eight records of the town, from a cursor in the midst and from one at the end. -/
theorem test_meets_PollExchangeCompletes :
    let s := { town with pollCursor := 9 }
    let t := { town with pollCursor := 13 }
    s.exchange = none ∧ s.setpointTurn = false ∧ (s.offtake 12).any (fun o => decide (o.link ≠ .quiet)) = true
      ∧ s.pollCursor < 12 ∧ (∀ j, j < 12 → s.pollCursor < j → s.pollable j = false)
      ∧ (∀ j, t.pollCursor < j → t.pollable j = false) ∧ (∀ j, j < 1 → t.pollable j = false)
      ∧ polled.exchange = some (.poll 0 9 false) ∧ (10#8).toNat ≠ 9 ∧ readAdvert (writeStatus 9#8 ⟨0, false⟩) = none
      ∧ readStatus (advertMsg true) = none ∧ readLegacy (advertMsg true) = none := by
  refine ⟨rfl, by decide +kernel, by decide +kernel, by decide, by decide +kernel, ?_, by decide +kernel,
    by decide +kernel,
    by decide, by decide +kernel, by decide +kernel, by decide +kernel⟩
  intro j hj
  cases ho : ({ town with pollCursor := 13 } : State).offtake j with
  | none => simp [State.pollable, ho]
  | some o =>
    have := every_slot (s := { town with pollCursor := 13 }) (f := fun j _ => decide (j ≤ 13)) (by decide +kernel) j o ho
    have hj' : 13 < j := hj
    simp only [decide_eq_true_eq] at this
    omega

/-- In LISTEN, in CONFIRM at two matches, and bound, each polled at its address. -/
theorem test_meets_AdvertsComplete :
    let listens := polled
    let confirms := after .poll (confirming.modOfftake 0 fun o => { o with confirmCount := 2 })
    let linked := after .poll bound
    let dying := after .poll (bound.modOfftake 0 fun o => { o with retiring := true })
    listens.exchange = some (.poll 0 9 false) ∧ confirms.exchange = some (.poll 0 9 false)
      ∧ linked.exchange = some (.poll 0 9 false) ∧ dying.exchange = some (.poll 0 9 false)
      ∧ readAdvert (advertMsg true) = some ⟨0x0E#6, true, 140000⟩ ∧ (advertMsg true).addr.toNat = 9
      ∧ (listens.offtake 0).any (fun o => o.addr = 9 && o.link = .listen && resolveMode o ⟨0x0E#6, true,
        140000⟩ = some .lean
          && resolveMode o ⟨0x0E#6, true, 39999⟩ = none) = true
      ∧ (confirms.offtake 0).any (fun o => o.addr = 9 && o.link = .confirm && o.confirmCount = 2
          && o.advert.any (fun b => b.modes = 0x0E#6 && b.rating = 140000)) = true
      ∧ (linked.offtake 0).any (fun o => o.addr = 9 && o.linked && !o.retiring) = true
      ∧ (dying.offtake 0).any (fun o => o.addr = 9 && o.linked && o.retiring) = true := by decide +kernel

theorem test_meets_JoiningSupplyFollowsTheLevel :
    (enrolled.offtake 0).any (fun o => decide (o.supply = .held) && admits enrolled.level o.prio) = true
      ∧ (let s := { enrolled with stack := [⟨4, .auto, .gas, []⟩] }
         (s.offtake 0).any (fun o => decide (o.supply = .held) && !admits s.level o.prio) = true)
      ∧ (bound.offtake 0).any (fun o => decide (o.supply ≠ .held)) = true ∧ enrolled.stack = [] := by decide +kernel

theorem test_meets_CallRepliesComplete :
    let s := after .poll bound
    let l := run [.legacy (writeLegacy 9#8 ⟨1, true⟩), .poll, .legacy (writeLegacy 9#8 ⟨1, true⟩), .poll] polled
    let b := run [.legacy (writeLegacy 9#8 ⟨1, true⟩), .poll] l
    s.exchange = some (.poll 0 9 false) ∧ readStatus (writeStatus 9#8 ⟨1000001, true⟩) = some ⟨1000001, true⟩
      ∧ (s.offtake 0).any (fun o => o.addr = 9 && o.link = .bound) = true
      ∧ (polled.offtake 0).any (fun o => o.addr = 9 && o.link = .listen && decide (o.legacyRun < 2)) = true
      ∧ l.exchange = some (.poll 0 9 false) ∧ readLegacy (writeLegacy 9#8 ⟨1, true⟩) = some ⟨1, true⟩
      ∧ (l.offtake 0).any (fun o => o.addr = 9 && o.link = .listen && o.legacyRun = 2 && modeIn o.cls.fixedMode o.permitted) = true
      ∧ b.exchange = some (.poll 0 9 false) ∧ (b.offtake 0).any (fun o => o.link = .legacyBound) = true
      ∧ (let n := l.modOfftake 0 fun o => { o with permitted := 0x05#6 }
         (n.offtake 0).any (fun o => o.legacyRun = 2 && !modeIn o.cls.fixedMode o.permitted) = true) := by
  decide +kernel

theorem test_meets_SetpointExchangeCompletes :
    let s := after .setpoint delivering
    let r := run [.retireOfftake .portA 5 0x31A00C#24, .setpoint] retiringState
    delivering.exchange = none ∧ delivering.afterPoll = true ∧ (delivering.setpointQueue.head?).map (·.slot) = some 5
      ∧ (delivering.offtake 5).isSome = true ∧ s.exchange = some (.setpoint 5 6 0 false)
      ∧ (s.offtake 5).any (fun o => !o.retiring) = true
      ∧ (6#8).toNat = 6 ∧ readAck (writeAck 6#8 0) = some 0 ∧ readAck (writeAck 6#8 1) ≠ some 0 ∧ s.attempts 5 < 2
      ∧ r.exchange = some (.setpoint 5 17 0 false) ∧ (r.offtake 5).any (·.retiring) = true
      ∧ 2 ≤ { s with setpointQueue := [⟨5, true, 2, true⟩] }.attempts 5 := by decide +kernel

theorem test_meets_GrantsEnterTheSetpointQueue :
    let q : List SetpointEntry := [⟨5, true, 0, false⟩] ++ [⟨2, false, 0, false⟩] ++ ⟨12, false, 1, true⟩ :: [⟨3,
      false, 0, false⟩]
    (∀ e ∈ q, e.slot ≠ 7) ∧ (∀ x ∈ [(⟨5, true, 0, false⟩ : SetpointEntry)], x.close = true ∧ x.slot ≠ 12)
      ∧ (∀ x ∈ [(⟨2, false, 0, false⟩ : SetpointEntry)], x.close = false ∧ x.slot ≠ 12)
      ∧ (∀ x ∈ [(⟨3, false, 0, false⟩ : SetpointEntry)], x.close = false ∧ x.slot ≠ 12)
      ∧ (1 : Nat) ≠ 0 := by decide

/-- Records in every supply state, over NORMAL and STALE channels. -/
def ticking : State :=
  let b := fun (n : Nat) => boiler (BitVec.ofNat 24 n) n 1 1 .lean 0 0 880
  let s := withRecords idle [(1, { b 1 with supply := .held }), (2, { b 2 with ackGrant := 100000 }),
    (3, { b 3 with overdrawTimer := 88 }), (4, { b 4 with supply := .shed, overdrawTimer := 89 }),
    (5, { b 5 with bind1 := 0 }), (6, { b 6 with supply := .cut }),
    (7, { b 7 with supply := .cut, bind1 := 10, idleTimer := 8 }), (8, { b 8 with supply := .cut, bind1 := 0 }),
    (9, { b 9 with supply := .lockout })]
  withChannels s [(10, reading .gasFlow 0)]

theorem test_meets_MeteringTickCompletes :
    let draws := fun (o : Offtake) => decide (o.ackGrant * 1050 / 1000 + 2000 < ticking.deliveredPower o)
    ticking.inReset = false ∧ ticking.offtake 0 = none
      ∧ (ticking.offtake 2).any (fun o => ticking.bindingsNormal o && !draws o) = true
      ∧ (ticking.offtake 3).any (fun o => ticking.bindingsNormal o && draws o && decide (o.overdrawTimer + 1 < 90)) = true
      ∧ (ticking.offtake 4).any (fun o => ticking.bindingsNormal o && draws o && decide (90 ≤ o.overdrawTimer + 1)) = true
      ∧ (ticking.offtake 5).any (fun o => !ticking.bindingsNormal o) = true
      ∧ (ticking.channels[40]?).any (fun c => c.condition = .normal && !c.flowIdle) = true
      ∧ (ticking.channels[10]?).any (fun c => c.condition = .normal && c.flowIdle) = true
      ∧ (ticking.channels[0]?).any (fun c => c.condition ≠ .normal) = true
      ∧ (ticking.offtake 7).any (fun o => decide (o.idleTimer + 1 < 10)) = true := by decide +kernel

/-- CUT records at the tenth idle second: one to be locked out, one to be HELD, and a retiring one, which is freed. -/
theorem test_meets_IdleReleasesInATick :
    let held := { cutIdle with plant := { Plant.reset with lockoutLimit := 4 } }
    let dying := cutIdle.modOfftake 14 fun o => { o with retiring := true }
    cutIdle.inReset = false
      ∧ (cutIdle.offtake 14).any (fun o => o.supply = .cut && !o.retiring && decide (10 ≤ o.idleTimer + 1)
        && decide (cutIdle.plant.lockoutLimit ≤ o.overdrawCount + 1)
        && (cutIdle.channels[o.bind1]?).any fun c => decide (c.condition = .normal) && c.flowIdle) = true
      ∧ (held.offtake 14).any (fun o => decide (o.overdrawCount + 1 < held.plant.lockoutLimit)) = true
      ∧ (dying.offtake 14).any (·.retiring) = true
      ∧ ((after .meteringTick held).offtake 14).map (fun o => (o.supply, o.overdrawCount, o.link)) = some (.held, 3, .quiet)
      ∧ (after .meteringTick dying).offtake 14 = none := by decide +kernel

/-- Account 305 with no record that names it, and the export account with no export channel. -/
def unnamed : State := withRecords settled [(12, station 7#24 7 0 10 0 0)]
def unmetered : State :=
  let s := exporting 0 0 0
  { s with plant := { s.plant with exportChannel := none } }

/-- The accounts of a tick: one that a record names, one that nothing names, and the export account below, within and
above its band. -/
theorem test_meets_MeteringTickAccounts :
    billing.numbersDistinct ∧ unnamed.numbersDistinct ∧ (exporting 80000 0 0).numbersDistinct
      ∧ (exporting 97000 0 0).numbersDistinct ∧ unmetered.numbersDistinct
      ∧ (billing.namedBy 305).map (·.retiring) = [false] ∧ billing.plant.exportAccount = none
      ∧ unnamed.namedBy 305 = [] ∧ (unnamed.accountAt 3).map (·.number) = some 305
      ∧ (exporting 80000 0 0).plant.exportAccount = some 900 ∧ (exporting 80000 0 0).plant.exportChannel = some 25
      ∧ ((exporting 80000 0 0).accountAt 0).map (fun a =>
        (a.number, a.shortfall, a.shortfallResidue, a.surplus, a.surplusResidue)) =
          some (900, some 0, some 0, some 0, some 0)
      ∧ 0 < 90000 - (exporting 80000 0 0).plant.exportTolerance - ((exporting 80000 0 0).effValue 25).toNat
      ∧ 0 < ((exporting 97000 0 0).effValue 25).toNat - 90000 - (exporting 97000 0 0).plant.exportTolerance
      ∧ 90000 - (exporting 97000 0 0).plant.exportTolerance - ((exporting 97000 0 0).effValue 25).toNat = 0
      ∧ unmetered.plant.exportAccount = some 900 ∧ unmetered.plant.exportChannel = none := by
  refine ⟨billing_numbers, distinct_of_one (n := 3) (by decide +kernel), distinct_of_one (n := 0) (by decide +kernel),
    distinct_of_one (n := 0) (by decide +kernel), distinct_of_one (n := 0) (by decide +kernel), ?_⟩
  decide +kernel

theorem test_meets_CutAndIdleReleaseComplete :
    idle.inReset = false ∧ (ticking.offtake 2).any (fun o => o.supply = .active) = true
      ∧ (ticking.offtake 4).any (fun o => o.supply = .shed) = true
      ∧ (cutIdle.offtake 14).any (fun o => o.supply = .cut && !o.retiring && decide (cutIdle.plant.lockoutLimit ≤ o.overdrawCount + 1)) = true
      ∧ (ticking.offtake 6).any (fun o => o.supply = .cut && !o.retiring && decide (o.overdrawCount + 1 < ticking.plant.lockoutLimit)) = true
      ∧ ((after (.retireOfftake .portA 14 7#24) (cutIdle.modOfftake 14 fun o => { o with ackGrant := 5 })).offtake 14).any
        (fun o => o.supply = .cut && o.retiring) = true := by decide +kernel

theorem test_meets_RestartCompletes :
    let s := freed completed
    (∀ r, s.takes .portA r (one Port.reset)) ∧ s.hasRight .portA .maintain = true ∧ s.offtake 0 = none
      ∧ (∀ i o, s.offtake i = some o → o.retiring = false)
      ∧ (let t := freed (after (.retireOfftake .portA 5 0x31A00C#24) retiringState)
         t.numbersDistinct ∧ (t.offtake 5).any (·.retiring) = true
           ∧ (t.accountAt 4).map (fun a => ((t.namedBy a.number).filter (·.retiring)).length) = some 1) := by
  refine ⟨takes_one (p := .portA) (by decide +kernel), by decide +kernel, by decide +kernel, ?_,
    distinct_of_one (n := 4) (by decide +kernel), by decide +kernel, by decide +kernel⟩
  intro i o ho
  simpa using every_slot (s := freed completed) (f := fun _ o => !o.retiring) (by decide +kernel) i o ho

/-! The laws hold of the works after its first completion, with lists, closes and grants standing. -/

theorem test_meets_RecordsStayDistinct :
    town.recordsDistinct ∧ (∃ t, step { town with pending := [.passBegin] } = .next t)
      ∧ (town.offtake 1).any (fun o => o.tag = 1#24 && o.addr = 1) = true
      ∧ createValuesOk ⟨1#24, figures⟩ .boiler = true
      ∧ createValuesOk ⟨0x0A2210#24, { figures with addr := 1 }⟩ .boiler = true
      ∧ (∀ i x, town.offtake i = some x → x.tag ≠ 0x0A2210#24) := by
  refine ⟨town_distinct, ⟨_, rfl⟩, by decide +kernel, by decide +kernel, by decide +kernel, ?_⟩
  intro i x hx
  simpa using every_slot (s := town) (f := fun _ o => decide (o.tag ≠ 0x0A2210#24)) (by decide +kernel) i x hx

theorem completed_linkOk : completed.everyRecord Offtake.linkOk := by
  intro i o ho
  have := every_slot (s := completed) (f := fun _ o =>
    decide (o.link = .bound) && o.mode.any (modeIn · o.permitted) && !o.retiring
      && (decide (o.supply = .active) || decide (o.grant = 0)) && decide (o.ackGrant = 0)) (by decide +kernel) i o ho
  simp only [Bool.and_eq_true, decide_eq_true_eq, Bool.not_eq_true', Bool.or_eq_true, Option.any_eq_true] at this
  obtain ⟨⟨⟨⟨hl, m, hm, hp⟩, hr⟩, hg⟩, ha⟩ := this
  have hk : o.linked = true := by simp [Offtake.linked, hl, LinkState.linked]
  refine ⟨by simp [hl], fun _ => ⟨m, hm, hp⟩, fun _ => hk, ?_, by simp [hr], fun _ => hk⟩
  intro hs
  exact hg.resolve_left hs

theorem completed_queueOk : completed.queueOk := by
  refine ⟨by decide +kernel, ?_, by decide +kernel⟩
  intro e he
  have : ∀ e ∈ completed.setpointQueue, (completed.offtake e.slot).any (·.linked) = true
      ∧ e.attempts ≤ 2 := by decide +kernel
  obtain ⟨h1, h2⟩ := this e he
  cases ho : completed.offtake e.slot with
  | none => simp [ho] at h1
  | some o => exact ⟨⟨o, rfl, by simpa [ho] using h1⟩, h2⟩

theorem completed_flightOk : completed.flightOk := by
  have hx : completed.exchange = none := by decide +kernel
  have hn : ∀ i, ¬ completed.exchanging i := by
    rintro i ⟨a, v, h⟩
    rw [hx] at h
    cases h
  have hf : ∀ e ∈ completed.setpointQueue, e.inFlight = false := by decide +kernel
  exact ⟨fun e he => ⟨fun h => absurd ((hf e he).symm.trans h) (by decide), fun h => absurd h (hn _)⟩,
    fun i h => absurd h (hn i)⟩

theorem completed_listsOk : completed.listsOk := by
  refine ⟨by decide +kernel, fun i => ⟨fun hi => ?_, fun ⟨o, ho, hs⟩ => ?_⟩⟩
  · have : ∀ i ∈ completed.listed, (completed.offtake i).any (·.supply = .shed) = true := by decide +kernel
    have h := this i hi
    cases ho : completed.offtake i with
    | none => simp [ho] at h
    | some o => exact ⟨o, rfl, by simpa [ho] using h⟩
  · have := every_slot (s := completed) (f := fun i o => decide (o.supply ≠ .shed) || completed.listed.contains i)
      (by decide +kernel) i o ho
    simpa [hs] using this

theorem completed_serviceOk : completed.serviceOk :=
  ⟨completed_linkOk, completed_queueOk, completed_flightOk, completed_listsOk⟩

theorem completed_deliveryOk : completed.deliveryOk := by
  intro i o ho _ hg
  have := every_slot (s := completed)
    (f := fun i o => decide (o.grant = o.ackGrant) || completed.setpointQueue.any (·.slot = i)) (by decide +kernel) i o ho
  simpa [hg] using this

theorem test_meets_ServiceStaysConsistent :
    completed.serviceOk ∧ ∃ t, step { completed with pending := [.passBegin] } = .next t :=
  ⟨completed_serviceOk, _, rfl⟩

theorem test_meets_UnconfirmedGrantsStayQueued :
    completed.serviceOk ∧ completed.deliveryOk
      ∧ (completed.offtake 1).any (fun o => decide (o.grant ≠ o.ackGrant)) = true :=
  ⟨completed_serviceOk, completed_deliveryOk, by decide +kernel⟩

/-- The pass in flight over the works at level 3, with its entries for the four records in supply. -/
theorem test_meets_PassEntriesStayActive : (after .passBegin completed).tableOk
    ∧ ((after .passBegin completed).pass.map fun p => p.table.map (·.slot)) = some [1, 2, 4, 12] := by
  refine ⟨?_, by decide +kernel⟩
  intro p hp e he _
  have h : ∀ q ∈ (after .passBegin completed).pass.toList, ∀ e ∈ q.table,
      ((after .passBegin completed).offtake e.slot).any (·.supply = .active) = true := by decide +kernel
  have := h p (by simp [hp]) e he
  cases ho : (after .passBegin completed).offtake e.slot with
  | none => simp [ho] at this
  | some o => exact ⟨o, rfl, by simpa [ho] using this⟩

theorem test_meets_StackStaysOrdered : pushed.stackOk ∧ pushed.stack.length = 2 := by
  unfold State.stackOk
  decide +kernel

theorem test_meets_ReservesStayWithinLimits :
    works0.reservesOk ∧ (∀ r, works0.takes .portA r (one Port.reset))
      ∧ 3 * (700 - 300) / 4 < 50 - 0 + min (260 : Int).toNat 2147483647
      ∧ 3 * (highOf ⟨0, 0, 0, 0, 0, 0, none, none, 300, 400, 400, 0, 0⟩ - 340) / 4 < works0.grades.tg.reserveTotal
      ∧ gradeValuesOk ⟨0, 0, 0, 0, 0, 0, none, none, 340, 400, 400, 0, 0⟩ = true :=
  ⟨works0_reserves, takes_one (p := .portA) (by decide +kernel), by decide, by decide +kernel, by decide⟩

theorem test_meets_LedgerStaysBalanced : billing.ledgerOk := by
  refine ⟨billing_numbers, ⟨?_, ?_, ?_⟩, ?_⟩
  · intro e a ha
    simpa using every_entry (s := billing) (f := fun _ a => decide (a.boundCount = billing.namings a.number)) (by decide +kernel) e a ha
  · intro i o n ho hn
    have := every_slot (s := billing) (f := fun _ o => decide (o.account = some 305) && decide (o.cls = .heatSub)) (by decide +kernel) i o ho
    simp only [Bool.and_eq_true, decide_eq_true_eq] at this
    rw [this.1] at hn
    cases hn
    exact ⟨3, account305, by decide +kernel, rfl, by rw [this.2]; rfl⟩
  · intro n hn
    exact absurd hn (by simp [billing, withChannels, withRecords, State.withPair, State.withAccount,
      State.withChannel, State.putOfftake, State.reset, State.released, Plant.reset])
  · intro e a ha
    have := every_entry (s := billing) (f := fun _ a => decide (a = account305)) (by decide +kernel) e a ha
    rw [decide_eq_true_eq.mp this]
    simp [Account.figuresOk, AccountKind.deviationOk, BandFigures.ok, account305, newAccount, AccountKind.deviation,
      BandFigures.zero, Config.maxEnergy, Config.maxCharge]

theorem test_meets_PassResultsStayConsistent : completed.resultsOk
    ∧ town.view.loop = some ⟨8000, 950, 600⟩ ∧ town.view.policy = .exportFirst ∧ works0.view.loop = none
    ∧ works0.view.policy = .heatFirst := by
  refine ⟨⟨by unfold Balance.ok; decide +kernel, fun g => ?_⟩, by decide +kernel, by decide +kernel,
    by decide +kernel, by decide +kernel⟩
  cases g <;> (unfold GradeResults.ok; decide +kernel)

theorem test_meets_FiguresStayInRange : completed.listsOk ∧ completed.limitsOk ∧ completed.channelsOk := by
  refine ⟨completed_listsOk, ⟨by unfold Plant.ok; decide +kernel, ?_, ?_⟩, ?_⟩
  · intro i o ho _
    simpa using every_slot (s := completed) (f := fun _ o => decide (o.overdrawCount < completed.plant.lockoutLimit)) (by decide +kernel) i o ho
  · intro i o ho
    have := every_slot (s := completed) (f := fun _ o => decide (o.link = .bound) && decide (o.overdrawTimer = 0)
      && decide (o.idleTimer = 0) && decide (o.quietMs = 4000) && decide (o.silenceMs = 0) && decide (o.confirmCount = 3)
      && decide (o.legacyRun = 0)) (by decide +kernel) i o ho
    simp only [Bool.and_eq_true, decide_eq_true_eq] at this
    simp [Offtake.timersOk, this, Config.quietMs, Config.silenceMs]
  · unfold State.channelsOk Channel.ok
    decide +kernel

theorem test_meets_NoticesStaySettled : completed.noticesOk := by
  unfold State.noticesOk NoticeEntry.ok
  decide +kernel

end Sys2Proof.Tests
end

section
/-! ## Tags and link addresses (R2)

A tag and an address are written by CREATE_OFFTAKE and AMEND_OFFTAKE alone. `State.KeepsIdentities` says so of every
other operation: no record appears, and those that stay keep their tag and address. -/

namespace Sys2Proof.Machine

open Sys2Proof

/-- Every record of `t` stood in its slot of `s`, with the same tag and link address. -/
structure State.KeepsIdentities (s t : State) : Prop where
  source : ∀ i b, t.offtake i = some b → ∃ a, s.offtake i = some a ∧ a.tag = b.tag ∧ a.addr = b.addr

namespace State.KeepsIdentities

variable {s t u : State}

theorem refl (s : State) : s.KeepsIdentities s := ⟨fun _ b h => ⟨b, h, rfl, rfl⟩⟩

theorem trans (h : s.KeepsIdentities t) (h' : t.KeepsIdentities u) : s.KeepsIdentities u := by
  refine ⟨fun i c hc => ?_⟩
  obtain ⟨b, hb, htag, haddr⟩ := h'.source i c hc
  obtain ⟨a, ha, htag', haddr'⟩ := h.source i b hb
  exact ⟨a, ha, htag'.trans htag, haddr'.trans haddr⟩

/-- Records that stay distinct: the law R2 follows the identities. -/
theorem recordsDistinct (h : s.KeepsIdentities t) (hs : s.recordsDistinct) : t.recordsDistinct := by
  intro i j a b ha hb hij
  obtain ⟨a', ha', hatag, haaddr⟩ := h.source i a ha
  obtain ⟨b', hb', hbtag, hbaddr⟩ := h.source j b hb
  rw [← hatag, ← hbtag, ← haaddr, ← hbaddr]
  exact hs i j a' b' ha' hb' hij

/-! ### Writes of a slot -/

theorem slots (h : s.KeepsIdentities t) (hu : u.slots = t.slots) : s.KeepsIdentities u :=
  ⟨fun i b hb => h.source i b (State.offtake_of_slots hu i ▸ hb)⟩

theorem modOfftake (h : s.KeepsIdentities t) (i : Nat) (f : Offtake → Offtake)
    (hf : ∀ o, (f o).tag = o.tag ∧ (f o).addr = o.addr := by exact fun _ => ⟨rfl, rfl⟩) :
    s.KeepsIdentities (t.modOfftake i f) := by
  refine h.trans ⟨fun j b hb => ?_⟩
  rw [State.offtake_modOfftake] at hb
  split at hb
  · obtain ⟨a, ha, rfl⟩ := Option.map_eq_some_iff.mp hb
    exact ⟨a, ha, (hf a).1.symm, (hf a).2.symm⟩
  · exact ⟨b, hb, rfl, rfl⟩

theorem putOfftake (h : s.KeepsIdentities t) {i : Nat} {o : Offtake} (ho : t.offtake i = some o) (o' : Offtake)
    (htag : o'.tag = o.tag := by rfl) (haddr : o'.addr = o.addr := by rfl) :
    s.KeepsIdentities (t.putOfftake i (some o')) := by
  rw [← State.modOfftake_eq ho fun _ => o']
  refine h.trans ⟨fun j b hb => ?_⟩
  rw [State.offtake_modOfftake] at hb
  split at hb
  · next hij =>
    subst hij
    rw [ho] at hb
    cases hb
    exact ⟨o, ho, htag.symm, haddr.symm⟩
  · exact ⟨b, hb, rfl, rfl⟩

/-- Every record rewritten by `f`. -/
theorem mapSlots (h : s.KeepsIdentities t) (f : Offtake → Offtake) (hu : u.slots = t.slots.map (Option.map f))
    (hf : ∀ o, (f o).tag = o.tag ∧ (f o).addr = o.addr := by exact fun _ => ⟨rfl, rfl⟩) :
    s.KeepsIdentities u := by
  refine h.trans ⟨fun j b hb => ?_⟩
  have hmap : u.offtake j = (t.offtake j).map f := by
    unfold State.offtake
    rw [hu, Vector.getElem?_map]
    cases t.slots[j]? <;> rfl
  rw [hmap] at hb
  obtain ⟨a, ha, rfl⟩ := Option.map_eq_some_iff.mp hb
  exact ⟨a, ha, (hf a).1.symm, (hf a).2.symm⟩

theorem free (h : s.KeepsIdentities t) (i : Nat) : s.KeepsIdentities (t.free i) := by
  refine h.trans ⟨fun j b hb => ?_⟩
  rw [State.offtake_free] at hb
  split at hb
  · cases hb
  · exact ⟨b, hb, rfl, rfl⟩

theorem foldl {α : Type} {f : State → α → State} (hf : ∀ t a, s.KeepsIdentities t → s.KeepsIdentities (f t a))
    (l : List α) (h : s.KeepsIdentities t) : s.KeepsIdentities (l.foldl f t) := by
  induction l generalizing t with
  | nil => exact h
  | cons a l ih => exact ih (hf t a h)

/-! ### The shared operations -/

theorem dropEntry (h : s.KeepsIdentities t) (i : Nat) : s.KeepsIdentities (t.dropEntry i) := h.slots rfl

theorem abandon (h : s.KeepsIdentities t) (i : Nat) : s.KeepsIdentities (t.abandon i) := h.slots (by simp)

theorem raise (h : s.KeepsIdentities t) (k : NoticeKind) (n : Nat) : s.KeepsIdentities (t.raise k n) := h.slots rfl

theorem handGrant (h : s.KeepsIdentities t) (i : Nat) : s.KeepsIdentities (t.handGrant i) := h.slots (by simp)

theorem withdraw (h : s.KeepsIdentities t) (i : Nat) (st : Supply) : s.KeepsIdentities (t.withdraw i st) :=
  (h.modOfftake i fun o => { o.zeroGrant with supply := st }).slots (by simp [State.withdraw])

theorem leaveLinked (h : s.KeepsIdentities t) (i : Nat) : s.KeepsIdentities (t.leaveLinked i) := by
  unfold State.leaveLinked
  split
  · next o _ =>
    have hw : s.KeepsIdentities (if o.supply = .active then t.withdraw i .held else t) := by
      split
      · exact h.withdraw i .held
      · exact h
    have hq := ((hw.modOfftake i fun o =>
      { o with ackGrant := 0, legacy := if o.link = .legacyBound then false else o.legacy }).dropEntry i).abandon i
    dsimp only
    split
    · exact hq.free i
    · exact hq
  · exact h

theorem unlink (h : s.KeepsIdentities t) (i : Nat) : s.KeepsIdentities (t.unlink i) := by
  unfold State.unlink
  repeat' split
  · exact h.leaveLinked i
  · exact h
  · exact h

theorem enterQuiet (h : s.KeepsIdentities t) (i : Nat) : s.KeepsIdentities (t.enterQuiet i) :=
  (h.unlink i).modOfftake i Offtake.quieted

theorem linkLoss (h : s.KeepsIdentities t) (i : Nat) : s.KeepsIdentities (t.linkLoss i) := (h.enterQuiet i).slots rfl

theorem joinSupply (h : s.KeepsIdentities t) (i : Nat) : s.KeepsIdentities (t.joinSupply i) := by
  unfold State.joinSupply
  repeat' split
  · exact h.modOfftake i _
  · exact (h.modOfftake i fun o => { o with supply := .shed }).slots (by simp)
  · exact h
  · exact h

theorem cutRecord (h : s.KeepsIdentities t) (i : Nat) : s.KeepsIdentities (t.cutRecord i) :=
  ((h.withdraw i .cut).modOfftake i fun o => { o with overdrawTimer := 0, idleTimer := 0 }).slots
    (by simp [State.cutRecord])

theorem releaseIdle (h : s.KeepsIdentities t) (i : Nat) : s.KeepsIdentities (t.releaseIdle i) := by
  unfold State.releaseIdle
  split
  · next o _ =>
    split
    · exact h.free i
    · refine enterQuiet ?_ i
      split
      · exact (h.modOfftake i _).slots rfl
      · exact h.modOfftake i _
  · exact h

theorem shedEach (is : List Nat) (h : s.KeepsIdentities t) : s.KeepsIdentities (t.shedEach is).1 := by
  induction is generalizing t with
  | nil => exact h
  | cons i is ih =>
    unfold State.shedEach
    split
    · exact ih (h.withdraw i .shed)
    · exact ih h

theorem push (h : s.KeepsIdentities t) (level : Nat) (o : Origin) (c : Cause) (lead : List Nat) :
    s.KeepsIdentities (t.push level o c lead) :=
  ((h.shedEach lead).shedEach _).slots rfl

theorem pop (h : s.KeepsIdentities t) : s.KeepsIdentities t.pop :=
  h.slots (congrArg State.slots t.pop_frame :)

theorem recover (h : s.KeepsIdentities t) : s.KeepsIdentities t.recover := by
  unfold State.recover
  split
  · exact h.pop
  · exact h

theorem readmitFrom (q : List Nat) (h : s.KeepsIdentities t) : s.KeepsIdentities (t.readmitFrom q) := by
  induction q generalizing t with
  | nil => exact h.slots rfl
  | cons i q ih =>
    unfold State.readmitFrom
    split
    · exact (h.modOfftake i Offtake.readmitted).slots rfl
    · exact ih (h.slots (by simp))

end State.KeepsIdentities
end Sys2Proof.Machine
end

section
namespace Sys2Proof.Machine

open Sys2Proof

namespace State.KeepsIdentities

variable {s t u : State}

/-! ### The offtake link -/

theorem quietExpiry (h : s.KeepsIdentities t) (i : Nat) : s.KeepsIdentities (t.quietExpiry i) := by
  unfold State.quietExpiry
  repeat' split
  · exact h
  · exact h.modOfftake i _
  · exact h

theorem silenceExpiry (h : s.KeepsIdentities t) (i : Nat) : s.KeepsIdentities (t.silenceExpiry i) := by
  unfold State.silenceExpiry
  repeat' split
  · exact h
  · exact h
  · exact h.modOfftake i _
  all_goals exact h.linkLoss i

theorem failAttempt (h : s.KeepsIdentities t) : s.KeepsIdentities t.failAttempt := by
  unfold State.failAttempt
  split
  · next i _ _ _ =>
    dsimp only
    split
    · exact (h.slots (u := t.setpointEnded) rfl).linkLoss i
    · exact h.slots rfl
  · exact h.slots rfl
  · exact h
  · exact h

theorem takeReply {α : Type} (h : s.KeepsIdentities t) (addr : Byte) (data : Option α) (f : State → Nat → α → State)
    (hf : ∀ t i d, s.KeepsIdentities t → s.KeepsIdentities (f t i d)) : s.KeepsIdentities (t.takeReply addr data f) := by
  unfold State.takeReply
  split
  · have hended : s.KeepsIdentities t.pollEnded := h.slots rfl
    split
    · exact hf _ _ _ hended
    · exact hended
    · exact hended
  · exact h.failAttempt
  · exact h

theorem listenAdvert (h : s.KeepsIdentities t) (i : Nat) (a : AdvertData) : s.KeepsIdentities (t.listenAdvert i a) := by
  unfold State.listenAdvert
  split
  · exact h
  · next o ho =>
    dsimp only
    split
    · exact h.putOfftake ho _
    · split
      · exact h.putOfftake ho _
      · exact (h.putOfftake ho _).raise _ _

theorem confirmAdvert (h : s.KeepsIdentities t) {i : Nat} {o : Offtake} (ho : t.offtake i = some o) (a : AdvertData) :
    s.KeepsIdentities (t.confirmAdvert i o a) := by
  unfold State.confirmAdvert
  repeat' split
  · exact (h.putOfftake ho _).joinSupply i
  · exact h.putOfftake ho _
  · exact h.putOfftake ho _
  · exact (h.putOfftake ho _).listenAdvert i a

theorem boundAdvert (h : s.KeepsIdentities t) (i : Nat) (a : AdvertData) : s.KeepsIdentities (t.boundAdvert i a) :=
  ((h.leaveLinked i).modOfftake i _).listenAdvert i a

theorem takeAdvert (t : State) (i : Nat) (a : AdvertData) (h : s.KeepsIdentities t) :
    s.KeepsIdentities (t.takeAdvert i a) := by
  unfold State.takeAdvert
  split
  · exact h
  · next o ho =>
    split
    · exact h.listenAdvert i _
    · exact h.confirmAdvert ho _
    · exact h.boundAdvert i _
    · exact h.boundAdvert i _
    · exact h

theorem takeStatus (t : State) (i : Nat) (c : CallData) (h : s.KeepsIdentities t) :
    s.KeepsIdentities (t.takeStatus i c) := by
  unfold State.takeStatus
  split
  · exact h.modOfftake i (Offtake.called c)
  · exact h

theorem listenLegacy (h : s.KeepsIdentities t) {i : Nat} {o : Offtake} (ho : t.offtake i = some o) (c : CallData) :
    s.KeepsIdentities (t.listenLegacy i o c) := by
  unfold State.listenLegacy
  dsimp only
  repeat' split
  · exact h.putOfftake ho _
  · exact (h.putOfftake ho _).joinSupply i
  · exact h.putOfftake ho _
  · exact (h.putOfftake ho _).raise _ _

theorem takeLegacy (t : State) (i : Nat) (c : CallData) (h : s.KeepsIdentities t) :
    s.KeepsIdentities (t.takeLegacy i c) := by
  unfold State.takeLegacy
  split
  · exact h
  · next o ho =>
    split
    · exact h.listenLegacy ho c
    · exact h.modOfftake i (Offtake.called c)
    all_goals exact h

theorem takeAck (h : s.KeepsIdentities t) (m : LinkMsg) : s.KeepsIdentities (t.takeAck m) := by
  unfold State.takeAck
  repeat' split
  · unfold State.acknowledge
    split
    · exact h.slots rfl
    · have hended : s.KeepsIdentities t.setpointEnded := h.slots rfl
      dsimp only
      split
      · exact ((hended.modOfftake _ _).dropEntry _).free _
      · exact ((hended.modOfftake _ _).dropEntry _).handGrant _
  · exact h.failAttempt
  · exact h.slots rfl
  · exact h.slots rfl
  · exact h

/-! ### The metering tick -/

theorem superviseDraw (h : s.KeepsIdentities t) (i : Nat) (o : Offtake) : s.KeepsIdentities (t.superviseDraw i o) := by
  unfold State.superviseDraw
  dsimp only
  repeat' split
  · exact h.modOfftake i _
  · exact h.modOfftake i _
  · exact (h.modOfftake i _).cutRecord i
  · exact h.modOfftake i _

theorem superviseIdle (h : s.KeepsIdentities t) (i : Nat) (o : Offtake) : s.KeepsIdentities (t.superviseIdle i o) := by
  have hcleared := h.modOfftake i fun o => { o with overdrawTimer := 0 }
  unfold State.superviseIdle
  dsimp only
  repeat' split
  · exact hcleared
  · exact hcleared
  · exact hcleared.modOfftake i _
  · exact (hcleared.modOfftake i _).releaseIdle i
  · exact hcleared.modOfftake i _

theorem supervise (t : State) (i : Nat) (h : s.KeepsIdentities t) : s.KeepsIdentities (t.supervise i) := by
  unfold State.supervise
  repeat' split
  · exact h
  · exact h.superviseDraw i _
  · exact h.superviseDraw i _
  · exact h.superviseIdle i _
  · exact h.modOfftake i _
  · exact h.modOfftake i _

end State.KeepsIdentities

/-! ### What leaves the slots as they are -/

@[simp] theorem State.markEstimated_slots (s : State) (n : Nat) (est : Bool) : (s.markEstimated n est).slots = s.slots := by
  simp [State.markEstimated]

@[simp] theorem State.raiseCarry_slots (s : State) (n : Nat) (ans : PriceAnswer) : (s.raiseCarry n ans).slots = s.slots := by
  unfold State.raiseCarry
  dsimp only
  repeat' split
  all_goals rfl

@[simp] theorem State.carry_slots (s : State) (n amount : Nat) : (s.carry n amount).slots = s.slots := by
  unfold State.carry
  dsimp only
  repeat' split
  all_goals simp

@[simp] theorem State.feedAccount_slots (s : State) (n : Nat) : (s.feedAccount n).slots = s.slots := by
  unfold State.feedAccount State.feedExport State.feedRecords
  dsimp only
  repeat' split
  all_goals simp

@[simp] theorem State.bindCount_slots (s : State) (n : Option Nat) : (s.bindCount n).slots = s.slots := by
  unfold State.bindCount
  split <;> simp

@[simp] theorem State.unbindCount_slots (s : State) (n : Option Nat) : (s.unbindCount n).slots = s.slots := by
  unfold State.unbindCount
  split <;> simp

@[simp] theorem State.setExport_slots (s : State) (n : Option Nat) : (s.setExport n).slots = s.slots := by
  unfold State.setExport
  split <;> simp

@[simp] theorem State.repriceBand_slots (s : State) (n : Nat) (b : Band) : (s.repriceBand n b).slots = s.slots := by
  unfold State.repriceBand
  dsimp only
  repeat' split
  all_goals simp

@[simp] theorem State.judgeReserve_slots (s : State) (g : Grade) : (s.judgeReserve g).slots = s.slots := by
  unfold State.judgeReserve
  dsimp only
  split <;> rfl

@[simp] theorem State.takeSample_slots (s : State) (d : SampleData) : (s.takeSample d).slots = s.slots := by
  unfold State.takeSample
  dsimp only
  repeat' split
  all_goals rfl

@[simp] theorem State.ageExpiry_slots (s : State) (c : Nat) : (s.ageExpiry c).slots = s.slots := by
  unfold State.ageExpiry
  dsimp only
  repeat' split
  all_goals rfl

@[simp] theorem State.staleExpiry_slots (s : State) (c : Nat) : (s.staleExpiry c).slots = s.slots := by
  unfold State.staleExpiry
  repeat' split
  all_goals rfl

@[simp] theorem State.beginPoll_slots (s : State) : s.beginPoll.slots = s.slots := by
  unfold State.beginPoll
  repeat' split
  all_goals rfl

@[simp] theorem State.pollTimedOut_slots (s : State) : s.pollTimedOut.slots = s.slots := by
  unfold State.pollTimedOut
  split <;> rfl

@[simp] theorem State.beginSetpoint_slots (s : State) : s.beginSetpoint.slots = s.slots := by
  unfold State.beginSetpoint
  repeat' split
  all_goals rfl

/-! ### The parts of a pass completion -/

/-- The shed set of a pass, less the records whose entries are void (R120). -/
def Pass.shedMembers (p : Pass) : List ShedMember := p.view.result.shed.filter fun m => !voided p.table m.slot

/-- The grants of the result table are written and handed on (R118). -/
def State.grantsWritten (s : State) (p : Pass) : State := p.table.foldl (State.writeGrant p.view.result) s

/-- The grants, the figures and the sequence number of the pass are written (R118 to R120, R134). -/
def State.figuresWritten (s : State) (p : Pass) : State :=
  { ((s.grantsWritten p).writeResults p.view.result).writeBalance p.view.result.balance with
    passSeq := (s.passSeq + 1) % 65536 }

theorem State.completePass_none {s : State} (h : s.pass = none) : s.completePass = s := by
  simp [State.completePass, h]

theorem State.writeGrant_frame (r : PassResult) (s : State) (e : PassEntry) :
    s.writeGrant r e = { s with slots := (s.writeGrant r e).slots, setpointQueue := (s.writeGrant r e).setpointQueue } := by
  unfold State.writeGrant
  split
  · rfl
  · rw [State.handGrant_frame, State.modOfftake_frame]

theorem State.grantsWritten_frame (s : State) (p : Pass) :
    s.grantsWritten p = { s with
      slots := (s.grantsWritten p).slots
      setpointQueue := (s.grantsWritten p).setpointQueue } := by
  have key : ∀ (es : List PassEntry) (s : State), es.foldl (State.writeGrant p.view.result) s = { s with
      slots := (es.foldl (State.writeGrant p.view.result) s).slots
      setpointQueue := (es.foldl (State.writeGrant p.view.result) s).setpointQueue } := by
    intro es
    induction es with
    | nil => intro s; rfl
    | cons e es ih => intro s; rw [List.foldl_cons, ih, State.writeGrant_frame]
  exact key p.table s

theorem State.writeBalance_frame (s : State) (b : Balance) :
    s.writeBalance b = { s with balance := b, notices := (s.writeBalance b).notices } := by
  unfold State.writeBalance
  dsimp only
  split <;> rfl

/-- Beyond what the grants change, the figures of the pass, the sequence number and the notice of a short pass. -/
theorem State.figuresWritten_frame (s : State) (p : Pass) :
    s.figuresWritten p = { s with
      slots := (s.grantsWritten p).slots
      setpointQueue := (s.grantsWritten p).setpointQueue
      grades := .ofFn fun g => { s.grades.get g with last := p.view.result.grades.get g }
      balance := p.view.result.balance
      passSeq := (s.passSeq + 1) % 65536
      notices := (s.figuresWritten p).notices } := by
  unfold State.figuresWritten
  rw [State.writeBalance_frame, State.writeResults, State.grantsWritten_frame]

@[simp] theorem State.figuresWritten_slots (s : State) (p : Pass) :
    (s.figuresWritten p).slots = (s.grantsWritten p).slots :=
  (congrArg State.slots (State.figuresWritten_frame s p) :)

/-- A completion writes what the pass has given and takes its outcome (R118 to R120). -/
theorem State.completePass_some {s : State} {p : Pass} (h : s.pass = some p) :
    s.completePass =
      { (s.figuresWritten p).takeOutcome p.shedMembers p.view.interval with pass := none } := by
  have hseq : (((s.grantsWritten p).writeResults p.view.result).writeBalance p.view.result.balance).passSeq = s.passSeq := by
    rw [State.writeBalance_frame, State.writeResults, State.grantsWritten_frame]
  unfold State.completePass State.figuresWritten
  rw [h, ← hseq]
  rfl

namespace State.KeepsIdentities

variable {s t : State}

theorem meteringTick (s : State) : s.KeepsIdentities s.meteringTick := by
  have hmeasured : s.KeepsIdentities s.measure := (refl s).mapSlots s.measured rfl
  have hfed := foldl (f := State.feedAccount) (fun _ _ h => h.slots (State.feedAccount_slots _ _))
    s.measure.accountNumbers hmeasured
  exact (foldl supervise slotNumbers hfed).slots (by rw [State.meteringTick])

/-! ### The pass -/

theorem beginPass (s : State) : s.KeepsIdentities s.beginPass := by
  unfold State.beginPass
  split
  · exact refl s
  · have hread := readmitFrom s.readmission (refl s)
    exact (foldl (f := State.judgeReserve) (fun _ _ h => h.slots (State.judgeReserve_slots _ _))
      [.tg, .og, .vg] hread).slots rfl

theorem writeGrant (r : PassResult) (t : State) (e : PassEntry) (h : s.KeepsIdentities t) :
    s.KeepsIdentities (t.writeGrant r e) := by
  unfold State.writeGrant
  split
  · exact h
  · exact (h.modOfftake e.slot (Offtake.granted r e.slot)).handGrant e.slot

theorem shedToTop (t : State) (i : Nat) (h : s.KeepsIdentities t) : s.KeepsIdentities (t.shedToTop i) := by
  unfold State.shedToTop
  split
  · exact (h.withdraw i .shed).slots (by simp [State.shed])
  · exact h

theorem takeOutcome (h : s.KeepsIdentities t) (ms : List ShedMember) (interval : Nat) :
    s.KeepsIdentities (t.takeOutcome ms interval) := by
  have hsheds : s.KeepsIdentities (t.takeSheds ms) := by
    unfold State.takeSheds
    split
    · exact h.push _ _ _ _
    · exact foldl shedToTop _ h
  exact (hsheds.slots (u := (t.takeSheds ms).judgeTimer (observedLevel ms) interval) rfl).recover

theorem completePass (s : State) : s.KeepsIdentities s.completePass := by
  cases hp : s.pass with
  | none => rw [State.completePass_none hp]; exact refl s
  | some p =>
    have hwritten : s.KeepsIdentities (s.grantsWritten p) := foldl (writeGrant p.view.result) p.table (refl s)
    have houtcome := (hwritten.slots (State.figuresWritten_slots s p)).takeOutcome p.shedMembers p.view.interval
    rw [State.completePass_some hp]
    exact houtcome.slots (by dsimp only)

/-! ### Events -/

/-- No event writes a tag or an address, or makes a record. -/
theorem event {c : Instr} {f : State → State} (hf : eventOf c = some f) (s : State) : s.KeepsIdentities (f s) := by
  have h := refl s
  cases c <;> simp only [eventOf, Option.some.injEq, reduceCtorEq] at hf <;> subst hf
  case writeFrame p x => exact h.slots (by simp)
  case readAnswer p x => exact h.slots (by simp)
  case sampleMessage bytes =>
    dsimp only
    split
    · exact h.slots (by simp)
    · exact h
  case ageExpiry c => exact h.slots (by simp)
  case staleTimerExpiry c => exact h.slots (by simp)
  case quietHoldExpiry i => exact h.quietExpiry i
  case silenceExpiry i => exact h.silenceExpiry i
  case poll => exact h.slots (by simp)
  case pollTimeout => exact h.slots (by simp)
  case advert m => exact h.takeReply _ _ _ takeAdvert
  case status m => exact h.takeReply _ _ _ takeStatus
  case legacy m => exact h.takeReply _ _ _ takeLegacy
  case setpoint => exact h.slots (by simp)
  case setpointAck m => exact h.takeAck m
  case failedAttempt => exact h.failAttempt
  case meteringTick => exact meteringTick s
  case cut i =>
    dsimp only [State.cutSlot]
    repeat' split
    · exact h.cutRecord i
    · exact h
    · exact h
  case idleRelease i =>
    dsimp only [State.idleSlot]
    repeat' split
    · exact h.releaseIdle i
    · exact h
    · exact h
  case passBegin => exact beginPass s
  case passCompletion => exact completePass s
  case recoveryHoldExpiry => exact h.recover

end State.KeepsIdentities
end Sys2Proof.Machine
end

section
/-! ## The records in slots, replies of requests -/
namespace Sys2Proof.Machine

open Sys2Proof

@[simp] theorem State.refuse_state (s : State) (r : Result) : (s.refuse r).state = s := rfl
@[simp] theorem State.refuse_body (s : State) (r : Result) : (s.refuse r).body = .empty := rfl
@[simp] theorem State.accept_state (s : State) : s.accept.state = s := rfl
@[simp] theorem State.accept_body (s : State) : s.accept.body = .empty := rfl

theorem mem_slotNumbers {i : Nat} : i ∈ slotNumbers ↔ i < 24 := List.mem_range

/-- The part holds a record other than that of slot `except` with the property. -/
theorem State.anyOther_iff {s : State} {except : Option Nat} {f : Offtake → Bool} :
    s.anyOther except f = true ↔ ∃ j o, s.offtake j = some o ∧ some j ≠ except ∧ f o = true := by
  simp only [State.anyOther, List.any_eq_true, Bool.and_eq_true, decide_eq_true_eq, Option.any_eq_true, mem_slotNumbers]
  constructor
  · rintro ⟨j, _, hj, o, ho, hf⟩
    exact ⟨j, o, ho, hj, hf⟩
  · rintro ⟨j, o, ho, hj, hf⟩
    exact ⟨j, State.offtake_lt ho, hj, o, ho, hf⟩

theorem State.anyOther_eq_false {s : State} {except : Option Nat} {f : Offtake → Bool} :
    s.anyOther except f = false ↔ ∀ j o, s.offtake j = some o → some j ≠ except → f o = false := by
  rw [← Bool.not_eq_true, State.anyOther_iff]
  simp

theorem State.findRecord_eq {s : State} {i : Nat} {o : Offtake} (h : s.offtake i = some o) :
    s.findRecord i o.tag = .ok o := by simp [State.findRecord, h]

theorem State.findRecord_ok {s : State} {i : Nat} {t : Tag} {o : Offtake} (h : s.findRecord i t = .ok o) :
    s.offtake i = some o ∧ o.tag = t := by
  unfold State.findRecord at h
  repeat' split at h
  · cases h
    exact ⟨‹_›, ‹_›⟩
  all_goals cases h

/-! ### R2 under the writes of a tag or an address -/

/-- A record put in a slot keeps R2 when no other slot's record has its tag or address. -/
theorem State.recordsDistinct_putOfftake {s : State} {i : Nat} {o : Offtake} (hs : s.recordsDistinct)
    (ho : ∀ j x, j ≠ i → s.offtake j = some x → x.tag ≠ o.tag ∧ x.addr ≠ o.addr) :
    (s.putOfftake i (some o)).recordsDistinct := by
  intro j k a b ha hb hjk
  rw [State.offtake_putOfftake] at ha hb
  split at ha <;> split at hb
  · omega
  · cases ha
    obtain ⟨htag, haddr⟩ := ho k b (by omega) hb
    exact ⟨htag.symm, haddr.symm⟩
  · cases hb
    exact ho j a (by omega) ha
  · exact hs j k a b ha hb hjk

theorem reqCreateOfftake_keeps_distinct (p : PortId) (b : CreateBody) {s : State} (hs : s.recordsDistinct) :
    (reqCreateOfftake p b s).state.recordsDistinct := by
  unfold reqCreateOfftake
  repeat' split
  iterate 7 · exact hs
  next htag haddr _ i _ =>
    rw [Bool.not_eq_true, State.anyOther_eq_false] at htag haddr
    refine State.recordsDistinct_putOfftake hs fun j x _ hx => ⟨?_, ?_⟩
    · simpa [createdRecord] using htag j x hx (by simp)
    · simpa [createdRecord] using haddr j x hx (by simp)

@[simp] theorem amended_tag (b : AmendBody) (o : Offtake) : (amended b o).tag = o.tag := rfl

@[simp] theorem Offtake.rebound_tag (o after : Offtake) : (o.rebound after).tag = after.tag := by
  unfold Offtake.rebound; split <;> rfl

@[simp] theorem Offtake.rebound_addr (o after : Offtake) : (o.rebound after).addr = after.addr := by
  unfold Offtake.rebound; split <;> rfl

/-- An amended record keeps R2 when its address, if named, is no other record's. -/
theorem State.recordsDistinct_amended {s : State} {b : AmendBody} {o : Offtake} (hs : s.recordsDistinct)
    (ho : s.offtake b.slot = some o)
    (haddr : ¬ (amendNames b o.cls 1 && s.anyOther (some b.slot) fun x => x.addr = b.fig.addr) = true) :
    (s.putOfftake b.slot (some (o.rebound (amended b o)))).recordsDistinct := by
  refine State.recordsDistinct_putOfftake hs fun j x hj hx => ?_
  obtain ⟨htag, hold⟩ := hs j b.slot x o hx ho hj
  refine ⟨by simpa using htag, ?_⟩
  rw [Offtake.rebound_addr]
  show x.addr ≠ if amendNames b o.cls 1 then b.fig.addr else o.addr
  split
  · next hnamed =>
    rw [hnamed, Bool.true_and, Bool.not_eq_true, State.anyOther_eq_false] at haddr
    simpa using haddr j x hx (by simpa using hj)
  · exact hold

theorem reqAmendOfftake_keeps_distinct (p : PortId) (b : AmendBody) {s : State} (hs : s.recordsDistinct) :
    (reqAmendOfftake p b s).state.recordsDistinct := by
  unfold reqAmendOfftake
  dsimp only
  repeat' split
  iterate 6 · exact hs
  · next o hfind _ _ _ _ haddr _ =>
    have hput := State.recordsDistinct_amended hs (State.findRecord_ok hfind).1 haddr
    exact ((State.KeepsIdentities.refl _).enterQuiet b.slot).recordsDistinct hput
  · next o hfind _ _ _ _ haddr _ =>
    exact State.recordsDistinct_amended hs (State.findRecord_ok hfind).1 haddr

/-! ### Requests that leave the slots as they are -/

/-- A request that can write a record. -/
def writesRecords : Request → Bool
  | .createOfftake _ => true
  | .amendOfftake _ => true
  | .retireOfftake _ _ => true
  | .renegotiate _ _ => true
  | .release _ _ => true
  | .setPlant _ => true
  | .pushCurtail _ => true
  | .bindAccount _ _ _ => true
  | .unbindAccount _ _ => true
  | .restart => true
  | _ => false

theorem replyOf_slots (p : PortId) {r : Request} (h : writesRecords r = false) (s : State) :
    (replyOf p r s).state.slots = s.slots := by
  cases r <;> simp only [writesRecords, reduceCtorEq] at h <;> dsimp only [replyOf]
  case findOfftake t => unfold reqFindOfftake; split <;> rfl
  case readOfftake i => unfold reqReadOfftake; split <;> rfl
  case setChannel b => unfold reqSetChannel; repeat' split
                       all_goals rfl
  case readChannel c => unfold reqReadChannel; split <;> rfl
  case setGrade b => unfold reqSetGrade; repeat' split
                     all_goals rfl
  case readGrade g => unfold reqReadGrade; split <;> rfl
  case setWindow b => unfold reqSetWindow; dsimp only; repeat' split
                      all_goals rfl
  case clearWindow w => unfold reqClearWindow; repeat' split
                        all_goals rfl
  case readWindow w => unfold reqReadWindow; split <;> rfl
  case readPlant => rfl
  case setCommitment v => unfold reqSetCommitment; split <;> rfl
  case readBalance => rfl
  case popCurtail =>
    unfold reqPopCurtail
    repeat' split
    · rfl
    · rfl
    · rfl
    · exact (congrArg State.slots s.pop_frame :)
  case readCurtail => rfl
  case openAccount n k key => unfold reqOpenAccount; repeat' split
                              all_goals rfl
  case amendAccount n key => unfold reqAmendAccount; repeat' split
                             all_goals simp
  case readAccount n => unfold reqReadAccount; split <;> rfl
  case retireAccount n => unfold reqRetireAccount State.closeEntry; repeat' split
                          all_goals rfl
  case setExportAccount n => unfold reqSetExportAccount; repeat' split
                             all_goals simp
  case closePeriod n => unfold reqClosePeriod; repeat' split
                        all_goals simp
  case takeStatement n => unfold reqTakeStatement; repeat' split
                          all_goals simp
  case reprice n => unfold reqReprice; dsimp only; repeat' split
                    all_goals simp [State.refuse, State.accept]
  case writeTariff b => unfold reqWriteTariff; repeat' split
                        all_goals rfl
  case invalidateTariff i => unfold reqInvalidateTariff; repeat' split
                             all_goals rfl
  case readTariff i => unfold reqReadTariff; split <;> rfl
  case probeTariff m key => unfold reqProbeTariff; repeat' split
                            all_goals rfl
  case setSeason n => unfold reqSetSeason; repeat' split
                      all_goals rfl
  case setBand b => unfold reqSetBand; repeat' split
                    all_goals rfl
  case readNotices => unfold reqReadNotices; dsimp only; split <;> rfl
  case clearNotice c => unfold reqClearNotice; repeat' split
                        all_goals rfl
  case setRouting port add drop => unfold reqSetRouting; repeat' split
                                   all_goals rfl
  case setNoticeMode m => unfold reqSetNoticeMode; repeat' split
                          all_goals rfl

theorem State.KeepsIdentities.restartSlot {s : State} (t : State) (i : Nat) (h : s.KeepsIdentities t) :
    s.KeepsIdentities (t.restartSlot i) := by
  unfold State.restartSlot
  repeat' split
  · exact h.free i
  · next o ho _ => exact h.putOfftake ho _
  · exact h

theorem Offtake.limitedTo_tag (limit : Nat) (o : Offtake) :
    (o.limitedTo limit).tag = o.tag ∧ (o.limitedTo limit).addr = o.addr := by
  unfold Offtake.limitedTo
  split <;> exact ⟨rfl, rfl⟩

/-- No request but the two that name an address or a tag changes one, and none but CREATE_OFFTAKE makes a record. -/
theorem State.KeepsIdentities.request (p : PortId) {r : Request} (hcreate : ∀ b, r ≠ .createOfftake b)
    (hamend : ∀ b, r ≠ .amendOfftake b) (s : State) : s.KeepsIdentities (replyOf p r s).state := by
  have h := State.KeepsIdentities.refl s
  by_cases hw : writesRecords r = false
  · exact h.slots (replyOf_slots p hw s)
  · cases r <;> simp only [writesRecords, not_true_eq_false] at hw <;> dsimp only [replyOf]
    case createOfftake b => exact absurd rfl (hcreate b)
    case amendOfftake b => exact absurd rfl (hamend b)
    case retireOfftake i t =>
      have hretire : ∀ o, s.KeepsIdentities (s.retire i o) := fun o =>
        ((h.modOfftake i fun o => { o with retiring := true }).withdraw i o.supply.atRetirement).slots rfl
      unfold reqRetireOfftake
      repeat' split
      · exact h
      · exact h
      · exact h
      · exact hretire _
      · exact (hretire _).free i
    case renegotiate i t =>
      unfold reqRenegotiate
      repeat' split
      · exact h
      · exact h
      · exact h
      · exact h.enterQuiet i
    case release i t =>
      unfold reqRelease
      repeat' split
      · exact h
      · exact h
      · exact h
      · exact h
      · exact (h.modOfftake i _).enterQuiet i
    case setPlant b =>
      unfold reqSetPlant
      split
      · exact h
      · split
        · exact h
        · dsimp only
          split
          · exact h
          · split
            · exact h
            · split
              · exact h.mapSlots _ rfl (Offtake.limitedTo_tag _)
              · exact h.slots rfl
    case pushCurtail level =>
      unfold reqPushCurtail
      repeat' split
      · exact h
      · exact h
      · exact h
      · exact h.push _ _ _ _
    case bindAccount i t n =>
      unfold reqBindAccount
      repeat' split
      · exact h
      · exact h
      · exact h
      · exact h
      · exact h
      · exact h
      · exact (h.modOfftake i fun o => { o with account := some n }).slots (by simp)
    case unbindAccount i t =>
      unfold reqUnbindAccount
      repeat' split
      · exact h
      · exact h
      · exact h
      · exact (h.modOfftake i fun o => { o with account := none }).slots (by simp)
    case restart =>
      unfold reqRestart
      split
      · exact h
      · exact (foldl restartSlot slotNumbers h).slots (by simp only [State.accept_state, State.restarted])

/-- Every command keeps R2. -/
theorem exec_keeps_distinct : ∀ (c : Instr) (s t : State), s.recordsDistinct → exec c s = .next t → t.recordsDistinct := by
  refine exec_keeps (P := State.recordsDistinct) (fun s hs => hs) ?_ ?_ ?_
  · intro s m n _ i j a b ha
    have hvacant : ({ State.released m n with pending := s.pending } : State).offtake i = none := by
      simp only [State.offtake, State.released, Vector.getElem?_replicate]
      split <;> rfl
    rw [hvacant] at ha
    cases ha
  · intro p r s q _ _ hs
    refine ((State.KeepsIdentities.refl _).slots (State.setPort_slots _ p _)).recordsDistinct ?_
    by_cases hcreate : ∃ b, r = .createOfftake b
    · obtain ⟨b, rfl⟩ := hcreate
      exact reqCreateOfftake_keeps_distinct p b hs
    · by_cases hamend : ∃ b, r = .amendOfftake b
      · obtain ⟨b, rfl⟩ := hamend
        exact reqAmendOfftake_keeps_distinct p b hs
      · push Not at hcreate hamend
        exact (State.KeepsIdentities.request p hcreate hamend s).recordsDistinct hs
  · intro c f s hf _ hs
    exact (State.KeepsIdentities.event hf s).recordsDistinct hs

theorem step_keeps_distinct (s t : State) (hs : s.recordsDistinct) (h : step s = .next t) : t.recordsDistinct := by
  refine step_keeps exec_keeps_distinct (fun s hs => ?_) (fun _ _ hs => hs) s t hs h
  refine ((State.KeepsIdentities.refl s).mapSlots Offtake.elapse rfl fun o => ?_).recordsDistinct hs
  unfold Offtake.elapse
  split <;> exact ⟨rfl, rfl⟩

end Sys2Proof.Machine
end

section
namespace Sys2Proof.Machine

open Sys2Proof

/-! ## Requests that pass their checks -/

/-- A request that is taken is answered with what its reply says. -/
theorem exec_reply {p : PortId} {r : Request} {s : State} {q : Port} {a : Reply} (h : s.takes p r q)
    (ha : replyOf p r s = a) : exec (Instr.ofRequest p r) s = .next (a.state.answer p q r a.result a.body) := by
  subst ha
  exact exec_taken h.1 h.2

/-- A CREATE_OFFTAKE whose values and channels pass is judged by the tags, the addresses and the vacant slots (R12). -/
theorem reqCreateOfftake_checked {p : PortId} {b : CreateBody} {s : State} {c : OffClass}
    (hright : s.hasRight p .maintain = true) (hcls : OffClass.ofCode b.fig.cls = some c)
    (hvalues : createValuesOk b c = true)
    (hbindings : s.bindingsOk c b.fig.bind1 b.fig.bind2 (c.third b.fig.bind3) = true) :
    reqCreateOfftake p b s =
      if s.anyOther none fun o => o.tag = b.tag then s.refuse .duplicateTag
      else if s.anyOther none fun o => o.addr = b.fig.addr then s.refuse .duplicateAddress
      else s.lowestVacant.elim (s.refuse .tableFull) fun i =>
        ⟨.ok, .slotNumber i, s.putOfftake i (some (createdRecord b c))⟩ := by
  simp only [reqCreateOfftake, hright, hcls, hvalues, hbindings, Bool.not_true, Bool.false_eq_true, if_false]
  cases s.lowestVacant <;> rfl

/-- An AMEND_OFFTAKE whose rights, values and channels pass is judged by the addresses, and taken (R15, R16). -/
theorem reqAmendOfftake_checked {p : PortId} {b : AmendBody} {s : State} {o : Offtake}
    (ho : s.offtake b.slot = some o) (htag : o.tag = b.tag) (hlive : o.retiring = false)
    (hrights : amendRightsOk b s p o.cls = true) (hvalues : amendValuesOk b o (amended b o) = true)
    (hbindings : amendBindingsOk b s o (amended b o) = true) :
    reqAmendOfftake p b s =
      if amendNames b o.cls 1 && s.anyOther (some b.slot) fun x => x.addr = b.fig.addr then s.refuse .duplicateAddress
      else
        State.accept (if o.quietedBy (amended b o) then
            (s.putOfftake b.slot (some (o.rebound (amended b o)))).enterQuiet b.slot
          else s.putOfftake b.slot (some (o.rebound (amended b o)))) := by
  simp [reqAmendOfftake, ← htag, State.findRecord_eq ho, hlive, hrights, hvalues, hbindings]

/-- Only bit 12 of the mask depends on the class (R209). -/
theorem amendNames_of_ne {b : AmendBody} {c : OffClass} {k : Nat} (h : k ≠ 12) : amendNames b c k = b.mask.getLsbD k := by
  simp [amendNames, h]

/-- Settles O51: every operation but CREATE_OFFTAKE and AMEND_OFFTAKE keeps the identities of the records, and these two
check them. -/
theorem recordsStayDistinct : Obligations.RecordsStayDistinct := by
  refine ⟨step_keeps_distinct, ?_, ?_⟩
  · intro p b s q c j o htakes hright hcls hvalues hbindings ho
    have hreply := reqCreateOfftake_checked hright hcls hvalues hbindings
    constructor
    · intro htag
      have hdup : s.anyOther none (fun o => o.tag = b.tag) = true :=
        State.anyOther_iff.mpr ⟨j, o, ho, by simp, by simpa using htag⟩
      rw [if_pos hdup] at hreply
      exact exec_reply htakes hreply
    · intro hnew haddr
      have htag : s.anyOther none (fun o => o.tag = b.tag) = false :=
        State.anyOther_eq_false.mpr fun i x hx _ => by simpa using hnew i x hx
      have hdup : s.anyOther none (fun o => o.addr = b.fig.addr) = true :=
        State.anyOther_iff.mpr ⟨j, o, ho, by simp, by simpa using haddr⟩
      rw [htag, if_neg Bool.false_ne_true, if_pos hdup] at hreply
      exact exec_reply htakes hreply
  · intro p b s q o j x htakes ho htag hlive hrights hvalues hbindings hnamed hj hx haddr
    have hreply := reqAmendOfftake_checked ho htag hlive hrights hvalues hbindings
    have hdup : s.anyOther (some b.slot) (fun x => x.addr = b.fig.addr) = true :=
      State.anyOther_iff.mpr ⟨j, x, hx, by simpa using hj, by simpa using haddr⟩
    rw [amendNames_of_ne (by decide), hnamed, hdup, Bool.true_and, if_pos rfl] at hreply
    exact exec_reply htakes hreply

end Sys2Proof.Machine
end

section
/-! ## The checks of a request (R197 and the rules of the requests)

`Reply.Follows a s l` ties a reply to a list of checks: the first check of `l` that fails gives the refusal, and a
request that none of them stops is accepted. Each request is walked once, check by check. -/

namespace Sys2Proof.Machine

open Sys2Proof

/-- The reply on state `s` is that of the first failing check of `l`. -/
structure Reply.Follows (a : Reply) (s : State) (l : List (Bool × Result)) : Prop where
  accepted : firstFailing l = .ok → a.result = .ok
  refused : firstFailing l ≠ .ok → a = s.refuse (firstFailing l)

namespace Reply.Follows

variable {a : Reply} {s : State} {l : List (Bool × Result)} {fails : Bool} {v : Result}

theorem result_eq (h : a.Follows s l) : a.result = firstFailing l := by
  by_cases hok : firstFailing l = .ok
  · rw [h.accepted hok, hok]
  · rw [h.refused hok, State.refuse_result]

/-- No check is left. -/
theorem done (h : a.result = .ok) : a.Follows s [] := ⟨fun _ => h, fun hne => absurd rfl hne⟩

/-- The next check holds. -/
theorem pass (hc : fails = false) (h : a.Follows s l) : a.Follows s ((fails, v) :: l) := by
  subst hc
  exact ⟨h.accepted, h.refused⟩

/-- The next check fails. -/
theorem fail (hc : fails = true) (hv : v ≠ .ok := by decide) : (s.refuse v).Follows s ((fails, v) :: l) := by
  subst hc
  exact ⟨fun hok => absurd hok hv, fun _ => rfl⟩

/-- The next check is made. -/
theorem check {c : Prop} [Decidable c] (hc : c ↔ fails = true) (h : ¬ c → a.Follows s l) (hv : v ≠ .ok := by decide) :
    (if c then s.refuse v else a).Follows s ((fails, v) :: l) := by
  split
  · next hyes => exact fail (hc.mp hyes) hv
  · next hno => exact pass (by rwa [← Bool.not_eq_true, ← hc]) (h hno)

/-- The right comes first (R197). -/
theorem right {p : PortId} {r : Right} (h : s.hasRight p r = true → a.Follows s l) :
    (if !s.hasRight p r then s.refuse .noRight else a).Follows s (s.lacks p r :: l) :=
  check Iff.rfl fun hr => h (by simpa using hr)

/-- The record named by slot and tag is found and is not retiring, or refuses the request (R14, R19, R43, R61, R168). -/
theorem record {i : Nat} {t : Tag} (hmissing : ∀ r, s.findRecord i t = .error r → a = s.refuse r)
    (hretiring : ∀ o, s.findRecord i t = .ok o → o.retiring = true → a = s.refuse .retiring)
    (hfound : ∀ o, s.findRecord i t = .ok o → s.offtake i = some o → o.retiring = false → a.Follows s l) :
    a.Follows s (s.recordChecks i t ++ l) := by
  unfold State.recordChecks
  cases ho : s.offtake i with
  | none =>
    rw [hmissing .noSuchSlot (by simp [State.findRecord, ho])]
    exact fail rfl
  | some o =>
    refine pass rfl ?_
    by_cases htag : o.tag = t
    · have hfind : s.findRecord i t = .ok o := htag ▸ State.findRecord_eq ho
      refine pass (by simpa using htag) ?_
      cases hr : o.retiring with
      | true =>
        rw [hretiring o hfind hr]
        exact fail (by simpa using hr)
      | false => exact pass (by simpa using hr) (hfound o hfind ho hr)
    · rw [hmissing .noSuchTag (by simp [State.findRecord, ho, htag])]
      exact fail (by simpa using htag)

end Reply.Follows

/-! ### Codes that name nothing (R210) -/

theorem Grade.ofCode_eq_none {n : Nat} : Grade.ofCode n = none ↔ 2 < n := by
  rcases n with _ | _ | _ | n <;> simp [Grade.ofCode]
theorem ChannelKind.ofCode_eq_none {n : Nat} : ChannelKind.ofCode n = none ↔ 6 < n := by
  rcases n with _ | _ | _ | _ | _ | _ | _ | n <;> simp [ChannelKind.ofCode]
theorem Polarity.ofCode_eq_none {n : Nat} : Polarity.ofCode n = none ↔ 1 < n := by
  rcases n with _ | _ | n <;> simp [Polarity.ofCode]
theorem Policy.ofCode_eq_none {n : Nat} : Policy.ofCode n = none ↔ 1 < n := by
  rcases n with _ | _ | n <;> simp [Policy.ofCode]
theorem AccountKind.ofCode_eq_none {n : Nat} : AccountKind.ofCode n = none ↔ 2 < n := by
  rcases n with _ | _ | _ | n <;> simp [AccountKind.ofCode]
theorem Medium.ofCode_eq_none {n : Nat} : Medium.ofCode n = none ↔ 2 < n := by
  rcases n with _ | _ | _ | n <;> simp [Medium.ofCode]
theorem Band.ofCode_eq_none {n : Nat} : Band.ofCode n = none ↔ 1 < n := by
  rcases n with _ | _ | n <;> simp [Band.ofCode]
theorem ClearMode.ofCode_eq_none {n : Nat} : ClearMode.ofCode n = none ↔ 1 < n := by
  rcases n with _ | _ | n <;> simp [ClearMode.ofCode]
theorem portOfCode_eq_none {n : Nat} : portOfCode n = none ↔ 1 < n := by
  rcases n with _ | _ | n <;> simp [portOfCode]
theorem NoticeKind.ofCode_eq_none {n : Nat} : NoticeKind.ofCode n = none ↔ 12 < n := by
  rw [NoticeKind.ofCode, List.getElem?_eq_none_iff]
  exact Nat.lt_iff_add_one_le.symm

/-- A code that names something is in range. -/
theorem not_lt_of_ofCode {α : Type} {f : Nat → Option α} {top n : Nat} {c : α} (hnone : f n = none ↔ top < n)
    (hsome : f n = some c) : ¬ top < n := by
  rw [← hnone, hsome]
  exact Option.some_ne_none c

theorem Polarity.ofCode_auto {n : Nat} {pol : Polarity} (h : Polarity.ofCode n = some pol) : pol = .auto ↔ n = 1 := by
  rcases n with _ | _ | n <;> simp [Polarity.ofCode] at h <;> subst h <;> simp

theorem ChannelKind.ofCode_isFlow {n : Nat} {k : ChannelKind} (h : ChannelKind.ofCode n = some k) :
    k.isFlow = true ↔ n = 1 ∨ n = 4 := by
  rcases n with _ | _ | _ | _ | _ | _ | _ | n <;> simp [ChannelKind.ofCode] at h <;> subst h <;>
    simp [ChannelKind.isFlow]

/-! ### The Account Table's entries -/

theorem State.accountAt_lt {s : State} {e : Nat} {a : Account} (h : s.accountAt e = some a) : e < 32 := by
  unfold State.accountAt at h
  by_contra he
  rw [Vector.getElem?_eq_none (by omega)] at h
  cases h

theorem State.mem_accounts {s : State} {x : Option Account} :
    x ∈ s.accounts.toList ↔ ∃ e : Nat, s.accounts[e]? = some x := by
  simp [List.mem_iff_getElem?]

theorem State.accountEntry_none {s : State} {n : Nat} :
    s.accountEntry n = none ↔ ∀ e a, s.accountAt e = some a → a.number ≠ n := by
  simp only [State.accountEntry, List.find?_eq_none, List.mem_range, Option.any_eq_true, decide_eq_true_eq, not_exists,
    not_and]
  exact ⟨fun h e a ha => h e (State.accountAt_lt ha) a ha, fun h e _ a ha => h e a ha⟩

theorem State.account_of_entry {s : State} {n e : Nat} (h : s.accountEntry n = some e) :
    s.account n = s.accountAt e := by simp [State.account, h, State.accountAt]

/-- An account is found exactly when the table holds one with the number. -/
theorem State.account_isSome {s : State} {n : Nat} :
    (s.account n).isSome = true ↔ ∃ e a, s.accountAt e = some a ∧ a.number = n := by
  cases he : s.accountEntry n with
  | none =>
    have hnone := State.accountEntry_none.mp he
    simp only [State.account, he, Option.isSome_none, Bool.false_eq_true, false_iff]
    rintro ⟨e, a, ha, hn⟩
    exact hnone e a ha hn
  | some e =>
    obtain ⟨a, ha, hn⟩ := State.accountEntry_spec he
    rw [State.account_of_entry he]
    exact ⟨fun _ => ⟨e, a, ha, hn⟩, fun _ => by rw [State.accountAt, ha]; rfl⟩

theorem State.accounts_any {s : State} {n : Nat} :
    (s.accounts.toList.any fun a => a.any fun a => decide (a.number = n)) = (s.account n).isSome := by
  rw [Bool.eq_iff_iff, State.account_isSome]
  simp only [List.any_eq_true, State.mem_accounts, Option.any_eq_true, decide_eq_true_eq]
  constructor
  · rintro ⟨_, ⟨e, he⟩, a, rfl, hn⟩
    exact ⟨e, a, by simp [State.accountAt, he], hn⟩
  · rintro ⟨e, a, ha, hn⟩
    exact ⟨some a, ⟨e, Option.join_eq_some_iff.mp ha⟩, a, rfl, hn⟩

theorem State.accounts_full {s : State} : (s.accounts.toList.all (·.isSome)) = s.vacantEntry.isNone := by
  rw [Bool.eq_iff_iff, Option.isNone_iff_eq_none]
  simp only [State.vacantEntry, List.find?_eq_none, List.mem_range, List.all_eq_true, State.mem_accounts]
  constructor
  · intro h e he
    have hin : s.accounts[e]? = some s.accounts[e] := Vector.getElem?_eq_getElem he
    simpa [hin, ← Option.isSome_iff_ne_none] using h _ ⟨e, hin⟩
  · rintro h _ ⟨e, he⟩
    obtain ⟨hlt, rfl⟩ := Vector.getElem?_eq_some_iff.mp he
    simpa [he, Option.isSome_iff_ne_none] using h e hlt

theorem State.slots_full {s : State} : (slotNumbers.all fun i => (s.offtake i).isSome) = s.lowestVacant.isNone := by
  rw [Bool.eq_iff_iff, Option.isNone_iff_eq_none, State.lowestVacant, List.find?_eq_none]
  simp [Option.isSome_iff_ne_none]

end Sys2Proof.Machine
end

section
/-! ### What each request is examined for -/

namespace Sys2Proof.Machine

open Sys2Proof

open Reply.Follows

/-! #### The Offtake Register -/

theorem createValuesOk_not_iff {b : CreateBody} {c : OffClass} :
    (!createValuesOk b c) = true ↔
      (b.tag == 0#24 || decide (b.fig.addr = 0) || decide (62 < b.fig.addr) || modesBad c b.fig.modes
        || (decide (c = .boiler) && decide (2 < b.fig.grade)) || decide (3 < b.fig.prio)
        || decide (min 1000000 b.fig.maxFiring < min 1000000 b.fig.minFiring)) = true := by
  have hgrade : (Grade.ofCode b.fig.grade).isSome = !decide (2 < b.fig.grade) := by
    rw [Bool.eq_iff_iff, Option.isSome_iff_ne_none, ne_eq, Grade.ofCode_eq_none]
    simp
  have hclass : c = .boiler ↔ c ≠ .heatSub := by cases c <;> simp
  simp only [createValuesOk, validModes_eq, hgrade, hclass, satPower, Config.maxPower, Bool.not_and, Bool.not_or,
    Bool.not_not, Bool.or_eq_true, Bool.and_eq_true, Bool.not_eq_true', decide_eq_false_iff_not, decide_eq_true_eq,
    min_comm _ 1000000, not_le, Nat.lt_one_iff, bne, ne_eq]

theorem reqCreateOfftake_follows (p : PortId) (b : CreateBody) (s : State) :
    (reqCreateOfftake p b s).Follows s (s.checks p (.createOfftake b)) := by
  refine right fun _ => ?_
  cases OffClass.ofCode b.fig.cls with
  | none => exact fail rfl
  | some c =>
    refine check createValuesOk_not_iff fun _ => ?_
    refine check (by cases c <;> simp [State.bindingsOk, OffClass.third]) fun _ => ?_
    refine check (by simp [State.anyOther]) fun _ => ?_
    refine check (by simp [State.anyOther]) fun _ => ?_
    cases hv : s.lowestVacant with
    | none => exact fail (by rw [State.slots_full, hv]; rfl)
    | some i => exact pass (by rw [State.slots_full, hv]; rfl) (done rfl)


theorem amendValuesOk_not_iff {b : AmendBody} {o : Offtake} :
    (!amendValuesOk b o (amended b o)) = true ↔
      (amendNames b o.cls 0 || (decide (o.cls = .heatSub) && (amendNames b o.cls 4 || amendNames b o.cls 9))
        || (amendNames b o.cls 7 && decide (3 < b.fig.prio)) || (amendNames b o.cls 4 && decide (2 < b.fig.grade))
        || (amendNames b o.cls 1 && (decide (b.fig.addr = 0) || decide (62 < b.fig.addr)))
        || (amendNames b o.cls 2 && modesBad o.cls b.fig.modes)
        || decide ((if amendNames b o.cls 6 then min 1000000 b.fig.maxFiring else o.maxFiring)
            < if amendNames b o.cls 5 then min 1000000 b.fig.minFiring else o.minFiring)
        || (o.mode.any Mode.modulating && o.advert.any fun a =>
            decide (a.rating < if amendNames b o.cls 5 then min 1000000 b.fig.minFiring else o.minFiring))) = true := by
  have hgrade : (Grade.ofCode b.fig.grade).isSome = !decide (2 < b.fig.grade) := by
    rw [Bool.eq_iff_iff, Option.isSome_iff_ne_none, ne_eq, Grade.ofCode_eq_none]
    simp
  simp only [amendValuesOk, amended, Offtake.modulates, validModes_eq, hgrade, satPower, Config.maxPower, Bool.not_and,
    Bool.not_or, Bool.not_not, Bool.or_eq_true, Bool.and_eq_true, Bool.not_eq_true', decide_eq_false_iff_not,
    decide_eq_true_eq, min_comm _ 1000000, not_le, Nat.lt_one_iff]

theorem reqAmendOfftake_follows (p : PortId) (b : AmendBody) (s : State) :
    (reqAmendOfftake p b s).Follows s (s.checks p (.amendOfftake b)) := by
  unfold reqAmendOfftake State.findRecord
  dsimp only [State.checks, State.amendChecks]
  cases s.offtake b.slot with
  | none => exact fail rfl
  | some o =>
    dsimp only
    by_cases htag : o.tag = b.tag
    · rw [if_pos htag]
      refine pass (by simpa using htag) ?_
      refine check ?_ fun _ => ?_
      · simp only [amendRightsOk, operateBits, maintainBits, Bool.not_and, Bool.not_or, Bool.not_not]
        rfl
      refine check Iff.rfl fun _ => ?_
      refine check amendValuesOk_not_iff fun _ => ?_
      refine check ?_ fun _ => ?_
      · unfold amendBindingsOk
        cases hc : o.cls <;> simp [amended, amendNames, hc]
      refine check ?_ fun _ => done rfl
      simp [State.anyOther, amendNames]
    · rw [if_neg htag]
      exact fail (by simpa using htag)

theorem reqFindOfftake_follows (t : Tag) (s : State) (p : PortId) :
    (reqFindOfftake t s).Follows s (s.checks p (.findOfftake t)) := by
  unfold reqFindOfftake
  have hnone : s.slotOfTag t = none ↔ (slotNumbers.all fun i => (s.offtake i).all fun o => decide (o.tag ≠ t)) = true := by
    have hall : ∀ x : Option Offtake, (x.all fun o => decide (o.tag ≠ t)) = !x.any (·.tag = t) := by
      intro x
      cases x <;> simp
    simp only [State.slotOfTag, List.find?_eq_none, hall, List.all_eq_true, Bool.not_eq_true, Bool.not_eq_true']
  cases hslot : s.slotOfTag t with
  | none => exact fail (hnone.mp hslot)
  | some i => exact pass (by rw [← Bool.not_eq_true, ← hnone, hslot]; exact Option.some_ne_none i) (done rfl)

theorem reqReadOfftake_follows (i : Nat) (s : State) (p : PortId) :
    (reqReadOfftake i s).Follows s (s.checks p (.readOfftake i)) := by
  unfold reqReadOfftake
  split
  · next hi => exact pass (by simpa [Nat.lt_succ_iff] using hi) (done rfl)
  · next hi => exact fail (decide_eq_true (Nat.le_of_not_lt hi))

theorem reqRetireOfftake_follows (p : PortId) (i : Nat) (t : Tag) (s : State) :
    (reqRetireOfftake p i t s).Follows s (s.checks p (.retireOfftake i t)) := by
  refine right fun _ => ?_
  rw [← List.append_nil (s.recordChecks i t)]
  refine record (fun r h => by simp [h]) (fun o h hr => by simp [h, hr]) fun o h _ hr => done ?_
  simp only [h, hr, Bool.false_eq_true, if_false]
  split <;> rfl

theorem reqRenegotiate_follows (p : PortId) (i : Nat) (t : Tag) (s : State) :
    (reqRenegotiate p i t s).Follows s (s.checks p (.renegotiate i t)) := by
  refine right fun _ => ?_
  rw [← List.append_nil (s.recordChecks i t)]
  exact record (fun r h => by simp [h]) (fun o h hr => by simp [h, hr]) fun o h _ hr => done (by simp [h, hr])

theorem reqRelease_follows (p : PortId) (i : Nat) (t : Tag) (s : State) :
    (reqRelease p i t s).Follows s (s.checks p (.release i t)) := by
  refine right fun _ => ?_
  refine record (fun r h => by simp [h]) (fun o h hr => by simp [h, hr]) fun o h ho hr => ?_
  simp only [h, hr, Bool.false_eq_true, if_false]
  exact check (by simp [ho]) fun _ => done rfl

/-! #### The Meter Channel Unit and the Grade Balance Unit -/

theorem reqSetChannel_follows (p : PortId) (b : ChannelBody) (s : State) :
    (reqSetChannel p b s).Follows s (s.checks p (.setChannel b)) := by
  refine right fun _ => ?_
  refine check (by simp [Nat.succ_le_iff]) fun _ => ?_
  cases hk : ChannelKind.ofCode b.kind with
  | none => exact fail (by simp [ChannelKind.ofCode_eq_none.mp hk])
  | some k =>
    have hkind := not_lt_of_ofCode ChannelKind.ofCode_eq_none hk
    cases hp : Polarity.ofCode b.polarity with
    | none => exact fail (by simp [Polarity.ofCode_eq_none.mp hp])
    | some pol =>
      have hpol := not_lt_of_ofCode Polarity.ofCode_eq_none hp
      refine pass (by simp [hkind, hpol]) ?_
      refine check ?_ fun _ => done rfl
      have hflow := ChannelKind.ofCode_isFlow hk
      simp [Polarity.ofCode_auto hp, ← Bool.not_eq_true, hflow, and_assoc]

theorem reqReadChannel_follows (c : Nat) (s : State) (p : PortId) :
    (reqReadChannel c s).Follows s (s.checks p (.readChannel c)) := by
  unfold reqReadChannel
  split
  · next hc => exact pass (by have := (Vector.getElem?_eq_some_iff.mp hc).1; simp; omega) (done rfl)
  · next hc => exact fail (by have := Vector.getElem?_eq_none_iff.mp hc; simp; omega)

theorem gradeValuesOk_not_iff {b : GradeBody} :
    (!gradeValuesOk b) = true ↔ (decide (4 < b.supplyLength)
      || decide (min 2147483647 b.target.toNat < min 2147483647 b.low.toNat)
      || decide (min 2147483647 b.high.toNat < min 2147483647 b.target.toNat)) = true := by
  simp only [gradeValuesOk, lowOf, targetOf, highOf, floorZero, maxFigure, Bool.not_and, Bool.or_eq_true,
    Bool.not_eq_true', decide_eq_false_iff_not, decide_eq_true_eq, min_comm _ 2147483647, not_le]

theorem gradeChannelsOk_not_iff {s : State} {b : GradeBody} :
    (!gradeChannelsOk s b) = true ↔ ((([b.place1, b.place2, b.place3, b.place4].take b.supplyLength).any fun c =>
        !s.channelIs .gasFlow c) || decide (¬ ([b.place1, b.place2, b.place3, b.place4].take b.supplyLength).Nodup)
      || b.cv.any (fun c => !s.channelIs .cv c) || b.level.any (fun c => !s.channelIs .level c)) = true := by
  have hcv : b.cv.all (s.channelIs .cv) = !b.cv.any fun c => !s.channelIs .cv c := by cases b.cv <;> simp
  have hlevel : b.level.all (s.channelIs .level) = !b.level.any fun c => !s.channelIs .level c := by
    cases b.level <;> simp
  simp only [gradeChannelsOk, supplyList, hcv, hlevel, List.all_eq_not_any_not, Bool.not_and, Bool.not_not,
    decide_not]
  exact Iff.rfl

theorem reqSetGrade_follows (p : PortId) (b : GradeBody) (s : State) :
    (reqSetGrade p b s).Follows s (s.checks p (.setGrade b)) := by
  refine right fun _ => ?_
  cases hg : Grade.ofCode b.grade with
  | none => exact fail (by simp [Grade.ofCode_eq_none.mp hg])
  | some g =>
    have hgrade := not_lt_of_ofCode Grade.ofCode_eq_none hg
    refine check ?_ fun _ => ?_
    · rw [gradeValuesOk_not_iff]
      simp [hgrade]
    refine check gradeChannelsOk_not_iff fun _ => ?_
    refine check ?_ fun _ => done rfl
    simp [reserveLimit, lowOf, highOf, floorZero, min_comm]

theorem reqReadGrade_follows (g : Nat) (s : State) (p : PortId) :
    (reqReadGrade g s).Follows s (s.checks p (.readGrade g)) := by
  unfold reqReadGrade
  cases hg : Grade.ofCode g with
  | none => exact fail (by simp [Grade.ofCode_eq_none.mp hg])
  | some k => exact pass (by simpa using not_lt_of_ofCode Grade.ofCode_eq_none hg) (done rfl)

theorem reqSetWindow_follows (p : PortId) (b : WindowBody) (s : State) :
    (reqSetWindow p b s).Follows s (s.checks p (.setWindow b)) := by
  refine right fun _ => ?_
  cases hw : s.windows[b.window]? with
  | none => exact fail (by have := Vector.getElem?_eq_none_iff.mp hw; simp; omega)
  | some w =>
    have hwindow := (Vector.getElem?_eq_some_iff.mp hw).1
    cases hg : Grade.ofCode b.grade with
    | none => exact fail (by simp [Grade.ofCode_eq_none.mp hg])
    | some g =>
      have hgrade := not_lt_of_ofCode Grade.ofCode_eq_none hg
      refine pass (by simp; omega) ?_
      refine check ?_ fun _ => done rfl
      simp [reserveLimit, Window.share, floorZero, min_comm]

theorem reqClearWindow_follows (p : PortId) (w : Nat) (s : State) :
    (reqClearWindow p w s).Follows s (s.checks p (.clearWindow w)) := by
  refine right fun _ => ?_
  cases hw : s.windows[w]? with
  | none => exact fail (by have := Vector.getElem?_eq_none_iff.mp hw; simp; omega)
  | some win =>
    have hwindow := (Vector.getElem?_eq_some_iff.mp hw).1
    refine pass (by simp; omega) (done ?_)
    dsimp only
    split <;> rfl

theorem reqReadWindow_follows (w : Nat) (s : State) (p : PortId) :
    (reqReadWindow w s).Follows s (s.checks p (.readWindow w)) := by
  unfold reqReadWindow
  split
  · next hw => exact pass (by have := (Vector.getElem?_eq_some_iff.mp hw).1; simp; omega) (done rfl)
  · next hw => exact fail (by have := Vector.getElem?_eq_none_iff.mp hw; simp; omega)

/-! #### The Allocation Engine and the Curtailment Controller -/

theorem plantChannelsOk_not_iff {s : State} {b : PlantBody} :
    (!plantChannelsOk s b) = true ↔ (b.loopFlow.any (fun c => !s.channelIs .waterFlow c)
      || b.loopSupply.any (fun c => !s.channelIs .temp c) || b.loopReturn.any (fun c => !s.channelIs .temp c)
      || b.houseLoad.any (fun c => !s.channelIs .power c) || b.exportChannel.any (fun c => !s.channelIs .power c)
      || (b.loopSupply.isSome && decide (b.loopSupply = b.loopReturn))) = true := by
  have hall : ∀ (x : Option Nat) (f : Nat → Bool), x.all f = !x.any fun c => !f c := by
    intro x f
    cases x <;> simp
  have hsome : decide (b.loopSupply = none) = !b.loopSupply.isSome := by cases b.loopSupply <;> rfl
  simp only [plantChannelsOk, hall, hsome, Bool.not_and, Bool.not_or, Bool.not_not, ne_eq, decide_not]

theorem reqSetPlant_follows (p : PortId) (b : PlantBody) (s : State) :
    (reqSetPlant p b s).Follows s (s.checks p (.setPlant b)) := by
  refine right fun _ => ?_
  cases hp : Policy.ofCode b.policy with
  | none => exact fail (by simp [Policy.ofCode_eq_none.mp hp])
  | some pol =>
    have hpolicy := not_lt_of_ofCode Policy.ofCode_eq_none hp
    refine check ?_ fun _ => ?_
    · simp only [loopWhole, decide_eq_false hpolicy]
      cases b.loopFlow.isSome <;> cases b.loopSupply.isSome <;> cases b.loopReturn.isSome <;> simp
    exact check plantChannelsOk_not_iff fun _ => done rfl

theorem reqSetCommitment_follows (p : PortId) (v : Int) (s : State) :
    (reqSetCommitment p v s).Follows s (s.checks p (.setCommitment v)) := right fun _ => done rfl

theorem reqPushCurtail_follows (p : PortId) (level : Nat) (s : State) :
    (reqPushCurtail p level s).Follows s (s.checks p (.pushCurtail level)) := by
  refine right fun _ => ?_
  refine check (by simp) fun _ => ?_
  exact check (by simp) fun _ => done rfl

theorem reqPopCurtail_follows (p : PortId) (s : State) :
    (reqPopCurtail p s).Follows s (s.checks p .popCurtail) := by
  refine right fun _ => ?_
  cases hs : s.stack with
  | nil => exact fail rfl
  | cons c below =>
    refine pass rfl ?_
    exact check (by simp) fun _ => done rfl

/-! #### The Account Table -/

theorem reqOpenAccount_follows (p : PortId) (n k key : Nat) (s : State) :
    (reqOpenAccount p n k key s).Follows s (s.checks p (.openAccount n k key)) := by
  refine right fun _ => ?_
  cases hk : AccountKind.ofCode k with
  | none => exact fail (by simp [AccountKind.ofCode_eq_none.mp hk])
  | some kind =>
    have hkind := not_lt_of_ofCode AccountKind.ofCode_eq_none hk
    refine check (by simp [hkind, or_assoc]) fun _ => ?_
    refine check (by rw [State.accounts_any]) fun _ => ?_
    cases hv : s.vacantEntry with
    | none => exact fail (by rw [State.accounts_full, hv]; rfl)
    | some e => exact pass (by rw [State.accounts_full, hv]; rfl) (done rfl)

theorem reqAmendAccount_follows (p : PortId) (n key : Nat) (s : State) :
    (reqAmendAccount p n key s).Follows s (s.checks p (.amendAccount n key)) := by
  refine right fun _ => ?_
  refine check (by simp) fun _ => ?_
  exact check Iff.rfl fun _ => done rfl

theorem reqReadAccount_follows (n : Nat) (s : State) (p : PortId) :
    (reqReadAccount n s).Follows s (s.checks p (.readAccount n)) := by
  unfold reqReadAccount
  dsimp only [State.checks]
  cases s.account n with
  | none => exact fail rfl
  | some a => exact pass rfl (done rfl)

theorem reqRetireAccount_follows (p : PortId) (n : Nat) (s : State) :
    (reqRetireAccount p n s).Follows s (s.checks p (.retireAccount n)) := by
  refine right fun _ => ?_
  cases s.account n with
  | none => exact fail rfl
  | some a =>
    refine pass rfl ?_
    refine check (by simp) fun _ => ?_
    refine check ?_ fun _ => done rfl
    have hzero : ∀ x : Option Nat, x.getD 0 = 0 ↔ x.any (fun k => decide (k ≠ 0)) = false := by
      intro x
      cases x <;> simp
    have hfigures : BandFigures.zero = ⟨0, 0, 0⟩ := rfl
    simp [Account.countersZero, hfigures, hzero, or_assoc]

theorem reqBindAccount_follows (p : PortId) (i : Nat) (t : Tag) (n : Nat) (s : State) :
    (reqBindAccount p i t n s).Follows s (s.checks p (.bindAccount i t n)) := by
  refine right fun _ => ?_
  refine record (fun r h => by simp [h]) (fun o h hr => by simp [h, hr]) fun o h ho hr => ?_
  simp only [h, hr, ho, Bool.false_eq_true, if_false, Option.any_some]
  cases s.account n with
  | none => exact fail rfl
  | some a =>
    refine pass rfl ?_
    refine check ?_ fun _ => done ?_
    · cases o.cls <;> simp [OffClass.accountKind]
    · split <;> rfl

theorem reqUnbindAccount_follows (p : PortId) (i : Nat) (t : Tag) (s : State) :
    (reqUnbindAccount p i t s).Follows s (s.checks p (.unbindAccount i t)) := by
  refine right fun _ => ?_
  rw [← List.append_nil (s.recordChecks i t)]
  exact record (fun r h => by simp [h]) (fun o h hr => by simp [h, hr]) fun o h _ hr => done (by simp [h, hr])

theorem reqSetExportAccount_follows (p : PortId) (n : Option Nat) (s : State) :
    (reqSetExportAccount p n s).Follows s (s.checks p (.setExportAccount n)) := by
  cases n with
  | none => exact right fun _ => done rfl
  | some k =>
    refine right fun _ => ?_
    dsimp only
    cases s.account k with
    | none => exact fail rfl
    | some a =>
      refine pass rfl ?_
      exact check (by simp) fun _ => done rfl

theorem reqClosePeriod_follows (p : PortId) (n : Nat) (s : State) :
    (reqClosePeriod p n s).Follows s (s.checks p (.closePeriod n)) := by
  refine right fun _ => ?_
  cases s.account n with
  | none => exact fail rfl
  | some a =>
    refine pass rfl ?_
    exact check (by simp) fun _ => done rfl

theorem reqTakeStatement_follows (p : PortId) (n : Nat) (s : State) :
    (reqTakeStatement p n s).Follows s (s.checks p (.takeStatement n)) := by
  refine right fun _ => ?_
  cases s.account n with
  | none => exact fail rfl
  | some a =>
    refine pass rfl ?_
    dsimp only [Option.any_some]
    cases a.statement with
    | none => exact fail rfl
    | some st => exact pass rfl (done rfl)

/-- REPRICE is the one request whose last check leaves a trace: a miss marks the overlap (R177). -/
theorem reqReprice_result (p : PortId) (n : Nat) (s : State) : (reqReprice p n s).result = s.verdict p (.reprice n) := by
  unfold reqReprice
  simp only [State.verdict, State.checks, State.lacks, firstFailing_cons, firstFailing_nil]
  split
  · rfl
  · cases s.account n with
    | none => rfl
    | some a =>
      have hprices : ∀ b, s.pricesBand a b = s.findsPrice a b := fun b => rfl
      simp only [hprices, Reply.result_ite, State.accept_result, State.refuse_result, Option.isNone_some, Option.any_some,
        Bool.false_eq_true, if_false]
      by_cases h1 : s.findsPrice a .primary = true
      · simp [h1]
      · by_cases h2 : s.findsPrice a .secondary = true
        · simp [h2]
        · by_cases hp : a.primary.unpriced = 0 <;> by_cases hs : a.secondary.unpriced = 0 <;> simp [h1, h2, hp, hs]

/-! #### The Tariff Match Table and the Notice Table -/

theorem tariffValuesOk_not_iff {b : TariffBody} :
    (!tariffValuesOk b) = true ↔ (decide (4095 < b.key) || decide (4095 < b.mask) || decide (255 < b.season)
      || b.primary.any (fun x => decide (999999 < x)) || b.secondary.any (fun x => decide (999999 < x))) = true := by
  have hall : ∀ x : Option Nat, x.all (· ≤ 999999) = !x.any fun k => decide (999999 < k) := by
    intro x
    cases x <;> simp only [Option.all_none, Option.any_none, Option.all_some, Option.any_some, ← decide_not, not_lt, Bool.not_false]
  simp [tariffValuesOk, hall, or_assoc]

theorem reqWriteTariff_follows (p : PortId) (b : TariffBody) (s : State) :
    (reqWriteTariff p b s).Follows s (s.checks p (.writeTariff b)) := by
  refine right fun _ => ?_
  split
  · next hpair => exact fail (by simp [Nat.lt_iff_add_one_le.mpr hpair])
  · next hpair =>
    cases hm : Medium.ofCode b.medium with
    | none => exact fail (by simp [Medium.ofCode_eq_none.mp hm])
    | some m =>
      have hmedium := not_lt_of_ofCode Medium.ofCode_eq_none hm
      refine check ?_ fun _ => done rfl
      rw [tariffValuesOk_not_iff]
      simp [show ¬ 15 < b.pair from hpair, hmedium, or_assoc]

theorem reqInvalidateTariff_follows (p : PortId) (i : Nat) (s : State) :
    (reqInvalidateTariff p i s).Follows s (s.checks p (.invalidateTariff i)) :=
  right fun _ => check (by simp [Nat.succ_le_iff]) fun _ => done rfl

theorem reqReadTariff_follows (i : Nat) (s : State) (p : PortId) :
    (reqReadTariff i s).Follows s (s.checks p (.readTariff i)) := by
  unfold reqReadTariff
  split
  · next hi => exact pass (by have := (Vector.getElem?_eq_some_iff.mp hi).1; simp; omega) (done rfl)
  · next hi => exact fail (by have := Vector.getElem?_eq_none_iff.mp hi; simp; omega)

theorem reqProbeTariff_follows (m key : Nat) (s : State) (p : PortId) :
    (reqProbeTariff m key s).Follows s (s.checks p (.probeTariff m key)) := by
  unfold reqProbeTariff
  cases hm : Medium.ofCode m with
  | none => exact fail (by simp [Medium.ofCode_eq_none.mp hm])
  | some medium =>
    have hmedium := not_lt_of_ofCode Medium.ofCode_eq_none hm
    exact check (by simp [hmedium]) fun _ => done rfl

theorem reqSetSeason_follows (p : PortId) (n : Nat) (s : State) :
    (reqSetSeason p n s).Follows s (s.checks p (.setSeason n)) :=
  right fun _ => check (by simp) fun _ => done rfl

theorem reqSetBand_follows (p : PortId) (b : Nat) (s : State) :
    (reqSetBand p b s).Follows s (s.checks p (.setBand b)) := by
  refine right fun _ => ?_
  cases hb : Band.ofCode b with
  | none => exact fail (by simp [Band.ofCode_eq_none.mp hb])
  | some band => exact pass (by simpa using not_lt_of_ofCode Band.ofCode_eq_none hb) (done rfl)

theorem reqClearNotice_follows (p : PortId) (c : Nat) (s : State) :
    (reqClearNotice p c s).Follows s (s.checks p (.clearNotice c)) := by
  unfold reqClearNotice
  dsimp only [State.checks]
  cases hk : NoticeKind.ofCode c with
  | none => exact fail (by simp [NoticeKind.ofCode_eq_none.mp hk])
  | some k =>
    refine pass (by simpa using not_lt_of_ofCode NoticeKind.ofCode_eq_none hk) ?_
    dsimp only [Option.any_some]
    cases hpending : (s.notice k).pendingFor p with
    | false => exact pass (by simp) (done rfl)
    | true =>
      simp only [Bool.not_true, Bool.false_eq_true, if_false, Bool.true_and]
      exact check (by simp) fun _ => done rfl

theorem reqSetRouting_follows (p : PortId) (port : Nat) (add drop : BitVec 16) (s : State) :
    (reqSetRouting p port add drop s).Follows s (s.checks p (.setRouting port add drop)) := by
  refine right fun _ => ?_
  cases hq : portOfCode port with
  | none => exact fail (by simp [portOfCode_eq_none.mp hq])
  | some q =>
    have hport := not_lt_of_ofCode portOfCode_eq_none hq
    exact check (by simp [hport, or_assoc]) fun _ => done rfl

theorem reqSetNoticeMode_follows (p : PortId) (m : Nat) (s : State) :
    (reqSetNoticeMode p m s).Follows s (s.checks p (.setNoticeMode m)) := by
  refine right fun _ => ?_
  cases hm : ClearMode.ofCode m with
  | none => exact fail (by simp [ClearMode.ofCode_eq_none.mp hm])
  | some mode => exact pass (by simpa using not_lt_of_ofCode ClearMode.ofCode_eq_none hm) (done rfl)

theorem reqRestart_follows (p : PortId) (s : State) : (reqRestart p s).Follows s (s.checks p .restart) :=
  right fun _ => done rfl

end Sys2Proof.Machine
end

section
/-! ### Every request -/

namespace Sys2Proof.Machine

open Sys2Proof

/-- A request is accepted, or refused, by the first failing check of its rule. -/
theorem replyOf_follows (p : PortId) {r : Request} (hr : ∀ n, r ≠ .reprice n) (s : State) :
    (replyOf p r s).Follows s (s.checks p r) := by
  cases r with
  | createOfftake b => exact reqCreateOfftake_follows p b s
  | amendOfftake b => exact reqAmendOfftake_follows p b s
  | findOfftake t => exact reqFindOfftake_follows t s p
  | readOfftake i => exact reqReadOfftake_follows i s p
  | retireOfftake i t => exact reqRetireOfftake_follows p i t s
  | renegotiate i t => exact reqRenegotiate_follows p i t s
  | release i t => exact reqRelease_follows p i t s
  | setChannel b => exact reqSetChannel_follows p b s
  | readChannel c => exact reqReadChannel_follows c s p
  | setGrade b => exact reqSetGrade_follows p b s
  | readGrade g => exact reqReadGrade_follows g s p
  | setWindow b => exact reqSetWindow_follows p b s
  | clearWindow w => exact reqClearWindow_follows p w s
  | readWindow w => exact reqReadWindow_follows w s p
  | setPlant b => exact reqSetPlant_follows p b s
  | setCommitment v => exact reqSetCommitment_follows p v s
  | pushCurtail level => exact reqPushCurtail_follows p level s
  | popCurtail => exact reqPopCurtail_follows p s
  | openAccount n k key => exact reqOpenAccount_follows p n k key s
  | amendAccount n key => exact reqAmendAccount_follows p n key s
  | readAccount n => exact reqReadAccount_follows n s p
  | retireAccount n => exact reqRetireAccount_follows p n s
  | bindAccount i t n => exact reqBindAccount_follows p i t n s
  | unbindAccount i t => exact reqUnbindAccount_follows p i t s
  | setExportAccount n => exact reqSetExportAccount_follows p n s
  | closePeriod n => exact reqClosePeriod_follows p n s
  | takeStatement n => exact reqTakeStatement_follows p n s
  | reprice n => exact absurd rfl (hr n)
  | writeTariff b => exact reqWriteTariff_follows p b s
  | invalidateTariff i => exact reqInvalidateTariff_follows p i s
  | readTariff i => exact reqReadTariff_follows i s p
  | probeTariff m key => exact reqProbeTariff_follows m key s p
  | setSeason n => exact reqSetSeason_follows p n s
  | setBand b => exact reqSetBand_follows p b s
  | clearNotice c => exact reqClearNotice_follows p c s
  | setRouting port add drop => exact reqSetRouting_follows p port add drop s
  | setNoticeMode m => exact reqSetNoticeMode_follows p m s
  | restart => exact reqRestart_follows p s
  | readPlant => exact .done rfl
  | readBalance => exact .done rfl
  | readCurtail => exact .done rfl
  | readNotices => exact .done rfl

/-- The result of every request is its verdict. -/
theorem replyOf_result (p : PortId) (r : Request) (s : State) : (replyOf p r s).result = s.verdict p r := by
  by_cases hr : ∃ n, r = .reprice n
  · obtain ⟨n, rfl⟩ := hr
    exact reqReprice_result p n s
  · push Not at hr
    exact (replyOf_follows p hr s).result_eq

/-- A refused request but a REPRICE leaves the part as it is, and answers with no body (R198). -/
theorem replyOf_refused {p : PortId} {r : Request} {s : State} (hr : ∀ n, r ≠ .reprice n) (h : s.verdict p r ≠ .ok) :
    replyOf p r s = s.refuse (s.verdict p r) :=
  (replyOf_follows p hr s).refused h

/-! ### Rights (R197) -/

/-- A request that needs a right is checked for it first, and for no right after it. -/
theorem checks_of_neededRight {r : Request} {right : Right} (h : neededRight r = some right) (s : State) (p : PortId) :
    ∃ rest, s.checks p r = s.lacks p right :: rest ∧ ∀ c ∈ rest, c.2 ≠ .noRight := by
  cases r <;> simp only [neededRight, Option.some.injEq, reduceCtorEq] at h <;> subst h
  case createOfftake b =>
    refine ⟨_, rfl, ?_⟩
    cases OffClass.ofCode b.fig.cls <;> simp
  case setExportAccount n => cases n <;> exact ⟨_, rfl, by simp⟩
  all_goals exact ⟨_, rfl, by simp [State.recordChecks]⟩

/-- The first failing check gives OK or the result of a check of the list. -/
theorem firstFailing_mem (l : List (Bool × Result)) : firstFailing l = .ok ∨ ∃ c ∈ l, c.2 = firstFailing l := by
  induction l with
  | nil => exact .inl rfl
  | cons c l ih =>
    obtain ⟨fails, v⟩ := c
    cases fails with
    | true => exact .inr ⟨(true, v), by simp, rfl⟩
    | false =>
      rcases ih with hok | ⟨c, hc, hv⟩
      · exact .inl hok
      · exact .inr ⟨c, by simp [hc], hv⟩

theorem verdict_of_lacking {r : Request} {right : Right} (h : neededRight r = some right) {s : State} {p : PortId}
    (hlacks : s.hasRight p right = false) : s.verdict p r = .noRight := by
  obtain ⟨rest, hchecks, _⟩ := checks_of_neededRight h s p
  simp [State.verdict, hchecks, State.lacks, hlacks]

theorem verdict_of_holding {r : Request} {right : Right} (h : neededRight r = some right) {s : State} {p : PortId}
    (hholds : s.hasRight p right = true) : s.verdict p r ≠ .noRight := by
  obtain ⟨rest, hchecks, hrest⟩ := checks_of_neededRight h s p
  have hverdict : s.verdict p r = firstFailing rest := by simp [State.verdict, hchecks, State.lacks, hholds]
  rw [hverdict]
  rcases firstFailing_mem rest with hok | ⟨c, hc, hv⟩
  · rw [hok]
    decide
  · rw [← hv]
    exact hrest c hc

/-- A request refused for want of its right changes nothing, a REPRICE too. -/
theorem replyOf_of_lacking {r : Request} {right : Right} (h : neededRight r = some right) {s : State} {p : PortId}
    (hlacks : s.hasRight p right = false) : replyOf p r s = s.refuse .noRight := by
  by_cases hr : ∃ n, r = .reprice n
  · obtain ⟨n, rfl⟩ := hr
    cases h
    simp [replyOf, reqReprice, hlacks]
  · push Not at hr
    have hverdict := verdict_of_lacking h hlacks
    rw [replyOf_refused hr (by rw [hverdict]; decide), hverdict]

/-- Settles O12: each request is walked check by check (`replyOf_follows`), and the right stands first in its list. -/
theorem lackOfRightRefuses : Obligations.LackOfRightRefuses := by
  refine ⟨fun p r s q htakes => ⟨?_, ?_, ?_⟩, fun s => ⟨Iff.rfl, rfl, rfl, rfl, rfl, rfl⟩⟩
  · refine ⟨(replyOf p r s).body, (replyOf p r s).state, ?_⟩
    rw [exec_reply htakes rfl, replyOf_result]
  · intro hrefused hr
    exact exec_reply htakes (replyOf_refused hr hrefused)
  · intro right hright
    have hlack : s.hasRight p right = false → exec (Instr.ofRequest p r) s = .next (s.answer p q r .noRight .empty) :=
      fun hlacks => exec_reply htakes (replyOf_of_lacking hright hlacks)
    refine ⟨?_, ?_, ?_, verdict_of_holding hright⟩
    · rintro rfl rfl hstrap
      exact hlack hstrap
    · rintro rfl rfl
      exact hlack rfl
    · rintro rfl hsettle
      cases right with
      | settle => exact absurd rfl hsettle
      | operate => exact hlack rfl
      | maintain => exact hlack rfl

end Sys2Proof.Machine
end

section
/-! ## The reading requests, and the Offtake Register's own (R12 to R21) -/

namespace Sys2Proof.Machine

open Sys2Proof

theorem Grade.ofCode_code (g : Grade) : Grade.ofCode g.code = some g := by cases g <;> rfl
theorem Medium.ofCode_code (m : Medium) : Medium.ofCode m.code = some m := by cases m <;> rfl

/-- The lookup by tag finds the one record that has it (R2, R17). -/
theorem State.slotOfTag_eq {s : State} {i : Nat} {o : Offtake} (hs : s.recordsDistinct) (ho : s.offtake i = some o) :
    s.slotOfTag o.tag = some i := by
  have hfound : (s.slotOfTag o.tag).isSome = true :=
    List.find?_isSome.mpr ⟨i, mem_slotNumbers.mpr (State.offtake_lt ho), by simp [ho]⟩
  obtain ⟨j, hj⟩ := Option.isSome_iff_exists.mp hfound
  obtain ⟨x, hx, htag⟩ : ∃ x, s.offtake j = some x ∧ x.tag = o.tag := by
    simpa [Option.any_eq_true] using List.find?_some hj
  by_cases hji : j = i
  · rw [hj, hji]
  · exact absurd htag (hs j i x o hx ho hji).1

theorem State.copyOf_eq {s : State} {i : Nat} {o : Offtake} (ho : s.offtake i = some o) :
    s.copyOf i = ⟨some o, o.limits.1, o.limits.2, o.effCall⟩ := by simp [State.copyOf, ho]

/-- Settles O13: each reading request's reply is OK with its copy, on the state as it stands. -/
theorem readRequestsComplete : Obligations.ReadRequestsComplete := by
  intro p s q
  refine ⟨?_, ?_, ?_, ?_, ?_, ?_, ?_, ?_, ?_, ?_, ?_⟩
  · intro i htakes hi
    exact exec_reply htakes (if_pos hi)
  · intro i o htakes hs ho
    refine exec_reply htakes (a := ⟨.ok, .found i ⟨some o, o.limits.1, o.limits.2, o.effCall⟩, s⟩) ?_
    simp [replyOf, reqFindOfftake, State.slotOfTag_eq hs ho, State.copyOf_eq ho]
  · intro c ch htakes hc
    exact exec_reply htakes (a := ⟨.ok, .channel ch ch.effective, s⟩) (by simp [replyOf, reqReadChannel, hc])
  · intro g htakes
    refine exec_reply htakes (a := ⟨.ok, .grade (s.grades.get g) (reserveLimit (s.grades.get g).low (s.grades.get g).high)
      ((s.grades.get g).channels.map s.condition), s⟩) ?_
    simp [replyOf, reqReadGrade, Grade.ofCode_code]
  · intro w win htakes hw
    exact exec_reply htakes (a := ⟨.ok, .window win, s⟩) (by simp [replyOf, reqReadWindow, hw])
  · intro htakes
    exact exec_reply htakes rfl
  · intro htakes
    exact exec_reply htakes rfl
  · intro htakes
    exact exec_reply htakes rfl
  · intro n a htakes ha
    exact exec_reply htakes (a := ⟨.ok, .account a (decide (s.plant.exportAccount = some n)) s.band, s⟩)
      (by simp [replyOf, reqReadAccount, ha])
  · intro n pair htakes hpair
    exact exec_reply htakes (a := ⟨.ok, .pair pair, s⟩) (by simp [replyOf, reqReadTariff, hpair])
  · intro m key htakes
    have hkey : ¬ 4095 < key.toNat := by omega
    refine ⟨s.probe m key, ?_, rfl, rfl, rfl, rfl, ?_, ?_, ?_, rfl, rfl⟩
    · refine exec_reply htakes (a := ⟨.ok, .probe (s.probe m key), s⟩) ?_
      simp [replyOf, reqProbeTariff, Medium.ofCode_code, hkey]
    · intro hnone
      simp [State.probe, hnone]
    · intro i rest t hmatch ht
      simp [State.probe, hmatch, ht]
    · simp [State.probe]

/-! ### CREATE_OFFTAKE (R13) -/

/-- The lowest vacant slot is found (R1). -/
theorem State.lowestVacant_eq {s : State} {i : Nat} (hi : i < 24) (hvacant : s.offtake i = none)
    (hlower : ∀ j, j < i → s.offtake j ≠ none) : s.lowestVacant = some i := by
  rw [State.lowestVacant, slotNumbers, List.find?_range_eq_some]
  refine ⟨by simp [hvacant], by simpa using hi, fun j hj => ?_⟩
  simpa [Option.isSome_iff_ne_none] using hlower j hj

/-- Settles O14: past its checks the request puts `createdRecord` in the lowest VACANT slot. -/
theorem createOfftakeCompletes : Obligations.CreateOfftakeCompletes := by
  intro p b s q c i htakes hright hcls hvalues hbindings hnew hi hvacant hlower
  have htag : s.anyOther none (fun o => o.tag = b.tag) = false :=
    State.anyOther_eq_false.mpr fun j o ho _ => by simpa using (hnew j o ho).1
  have haddr : s.anyOther none (fun o => o.addr = b.fig.addr) = false :=
    State.anyOther_eq_false.mpr fun j o ho _ => by simpa using (hnew j o ho).2
  have hreply := reqCreateOfftake_checked hright hcls hvalues hbindings
  rw [htag, haddr, State.lowestVacant_eq hi hvacant hlower] at hreply
  refine ⟨createdRecord b c, exec_reply htakes hreply, rfl, rfl, rfl, rfl, rfl, rfl, rfl, rfl, rfl, rfl, rfl, rfl, rfl, ?_⟩
  have hthird : c.third b.fig.bind3 = if c = .boiler then none else some b.fig.bind3 := by cases c <;> rfl
  exact ⟨hthird, rfl, rfl, rfl, rfl, rfl, rfl, rfl, rfl, rfl, rfl, rfl, rfl, rfl, rfl, rfl, rfl, rfl, rfl, rfl, rfl, rfl,
    rfl, rfl⟩

/-! ### AMEND_OFFTAKE (R16) -/

theorem Offtake.rebound_eq (o after : Offtake) :
    o.rebound after = { after with
      overdrawTimer := if after.bind1 = o.bind1 ∧ after.bind2 = o.bind2 ∧ after.bind3 = o.bind3 then after.overdrawTimer
        else 0 } := by
  unfold Offtake.rebound
  split
  · next h =>
    rw [if_neg]
    rintro ⟨h1, h2, h3⟩
    simp [h1, h2, h3] at h
  · next h =>
    push Not at h
    simp [h]

/-- The fields of an amended record, by the bits of the mask (R209). -/
theorem amended_eq (b : AmendBody) (o : Offtake) :
    amended b o = { o with
      addr := if b.mask.getLsbD 1 then b.fig.addr else o.addr
      permitted := if b.mask.getLsbD 2 then b.fig.modes.setWidth 6 else o.permitted
      rating := if b.mask.getLsbD 3 then min b.fig.rating 1000000 else o.rating
      grade := if b.mask.getLsbD 4 then Grade.ofCode b.fig.grade else o.grade
      minFiring := if b.mask.getLsbD 5 then min b.fig.minFiring 1000000 else o.minFiring
      maxFiring := if b.mask.getLsbD 6 then min b.fig.maxFiring 1000000 else o.maxFiring
      prio := if b.mask.getLsbD 7 then b.fig.prio else o.prio
      weight := if b.mask.getLsbD 8 then max 1 (min b.fig.weight 255) else o.weight
      eff := if b.mask.getLsbD 9 then some (max 300 (min b.fig.eff 990)) else o.eff
      bind1 := if b.mask.getLsbD 10 then b.fig.bind1 else o.bind1
      bind2 := if b.mask.getLsbD 11 then b.fig.bind2 else o.bind2
      bind3 := if b.mask.getLsbD 12 ∧ o.cls = .heatSub then some b.fig.bind3 else o.bind3 } := by
  have hthird : amendNames b o.cls 12 = true ↔ b.mask.getLsbD 12 = true ∧ o.cls = .heatSub := by simp [amendNames]
  simp only [amended, hthird, amendNames_of_ne (show 1 ≠ 12 by decide), amendNames_of_ne (show 2 ≠ 12 by decide),
    amendNames_of_ne (show 3 ≠ 12 by decide), amendNames_of_ne (show 4 ≠ 12 by decide),
    amendNames_of_ne (show 5 ≠ 12 by decide), amendNames_of_ne (show 6 ≠ 12 by decide),
    amendNames_of_ne (show 7 ≠ 12 by decide), amendNames_of_ne (show 8 ≠ 12 by decide),
    amendNames_of_ne (show 9 ≠ 12 by decide), amendNames_of_ne (show 10 ≠ 12 by decide),
    amendNames_of_ne (show 11 ≠ 12 by decide), satPower, clampWeight, clampEff, clampNat]

/-- Settles O15: past its checks the request writes `o.rebound (amended b o)`, and enters QUIET when that record's address
or resolved mode calls for it. -/
theorem amendOfftakeCompletes : Obligations.AmendOfftakeCompletes := by
  intro p b s q o htakes ho htag hlive hrights hvalues hbindings haddr
  have hfree : (amendNames b o.cls 1 && s.anyOther (some b.slot) fun x => x.addr = b.fig.addr) = false := by
    cases hnamed : amendNames b o.cls 1 with
    | false => rfl
    | true =>
      rw [Bool.true_and, State.anyOther_eq_false]
      intro j x hx hj
      simpa using haddr hnamed j x (by simpa using hj) hx
  have hreply := reqAmendOfftake_checked ho htag hlive hrights hvalues hbindings
  rw [hfree, if_neg Bool.false_ne_true] at hreply
  have hquieted : o.quietedBy (amended b o) = true ↔ (o.rebound (amended b o)).addr ≠ o.addr
      ∨ ∃ m, o.mode = some m ∧ modeIn m (o.rebound (amended b o)).permitted = false := by
    have hpermitted : (o.rebound (amended b o)).permitted = (amended b o).permitted := by
      unfold Offtake.rebound
      split <;> rfl
    simp [Offtake.quietedBy, hpermitted, eq_comm (a := o.addr), Option.any_eq_true]
  refine ⟨o.rebound (amended b o), ?_, ?_, ?_⟩
  · rw [Offtake.rebound_eq, amended_eq]
  · intro hsame hkept
    have hno : ¬ o.quietedBy (amended b o) = true := by
      rw [hquieted]
      rintro (hne | ⟨m, hm, hlost⟩)
      · exact hne hsame
      · exact absurd (hkept m hm) (by simp [hlost])
    rw [if_neg hno] at hreply
    exact exec_reply htakes hreply
  · intro hchanged
    rw [if_pos (hquieted.mpr hchanged)] at hreply
    exact exec_reply htakes hreply

/-! ### Withdrawing, freeing and retiring a record (R11, R19, R21) -/

/-- Withdrawing a record hands its grant, now 0, on (R47). -/
theorem State.withdraw_setpointQueue {s : State} {i : Nat} {o : Offtake} (ho : s.offtake i = some o) (st : Supply) :
    (s.withdraw i st).setpointQueue =
      if o.linked then queueAfterGrant i 0 o.ackGrant s.setpointQueue else s.setpointQueue := by
  simp only [State.withdraw, State.handGrant, State.offtake_voidEntry, State.offtake_modOfftake, ho, if_true,
    Option.map_some, State.voidEntry_setpointQueue, State.modOfftake_setpointQueue]
  show (if o.linked then _ else _ : State).setpointQueue = _
  split <;> simp [Offtake.zeroGrant]

theorem State.withdraw_pass (s : State) (i : Nat) (st : Supply) : (s.withdraw i st).pass = (s.voidEntry i).pass := by
  simp [State.withdraw, State.voidEntry]

/-- Every entry of the slot is void (R109). -/
theorem State.void_of_voidEntry {s : State} {i : Nat} {ps : Pass} (h : (s.voidEntry i).pass = some ps) :
    ∀ e ∈ ps.table, e.slot = i → e.void = true := by
  obtain ⟨ps', _, rfl⟩ := Option.map_eq_some_iff.mp h
  intro e he hslot
  obtain ⟨e', _, rfl⟩ := List.mem_map.mp he
  split
  · rfl
  · next hne =>
    rw [if_neg hne] at hslot
    exact absurd hslot hne

theorem State.unbindCount_congr {s t : State} (h : t.accounts = s.accounts) (n : Option Nat) :
    (t.unbindCount n).accounts = (s.unbindCount n).accounts := by
  cases n with
  | none => exact h
  | some k =>
    have hentry : t.accountEntry k = s.accountEntry k := by simp only [State.accountEntry, h]
    simp only [State.unbindCount, State.modAccount, hentry]
    split <;> simp [h]

/-- The exchange in flight after one for slot `i` is abandoned (R29). -/
def Exchange.abandonedFor (i : Nat) : Exchange → Exchange
  | .poll slot addr freed => .poll slot addr freed
  | .setpoint slot addr sent abandoned => .setpoint slot addr sent (abandoned || decide (slot = i))

/-- The exchange in flight after slot `i` is freed under a poll (R27). -/
def Exchange.droppedFor (i : Nat) : Exchange → Exchange
  | .poll slot addr freed => .poll slot addr (freed || decide (slot = i))
  | .setpoint slot addr sent abandoned => .setpoint slot addr sent abandoned

/-- What freeing a slot writes besides the record (R21, R27, R29). -/
theorem State.free_setpointQueue {s : State} {i : Nat} {o : Offtake} (ho : s.offtake i = some o) :
    (s.free i).setpointQueue = s.setpointQueue.filter (·.slot ≠ i) := by
  rw [State.free, ho]
  dsimp only
  rw [State.unbindCount_frame]
  simp [State.dropEntry]

theorem State.free_accounts {s : State} {i : Nat} {o : Offtake} (ho : s.offtake i = some o) :
    (s.free i).accounts = (s.unbindCount o.account).accounts := by
  rw [State.free, ho]
  simp

theorem State.abandon_exchange (s : State) (i : Nat) :
    (s.abandon i).exchange = s.exchange.map (Exchange.abandonedFor i) := by
  unfold State.abandon
  split
  · next slot addr sent abandoned hx =>
    by_cases h : slot = i <;> simp [hx, h, Exchange.abandonedFor]
  · next hx => simp [hx, Exchange.abandonedFor]
  · next hx => simp [hx]

theorem State.dropPoll_exchange (s : State) (i : Nat) :
    (s.dropPoll i).exchange = s.exchange.map (Exchange.droppedFor i) := by
  unfold State.dropPoll
  split
  · next slot addr freed hx =>
    by_cases h : slot = i <;> simp [hx, h, Exchange.droppedFor]
  · next hx => simp [hx, Exchange.droppedFor]
  · next hx => simp [hx]

theorem State.free_exchange {s : State} {i : Nat} {o : Offtake} (ho : s.offtake i = some o) :
    (s.free i).exchange = (s.exchange.map (Exchange.abandonedFor i)).map (Exchange.droppedFor i) := by
  rw [State.free, ho]
  dsimp only
  rw [State.unbindCount_frame]
  simp [State.dropPoll_exchange, State.abandon_exchange]

theorem State.free_pass {s : State} {i : Nat} {o : Offtake} (ho : s.offtake i = some o) :
    (s.free i).pass = (s.voidEntry i).pass := by
  rw [State.free, ho]
  dsimp only
  rw [State.unbindCount_frame]
  simp [State.voidEntry]

theorem State.listed_of_lists {s t : State} (hstack : t.stack = s.stack) (hqueue : t.readmission = s.readmission) :
    t.listed = s.listed := by rw [State.listed, hstack, hqueue, State.listed]

theorem State.listed_unlist (s : State) (i : Nat) : (s.unlist i).listed = s.listed.filter (· ≠ i) := by
  simp [State.listed, State.unlist, List.filter_append, List.filter_flatMap, List.flatMap_map]

/-- What retiring leaves of the record, and of every other one (R19, steps 1 to 4). -/
theorem State.offtake_retire {s : State} {i : Nat} {o : Offtake} (ho : s.offtake i = some o) (j : Nat) :
    (s.retire i o).offtake j =
      if i = j then some { o.zeroGrant with retiring := true, supply := o.supply.atRetirement } else s.offtake j := by
  simp only [State.retire, State.offtake_unlist, State.offtake_withdraw, State.offtake_modOfftake]
  split
  · next hij =>
    subst hij
    rw [ho]
    rfl
  · rfl

/-- Beyond the record, retiring writes the setpoint queue, the entries of the pass and the shed lists. -/
theorem State.retire_frame (s : State) (i : Nat) (o : Offtake) :
    s.retire i o = { s with
      slots := (s.retire i o).slots
      setpointQueue := (s.retire i o).setpointQueue
      pass := (s.retire i o).pass
      stack := (s.retire i o).stack
      readmission := (s.retire i o).readmission } := by
  unfold State.retire
  rw [State.withdraw_frame, State.modOfftake_frame]
  ext1 <;> rfl

theorem State.retire_pass (s : State) (i : Nat) (o : Offtake) : (s.retire i o).pass = (s.voidEntry i).pass := by
  simp [State.retire, State.withdraw_pass, State.voidEntry]

theorem State.retire_setpointQueue {s : State} {i : Nat} {o : Offtake} (ho : s.offtake i = some o) :
    (s.retire i o).setpointQueue =
      if o.linked then queueAfterGrant i 0 o.ackGrant s.setpointQueue else s.setpointQueue := by
  have hmod : (s.modOfftake i fun o => { o with retiring := true }).offtake i = some { o with retiring := true } := by
    simp [State.offtake_modOfftake, ho]
  simp only [State.retire, State.unlist_setpointQueue, State.withdraw_setpointQueue hmod,
    State.modOfftake_setpointQueue]

theorem State.listed_retire (s : State) (i : Nat) (o : Offtake) : (s.retire i o).listed = s.listed.filter (· ≠ i) := by
  rw [State.retire, State.listed_unlist]
  congr 1
  exact State.listed_of_lists (by simp [State.withdraw]) (by simp [State.withdraw])

theorem reqRetireOfftake_checked {p : PortId} {i : Nat} {s : State} {o : Offtake}
    (hright : s.hasRight p .maintain = true) (ho : s.offtake i = some o) (hlive : o.retiring = false) :
    reqRetireOfftake p i o.tag s =
      if s.waitsForClose i o then ⟨.ok, .outcome true, s.retire i o⟩
      else ⟨.ok, .outcome false, (s.retire i o).free i⟩ := by
  simp [reqRetireOfftake, hright, State.findRecord_eq ho, hlive]

/-- Settles O16: an accepted request leaves `s.retire i o`, freed as well when no close is waited for. -/
theorem retireOfftakeCompletes : Obligations.RetireOfftakeCompletes := by
  intro p i tag s q o htakes hright ho htag hlive
  subst htag
  have hreply := reqRetireOfftake_checked hright ho hlive
  have hretired := State.offtake_retire ho i
  rw [if_pos rfl] at hretired
  by_cases hwaits : s.waitsForClose i o = true
  · rw [if_pos hwaits] at hreply
    have hlinked : o.linked = true := by
      simp only [State.waitsForClose, Bool.and_eq_true] at hwaits
      exact hwaits.1
    refine ⟨s.retire i o, fun j hj => ?_, s.listed_retire i o, ?_, ?_, fun _ => ?_, fun hno => ?_⟩
    · rw [State.offtake_retire ho, if_neg hj.symm]
    · rw [State.retire_frame]
    · intro ps hps
      rw [State.retire_pass] at hps
      exact State.void_of_voidEntry hps
    · refine ⟨exec_reply htakes hreply, ?_, ?_, ?_, ?_⟩
      · rw [State.retire_frame]
      · rw [State.retire_frame]
      · rw [hretired]
        cases hs : o.supply <;> simp [Supply.atRetirement, Offtake.zeroGrant]
      · rw [State.retire_setpointQueue ho, if_pos hlinked]
    · rw [hwaits] at hno
      cases hno
  · rw [if_neg hwaits] at hreply
    refine ⟨(s.retire i o).free i, fun j hj => ?_, ?_, ?_, ?_, fun hyes => absurd hyes hwaits, fun _ => ?_⟩
    · rw [State.offtake_free, if_neg hj.symm, State.offtake_retire ho, if_neg hj.symm]
    · rw [State.listed_of_lists (s := s.retire i o) (by rw [State.free_frame]) (by rw [State.free_frame]),
        s.listed_retire i o]
    · rw [State.free_frame, State.retire_frame]
    · intro ps hps
      rw [State.free_pass hretired] at hps
      exact State.void_of_voidEntry hps
    · refine ⟨exec_reply htakes hreply, ?_, ?_, ?_, ?_⟩
      · rw [State.offtake_free, if_pos rfl]
      · rw [State.free_setpointQueue hretired, State.retire_setpointQueue ho]
        split
        · exact queueAfterGrant_other i 0 o.ackGrant s.setpointQueue
        · rfl
      · rw [State.free_accounts hretired]
        exact State.unbindCount_congr (by rw [State.retire_frame]) _
      · rw [State.free_exchange hretired]
        have hexchange : (s.retire i o).exchange = s.exchange := by rw [State.retire_frame]
        rw [hexchange]
        rcases s.exchange with _ | (_ | _) <;> rfl

end Sys2Proof.Machine
end

section
/-! ## The state after reset -/

namespace Sys2Proof.Machine

open Sys2Proof

theorem State.offtake_reset (i : Nat) : State.reset.offtake i = none := by
  simp only [State.offtake, State.reset, State.released, Vector.getElem?_replicate]
  split <;> rfl

theorem State.accountAt_reset (e : Nat) : State.reset.accountAt e = none := by
  simp only [State.accountAt, State.reset, State.released, Vector.getElem?_replicate]
  split <;> rfl

/-- Every entry of a table filled with one value is that value. -/
theorem replicate_entry {α : Type} {n i : Nat} {a b : α} (h : (Vector.replicate n a)[i]? = some b) : b = a := by
  rw [Vector.getElem?_replicate] at h
  split at h
  · exact (Option.some.inj h).symm
  · cases h

/-- Settles O3: every field of `State.reset` is read off; the tables are filled with one value each. -/
theorem resetLeavesTheFullResetValues : Obligations.ResetLeavesTheFullResetValues := by
  refine ⟨rfl, State.offtake_reset, State.accountAt_reset, rfl, rfl, rfl, rfl, rfl, rfl, rfl, rfl, rfl, rfl, rfl, rfl,
    rfl, rfl, ?_, ?_, ?_, ?_, rfl, rfl, ?_, ?_⟩
  · intro c ch hc
    rw [replicate_entry hc]
    exact ⟨rfl, rfl, rfl⟩
  · intro w win hw
    rw [replicate_entry hw]
    rfl
  · intro g
    cases g <;> rfl
  · intro n pair hn
    rw [replicate_entry hn]
    rfl
  · intro p
    cases p <;> exact ⟨rfl, by decide⟩
  · intro k
    cases k <;> decide

/-- Settles O4: the lists are empty, no slot holds a record and no entry an account, and the tables stand at values that
keep their laws. -/
theorem resetIsLawful : Obligations.ResetIsLawful := by
  have hrecord : ∀ {P : Prop} {i o}, State.reset.offtake i = some o → P := fun h =>
    absurd h (by simp [State.offtake_reset])
  have haccount : ∀ {P : Prop} {e a}, State.reset.accountAt e = some a → P := fun h =>
    absurd h (by simp [State.accountAt_reset])
  refine ⟨?_, ⟨?_, ?_, ?_, ?_⟩, ?_, ?_, ⟨?_, ?_, ?_⟩, ?_, ?_, ⟨?_, ⟨?_, ?_, ?_⟩, ?_⟩, ?_, ⟨?_, ?_⟩, ?_⟩
  · exact fun i j a b ha => hrecord ha
  · exact fun i o ho => hrecord ho
  · exact ⟨List.nodup_nil, by simp [State.reset, State.released], List.Pairwise.nil⟩
  · refine ⟨by simp [State.reset, State.released], ?_⟩
    rintro i ⟨addr, sent, hx⟩
    cases hx
  · exact ⟨List.nodup_nil, fun i => ⟨by simp [State.listed, State.reset, State.released], fun ⟨o, ho, _⟩ => hrecord ho⟩⟩
  · exact fun i o ho => hrecord ho
  · intro p hp
    cases hp
  · unfold Plant.ok
    decide
  · exact fun i o ho => hrecord ho
  · exact fun i o ho => hrecord ho
  · exact ⟨List.Pairwise.nil, by simp [State.reset, State.released]⟩
  · intro g
    cases g <;> decide
  · exact fun e f a b ha => haccount ha
  · exact fun e a ha => haccount ha
  · exact fun i o n ho => hrecord ho
  · intro n hn
    cases hn
  · exact fun e a ha => haccount ha
  · unfold State.noticesOk NoticeEntry.ok
    decide
  · unfold Balance.ok
    decide
  · intro g
    cases g <;> rfl
  · intro c hc
    rw [show State.reset.channels.toList = List.replicate 48 Channel.reset from Vector.toList_replicate] at hc
    rw [List.eq_of_mem_replicate hc]
    unfold Channel.ok
    decide

end Sys2Proof.Machine
end

section
/-! ## RESTART (R23, R199) -/

namespace Sys2Proof.Machine

open Sys2Proof

/-! ### Accounts whose numbers are distinct -/

/-- Accounts rewritten in place, each with its number kept, stay distinct (R159). -/
theorem State.numbersDistinct_of_map {s t : State} {f : Account → Account} (hs : s.numbersDistinct)
    (hmap : ∀ e, t.accountAt e = (s.accountAt e).map f) (hf : ∀ a, (f a).number = a.number) : t.numbersDistinct := by
  intro e k a b ha hb hek
  rw [hmap, Option.map_eq_some_iff] at ha hb
  obtain ⟨a, ha, rfl⟩ := ha
  obtain ⟨b, hb, rfl⟩ := hb
  rw [hf, hf]
  exact hs e k a b ha hb hek

/-- With distinct numbers, rewriting the account with a number is rewriting every account that has it. -/
theorem State.accountAt_modAccount {s : State} (hs : s.numbersDistinct) (n e : Nat) (f : Account → Account) :
    (s.modAccount n f).accountAt e = (s.accountAt e).map fun a => if a.number = n then f a else a := by
  cases he : s.accountEntry n with
  | none =>
    have hnone := State.accountEntry_none.mp he
    have hsame : s.modAccount n f = s := by simp [State.modAccount, he]
    rw [hsame]
    cases ha : s.accountAt e with
    | none => rfl
    | some a => simp [hnone e a ha]
  | some k =>
    obtain ⟨a, hk, hnumber⟩ := State.accountEntry_spec he
    have hmod : (s.modAccount n f).accountAt e = if k = e then (s.accountAt e).map f else s.accountAt e := by
      rw [State.modAccount_eq he]
      simp only [State.accountAt, modAt_getElem?]
      split
      · cases s.accounts[e]? <;> rfl
      · rfl
    rw [hmod]
    cases hb : s.accountAt e with
    | none => simp
    | some b =>
      by_cases hke : k = e
      · subst hke
        have hab : a = b := Option.some.inj (hk.symm.trans hb)
        simp [← hab, hnumber]
      · have hother : b.number ≠ n := fun h => hs k e a b hk hb hke (hnumber.trans h.symm)
        simp [hke, hother]

/-! ### One slot -/

/-- What RESTART leaves of a record: none of a retiring one (R23). -/
def Offtake.afterRestart (o : Offtake) : Option Offtake := if o.retiring then none else some o.restarted

theorem State.offtake_restartSlot (s : State) (i j : Nat) :
    (s.restartSlot i).offtake j = if i = j then (s.offtake j).bind Offtake.afterRestart else s.offtake j := by
  unfold State.restartSlot
  split
  · next o ho =>
    have hi := State.offtake_lt ho
    by_cases hij : i = j
    · subst hij
      cases hr : o.retiring <;>
        simp [hr, ho, hi, State.offtake_free, State.offtake_putOfftake, Offtake.afterRestart]
    · split <;> simp [hij, State.offtake_free, State.offtake_putOfftake]
  · next hnone =>
    split
    · next hij => rw [← hij, hnone]; rfl
    · rfl

theorem State.restartSlot_frame (s : State) (i : Nat) :
    s.restartSlot i = { s with
      slots := (s.restartSlot i).slots
      setpointQueue := (s.restartSlot i).setpointQueue
      exchange := (s.restartSlot i).exchange
      pass := (s.restartSlot i).pass
      accounts := (s.restartSlot i).accounts } := by
  unfold State.restartSlot
  repeat' split
  · exact State.free_frame s i
  · rfl
  · rfl

/-- The record of a slot that RESTART frees names the account. -/
def State.freesNaming (s : State) (i n : Nat) : Bool := (s.offtake i).any fun o => o.retiring && o.account = some n

theorem State.accountAt_restartSlot {s : State} (hs : s.numbersDistinct) (i e : Nat) :
    (s.restartSlot i).accountAt e = (s.accountAt e).map fun a =>
      { a with boundCount := a.boundCount - if s.freesNaming i a.number then 1 else 0 } := by
  have hkept : ∀ x : Option Account, x = x.map fun a => { a with boundCount := a.boundCount - 0 } := by
    intro x
    cases x <;> rfl
  unfold State.restartSlot State.freesNaming
  cases ho : s.offtake i with
  | none => exact hkept _
  | some o =>
    cases hr : o.retiring with
    | false =>
      simp only [hr, Bool.false_eq_true, if_false, Option.any_some, Bool.false_and]
      exact hkept _
    | true =>
      have haccounts : (s.free i).accountAt e = (s.unbindCount o.account).accountAt e := by
        rw [State.accountAt, State.free_accounts ho, State.accountAt]
      simp only [hr, if_true, haccounts, Option.any_some, Bool.true_and, decide_eq_true_eq]
      cases o.account with
      | none =>
        simp only [reduceCtorEq, if_false]
        exact hkept _
      | some n =>
        rw [State.unbindCount, State.accountAt_modAccount hs]
        congr 1
        funext a
        by_cases ha : a.number = n
        · simp [ha]
        · simp [ha, Ne.symm ha]

/-! ### Every slot -/

/-- How many of the records of the slots `is` are retiring and name account `n`. -/
def State.freedNaming (s : State) (is : List Nat) (n : Nat) : Nat :=
  (((is.filterMap s.offtake).filter fun o => o.account = some n).filter (·.retiring)).length

theorem State.freedNaming_cons (s : State) (i : Nat) (is : List Nat) (n : Nat) :
    s.freedNaming (i :: is) n = (if s.freesNaming i n then 1 else 0) + s.freedNaming is n := by
  unfold State.freedNaming State.freesNaming
  cases ho : s.offtake i with
  | none => simp [ho]
  | some o =>
    rw [List.filterMap_cons_some ho]
    by_cases hn : o.account = some n <;> cases hr : o.retiring <;> simp [hn, hr, Nat.add_comm]

theorem State.freedNaming_congr {s t : State} {is : List Nat} (h : ∀ j ∈ is, t.offtake j = s.offtake j) (n : Nat) :
    t.freedNaming is n = s.freedNaming is n := by
  unfold State.freedNaming
  rw [List.filterMap_congr h]

theorem offtake_restartSlots (is : List Nat) (hnodup : is.Nodup) (j : Nat) : ∀ s : State,
    (is.foldl State.restartSlot s).offtake j =
      if j ∈ is then (s.offtake j).bind Offtake.afterRestart else s.offtake j := by
  induction is with
  | nil => intro s; simp
  | cons i is ih =>
    intro s
    obtain ⟨hi, his⟩ := List.nodup_cons.mp hnodup
    rw [List.foldl_cons, ih his, State.offtake_restartSlot]
    by_cases hij : i = j
    · subst hij
      simp [hi]
    · simp [hij, Ne.symm hij]

theorem restartSlots_frame (is : List Nat) : ∀ s : State,
    is.foldl State.restartSlot s = { s with
      slots := (is.foldl State.restartSlot s).slots
      setpointQueue := (is.foldl State.restartSlot s).setpointQueue
      exchange := (is.foldl State.restartSlot s).exchange
      pass := (is.foldl State.restartSlot s).pass
      accounts := (is.foldl State.restartSlot s).accounts } := by
  induction is with
  | nil => intro s; rfl
  | cons i is ih => intro s; rw [List.foldl_cons, ih, State.restartSlot_frame]

/-- No account moves when no record is retiring. -/
theorem accounts_restartSlots (is : List Nat) : ∀ s : State, (∀ i o, s.offtake i = some o → o.retiring = false) →
    (is.foldl State.restartSlot s).accounts = s.accounts := by
  induction is with
  | nil => intro s _; rfl
  | cons i is ih =>
    intro s hs
    have hslot : (s.restartSlot i).accounts = s.accounts := by
      unfold State.restartSlot
      cases ho : s.offtake i with
      | none => rfl
      | some o => simp [hs i o ho]
    rw [List.foldl_cons, ih, hslot]
    intro j o ho
    rw [State.offtake_restartSlot] at ho
    split at ho
    · obtain ⟨x, hx, hafter⟩ := Option.bind_eq_some_iff.mp ho
      rw [Offtake.afterRestart, if_neg (by simp [hs j x hx])] at hafter
      cases hafter
      exact hs j x hx
    · exact hs j o ho

/-- Each account's bound count falls by the retiring records that name it (R21, R167). -/
theorem accountAt_restartSlots (is : List Nat) (hnodup : is.Nodup) (e : Nat) : ∀ s : State, s.numbersDistinct →
    (is.foldl State.restartSlot s).accountAt e = (s.accountAt e).map fun a =>
      { a with boundCount := a.boundCount - s.freedNaming is a.number } := by
  induction is with
  | nil =>
    intro s _
    show s.accountAt e = _
    cases s.accountAt e <;> rfl
  | cons i is ih =>
    intro s hs
    obtain ⟨hi, his⟩ := List.nodup_cons.mp hnodup
    have hslot := State.accountAt_restartSlot hs i
    have hrest : ∀ n, (s.restartSlot i).freedNaming is n = s.freedNaming is n := State.freedNaming_congr fun j hj => by
      rw [State.offtake_restartSlot, if_neg]
      rintro rfl
      exact hi hj
    rw [List.foldl_cons, ih his _ (State.numbersDistinct_of_map hs hslot fun _ => rfl), hslot, Option.map_map]
    congr 1
    funext a
    simp [hrest, State.freedNaming_cons, Nat.sub_sub]

/-! ### The whole part -/

/-- What RESTART writes, field by field (R199 and the last rules of each chapter). -/
theorem State.restarted_frame (s : State) :
    s.restarted = { s with
      slots := (slotNumbers.foldl State.restartSlot s).slots
      pollCursor := 0
      exchange := none
      replyMs := 0
      afterPoll := false
      setpointQueue := []
      channels := s.channels.map Channel.restarted
      grades := s.grades.map GradeRecord.restarted
      passMs := 0
      passLength := s.plant.interval
      pass := none
      passSeq := 0
      balance := .reset
      stack := []
      readmission := []
      recoveryTimer := 0
      accounts := (slotNumbers.foldl State.restartSlot s).accounts
      notices := s.notices.map NoticeEntry.restarted } := by
  unfold State.restarted
  dsimp only
  rw [restartSlots_frame]

theorem State.restarted_accounts (s : State) :
    s.restarted.accounts = (slotNumbers.foldl State.restartSlot s).accounts := by rw [State.restarted_frame]

theorem State.offtake_restarted (s : State) (i : Nat) : s.restarted.offtake i = (s.offtake i).bind Offtake.afterRestart := by
  have hslots : s.restarted.slots = (slotNumbers.foldl State.restartSlot s).slots := by rw [State.restarted_frame]
  rw [State.offtake_of_slots hslots, offtake_restartSlots slotNumbers List.nodup_range]
  split
  · rfl
  · next hi =>
    cases ho : s.offtake i with
    | none => rfl
    | some o => exact absurd (mem_slotNumbers.mpr (State.offtake_lt ho)) hi

/-- Settles O50: RESTART is the slots restarted one by one, and the fields of `restarted_frame`. -/
theorem restartCompletes : Obligations.RestartCompletes := by
  intro p s q htakes hright
  have hframe := s.restarted_frame
  generalize slotNumbers.foldl State.restartSlot s = u at hframe
  refine ⟨s.restarted, exec_reply htakes (a := s.restarted.accept) (by simp [replyOf, reqRestart, hright]), ?_, ?_, ?_, ?_,
    fun i => ⟨fun hnone => ?_, fun o ho => ⟨fun hr => ?_, fun hr => ?_⟩⟩⟩
  · rw [hframe]
    rfl
  · intro g
    rw [hframe]
    cases g <;> rfl
  · intro hlive
    rw [State.restarted_accounts, accounts_restartSlots slotNumbers s hlive]
  · intro hs e
    rw [State.accountAt, State.restarted_accounts]
    exact accountAt_restartSlots slotNumbers List.nodup_range e s hs
  · rw [State.offtake_restarted, hnone]
    rfl
  · rw [State.offtake_restarted, ho]
    simp [Offtake.afterRestart, hr]
  · rw [State.offtake_restarted, ho]
    simp only [Option.bind_some, Offtake.afterRestart, hr, Bool.false_eq_true, if_false]
    cases hs : o.supply <;> simp [Offtake.restarted, Offtake.quieted, Offtake.withMode, hs, hr]

end Sys2Proof.Machine
end

section
/-! ## PASS_COMPLETION (R118 to R120, R141 to R146)

The completion is taken apart as R118 to R120 order it: the grants written (`grantsWritten`), the figures
(`figuresWritten`), the sheds of the outcome (`takeSheds`), the recovery timer and the pop it may call for (`recover`).
Each part is described by the record of every slot, the setpoint queue and the lists. -/

namespace Sys2Proof.Machine

open Sys2Proof

/-! ### Grants handed to the setpoint queue (R47) -/

/-- The setpoint queue after the record of slot `i`, if it is ACTIVE and linked, is handed over with a grant. -/
def State.handed (s : State) (grant : Nat → Nat) (queue : List SetpointEntry) (i : Nat) : List SetpointEntry :=
  match s.offtake i with
  | some o => if o.supply = .active ∧ o.linked = true then queueAfterGrant i (grant i) o.ackGrant queue else queue
  | none => queue

/-- What the handing of a grant reads of a record. -/
def Offtake.service (o : Offtake) : Supply × Bool × Nat := (o.supply, o.linked, o.ackGrant)

theorem State.handed_congr {s t : State} {i : Nat} (h : (t.offtake i).map Offtake.service = (s.offtake i).map Offtake.service)
    (grant : Nat → Nat) (queue : List SetpointEntry) : t.handed grant queue i = s.handed grant queue i := by
  unfold State.handed
  cases ht : t.offtake i <;> cases hs : s.offtake i <;> simp [ht, hs, Offtake.service] at h
  · rfl
  · obtain ⟨hsupply, hlinked, hack⟩ := h
    simp [hsupply, hlinked, hack]

theorem State.isActive_iff {s : State} {i : Nat} : s.isActive i = true ↔ ∃ o, s.offtake i = some o ∧ o.supply = .active := by
  simp [State.isActive, Option.any_eq_true]

/-! ### The grants written (R118) -/

/-- The record, if it is ACTIVE, with its result grant. -/
def Offtake.takesGrant (r : PassResult) (i : Nat) (o : Offtake) : Offtake :=
  if o.supply = .active then o.granted r i else o

theorem Offtake.takesGrant_service (r : PassResult) (i : Nat) (o : Offtake) : (o.takesGrant r i).service = o.service := by
  unfold Offtake.takesGrant
  split <;> rfl

theorem Offtake.takesGrant_idem (r : PassResult) (i : Nat) (o : Offtake) :
    (o.takesGrant r i).takesGrant r i = o.takesGrant r i := by
  unfold Offtake.takesGrant
  by_cases h : o.supply = .active
  · simp only [h, if_true, Offtake.granted]
    split <;> rfl
  · simp [h]

theorem State.offtake_writeGrant (r : PassResult) (s : State) (e : PassEntry) (j : Nat) :
    (s.writeGrant r e).offtake j =
      if e.slot = j ∧ e.void = false then (s.offtake j).map (Offtake.takesGrant r j) else s.offtake j := by
  unfold State.writeGrant
  by_cases hvoid : e.void = true
  · simp [hvoid]
  · by_cases hactive : s.isActive e.slot = true
    · simp only [hvoid, hactive, Bool.false_or, Bool.not_true, Bool.false_eq_true, if_false, State.offtake_handGrant,
        State.offtake_modOfftake, and_true]
      split
      · next hj =>
        subst hj
        obtain ⟨o, ho, hsupply⟩ := State.isActive_iff.mp hactive
        simp [ho, Offtake.takesGrant, hsupply]
      · rfl
    · simp only [hactive, Bool.not_false, Bool.or_true, if_true]
      split
      · next hj =>
        obtain ⟨rfl, _⟩ := hj
        cases ho : s.offtake e.slot with
        | none => rfl
        | some o =>
          have hsupply : o.supply ≠ .active := fun h => hactive (State.isActive_iff.mpr ⟨o, ho, h⟩)
          simp [Offtake.takesGrant, hsupply]
      · rfl

theorem State.writeGrant_setpointQueue (r : PassResult) (s : State) (e : PassEntry) :
    (s.writeGrant r e).setpointQueue =
      if e.void then s.setpointQueue else s.handed (grantIn r.shares) s.setpointQueue e.slot := by
  unfold State.writeGrant State.handed
  by_cases hvoid : e.void = true
  · simp [hvoid]
  · cases ho : s.offtake e.slot with
    | none => simp [hvoid, State.isActive, ho]
    | some o =>
      by_cases hsupply : o.supply = .active
      · have hwritten : (s.modOfftake e.slot (Offtake.granted r e.slot)).offtake e.slot = some (o.granted r e.slot) := by
          simp [State.offtake_modOfftake, ho]
        simp only [hvoid, State.isActive, ho, hsupply, Option.any_some, decide_true, Bool.not_true, Bool.or_false,
          Bool.false_eq_true, if_false, true_and, State.handGrant, hwritten]
        show (if o.linked = true then _ else _ : State).setpointQueue = _
        split <;> simp [Offtake.granted]
      · simp [hvoid, State.isActive, ho, hsupply]

theorem State.service_writeGrant (r : PassResult) (s : State) (e : PassEntry) (j : Nat) :
    ((s.writeGrant r e).offtake j).map Offtake.service = (s.offtake j).map Offtake.service := by
  rw [State.offtake_writeGrant]
  split
  · rw [Option.map_map]
    congr 1
    funext o
    exact o.takesGrant_service r j
  · rfl

theorem offtake_writeGrants (r : PassResult) (j : Nat) (es : List PassEntry) : ∀ s : State,
    (es.foldl (State.writeGrant r) s).offtake j =
      if ∃ e ∈ es, e.slot = j ∧ e.void = false then (s.offtake j).map (Offtake.takesGrant r j) else s.offtake j := by
  induction es with
  | nil => intro s; simp
  | cons e es ih =>
    intro s
    have hidem : Offtake.takesGrant r j ∘ Offtake.takesGrant r j = Offtake.takesGrant r j :=
      funext (Offtake.takesGrant_idem r j)
    rw [List.foldl_cons, ih, State.offtake_writeGrant]
    by_cases he : e.slot = j ∧ e.void = false <;> by_cases hes : ∃ e ∈ es, e.slot = j ∧ e.void = false <;>
      simp [he, hes, Option.map_map, hidem]

theorem setpointQueue_writeGrants (r : PassResult) (es : List PassEntry) : ∀ s : State,
    (es.foldl (State.writeGrant r) s).setpointQueue =
      ((es.filter fun e => !e.void).map (·.slot)).foldl (s.handed (grantIn r.shares)) s.setpointQueue := by
  induction es with
  | nil => intro s; rfl
  | cons e es ih =>
    intro s
    have hhanded : (s.writeGrant r e).handed (grantIn r.shares) = s.handed (grantIn r.shares) := by
      funext queue i
      exact State.handed_congr (s.service_writeGrant r e i) _ queue
    rw [List.foldl_cons, ih, hhanded, State.writeGrant_setpointQueue]
    cases hvoid : e.void <;> simp [hvoid]

/-! ### The figures written (R119, R134) -/

theorem State.notice_of_notices {s t : State} (h : t.notices = s.notices) (k : NoticeKind) : t.notice k = s.notice k := by
  rw [State.notice, h, State.notice]

theorem State.notice_figuresWritten (s : State) (p : Pass) {k : NoticeKind} (hk : k ≠ .exportShort) :
    (s.figuresWritten p).notice k = s.notice k := by
  have hbefore : ((s.grantsWritten p).writeResults p.view.result).notices = s.notices := by
    rw [State.writeResults, State.grantsWritten_frame]
  have hwritten : (s.figuresWritten p).notices
      = (((s.grantsWritten p).writeResults p.view.result).writeBalance p.view.result.balance).notices := rfl
  rw [State.notice_of_notices hwritten, State.writeBalance]
  split
  · rw [State.notice_raise, if_neg hk]
    exact State.notice_of_notices hbefore k
  · exact State.notice_of_notices hbefore k

/-! ### Records shed one by one (R141) -/

/-- The record as a shed leaves it. -/
def Offtake.afterShed (o : Offtake) : Offtake := { o.zeroGrant with supply := .shed }

theorem State.offtake_shed (s : State) (i j : Nat) :
    (s.shed i).offtake j = if i = j then (s.offtake j).map Offtake.afterShed else s.offtake j :=
  State.offtake_withdraw s i j .shed

theorem State.isActive_shed (s : State) (i j : Nat) :
    (s.shed i).isActive j = true ↔ i ≠ j ∧ s.isActive j = true := by
  simp only [State.isActive_iff, State.offtake_shed]
  by_cases hij : i = j
  · subst hij
    simp [Offtake.afterShed]
  · simp [hij]

theorem mem_shedEach (is : List Nat) (i : Nat) : ∀ s : State,
    i ∈ (s.shedEach is).2 ↔ i ∈ is ∧ s.isActive i = true := by
  induction is with
  | nil => intro s; simp [State.shedEach]
  | cons j is ih =>
    intro s
    unfold State.shedEach
    split
    · next hj =>
      rw [List.mem_cons, ih, State.isActive_shed, List.mem_cons]
      by_cases hij : i = j
      · subst hij; simp [hj]
      · simp [hij, Ne.symm hij]
    · next hj =>
      rw [ih, List.mem_cons]
      by_cases hij : i = j
      · subst hij; simp [hj]
      · simp [hij]

theorem shedEach_sublist (is : List Nat) : ∀ s : State, (s.shedEach is).2.Sublist is := by
  induction is with
  | nil => intro s; exact .slnil
  | cons j is ih =>
    intro s
    unfold State.shedEach
    split
    · exact (ih _).cons_cons j
    · exact (ih s).cons j

theorem shedEach_nodup (is : List Nat) : ∀ s : State, (s.shedEach is).2.Nodup := by
  induction is with
  | nil => intro s; exact List.nodup_nil
  | cons j is ih =>
    intro s
    unfold State.shedEach
    split
    · refine List.nodup_cons.mpr ⟨fun hj => ?_, ih _⟩
      rw [mem_shedEach, State.isActive_shed] at hj
      exact hj.2.1 rfl
    · exact ih s

/-- A list of ACTIVE records without repetition is shed whole. -/
theorem shedEach_all (is : List Nat) : ∀ s : State, is.Nodup → (∀ i ∈ is, s.isActive i = true) → (s.shedEach is).2 = is := by
  induction is with
  | nil => intro s _ _; rfl
  | cons j is ih =>
    intro s hnodup hactive
    obtain ⟨hj, his⟩ := List.nodup_cons.mp hnodup
    unfold State.shedEach
    rw [if_pos (hactive j (by simp))]
    show j :: _ = j :: is
    rw [ih _ his fun i hi => (s.isActive_shed j i).mpr ⟨fun h => hj (h ▸ hi), hactive i (by simp [hi])⟩]

theorem offtake_shedEach (is : List Nat) (j : Nat) : ∀ s : State,
    (s.shedEach is).1.offtake j =
      if j ∈ (s.shedEach is).2 then (s.offtake j).map Offtake.afterShed else s.offtake j := by
  induction is with
  | nil => intro s; simp [State.shedEach]
  | cons i is ih =>
    intro s
    by_cases hi : s.isActive i = true
    · have hstep : s.shedEach (i :: is) = (((s.shed i).shedEach is).1, i :: ((s.shed i).shedEach is).2) := by
        rw [State.shedEach, if_pos hi]
      rw [hstep]
      dsimp only
      rw [ih, State.offtake_shed]
      by_cases hij : i = j
      · subst hij
        have hout : i ∉ ((s.shed i).shedEach is).2 := by
          rw [mem_shedEach, State.isActive_shed]
          exact fun h => h.2.1 rfl
        simp [hout]
      · simp [hij, Ne.symm hij]
    · have hstep : s.shedEach (i :: is) = s.shedEach is := by rw [State.shedEach, if_neg hi]
      rw [hstep]
      exact ih s

/-- The queue takes the zeroed grants in the order of the sheds (R47 to R49). -/
theorem setpointQueue_shedEach (is : List Nat) : ∀ s : State,
    (s.shedEach is).1.setpointQueue = (s.shedEach is).2.foldl (s.handed fun _ => 0) s.setpointQueue := by
  induction is with
  | nil => intro s; rfl
  | cons i is ih =>
    intro s
    by_cases hi : s.isActive i = true
    · have hstep : s.shedEach (i :: is) = (((s.shed i).shedEach is).1, i :: ((s.shed i).shedEach is).2) := by
        rw [State.shedEach, if_pos hi]
      obtain ⟨o, ho, hsupply⟩ := State.isActive_iff.mp hi
      have hqueue : (s.shed i).setpointQueue = s.handed (fun _ => 0) s.setpointQueue i := by
        rw [State.shed, State.withdraw_setpointQueue ho, State.handed, ho]
        simp [hsupply]
      rw [hstep]
      dsimp only
      rw [ih, hqueue, List.foldl_cons]
      refine List.foldl_ext _ _ _ fun queue j hj => State.handed_congr ?_ _ queue
      rw [mem_shedEach, State.isActive_shed] at hj
      rw [State.offtake_shed, if_neg hj.2.1]
    · have hstep : s.shedEach (i :: is) = s.shedEach is := by rw [State.shedEach, if_neg hi]
      rw [hstep]
      exact ih s

end Sys2Proof.Machine
end

section
/-! ### The sheds of an outcome (R142 to R144) -/

namespace Sys2Proof.Machine

open Sys2Proof

/-- The stack with slots appended to the top context's list. -/
def appendedTop (stack : List Context) (slots : List Nat) : List Context :=
  match stack with
  | c :: below => { c with shedList := c.shedList ++ slots } :: below
  | [] => []

theorem appendedTop_append (stack : List Context) (a b : List Nat) :
    appendedTop (appendedTop stack a) b = appendedTop stack (a ++ b) := by
  cases stack <;> simp [appendedTop]

theorem appendedTop_nil (stack : List Context) : appendedTop stack [] = stack := by cases stack <;> simp [appendedTop]

theorem State.appendTop_eq (s : State) (i : Nat) : s.appendTop i = { s with stack := appendedTop s.stack [i] } := by
  unfold State.appendTop
  split
  · next h => rw [h]; rfl
  · next h => rw [h]; simp [appendedTop, ← h]

theorem State.modOfftake_withStack (s : State) (stack : List Context) (i : Nat) (f : Offtake → Offtake) :
    ({ s with stack := stack } : State).modOfftake i f = { s.modOfftake i f with stack := stack } := by
  have hrecord : ({ s with stack := stack } : State).offtake i = s.offtake i := rfl
  unfold State.modOfftake
  rw [hrecord]
  cases s.offtake i <;> rfl

theorem State.handGrant_withStack (s : State) (stack : List Context) (i : Nat) :
    ({ s with stack := stack } : State).handGrant i = { s.handGrant i with stack := stack } := by
  have hrecord : ({ s with stack := stack } : State).offtake i = s.offtake i := rfl
  unfold State.handGrant
  rw [hrecord]
  cases s.offtake i with
  | none => rfl
  | some o => dsimp only; split <;> rfl

/-- Shedding reads and writes nothing of the stack. -/
theorem State.shed_withStack (s : State) (stack : List Context) (i : Nat) :
    ({ s with stack := stack } : State).shed i = { s.shed i with stack := stack } := by
  have hvoid : ∀ t : State, ({ t with stack := stack } : State).voidEntry i = { t.voidEntry i with stack := stack } :=
    fun _ => rfl
  rw [State.shed, State.withdraw, State.modOfftake_withStack, hvoid, State.handGrant_withStack]
  rfl

theorem shedEach_withStack (stack : List Context) (is : List Nat) : ∀ s : State,
    ({ s with stack := stack } : State).shedEach is = ({ (s.shedEach is).1 with stack := stack }, (s.shedEach is).2) := by
  induction is with
  | nil => intro s; rfl
  | cons i is ih =>
    intro s
    have hactive : ({ s with stack := stack } : State).isActive i = s.isActive i := rfl
    unfold State.shedEach
    rw [hactive, State.shed_withStack, ih, ih]
    split <;> rfl

/-- The members of a shed set, shed into the top context's list in their order (R144). -/
theorem foldl_shedToTop (is : List Nat) : ∀ s : State,
    is.foldl State.shedToTop s = { (s.shedEach is).1 with stack := appendedTop s.stack (s.shedEach is).2 } := by
  induction is with
  | nil =>
    intro s
    simp [State.shedEach, appendedTop_nil]
  | cons i is ih =>
    intro s
    rw [List.foldl_cons, ih]
    unfold State.shedToTop
    by_cases hi : s.isActive i = true
    · have hstack : (s.shed i).stack = s.stack := by rw [State.shed, State.withdraw_frame]
      rw [if_pos hi, State.appendTop_eq, shedEach_withStack, State.shedEach, if_pos hi]
      simp [appendedTop_append, hstack]
    · rw [if_neg hi, State.shedEach, if_neg hi]

/-! ### The outcome's parts

`members` is the shed set and `lead` its records that are shed, in its order. -/

/-- The slots swept when a context is pushed at a level, the lead being shed already (R142). -/
def State.sweptSlots (s : State) (level : Nat) (lead : List Nat) : List Nat :=
  slotNumbers.filter fun i =>
    !lead.contains i && (s.offtake i).any fun o => o.supply = .active && !admits level o.prio

theorem State.prioOf_congr {s t : State} {i : Nat} (h : (t.offtake i).map (·.prio) = (s.offtake i).map (·.prio)) :
    t.prioOf i = s.prioOf i := by rw [State.prioOf, h, State.prioOf]

theorem prioOf_shedEach (is : List Nat) (s : State) (i : Nat) : (s.shedEach is).1.prioOf i = s.prioOf i := by
  refine State.prioOf_congr ?_
  rw [offtake_shedEach]
  split
  · rw [Option.map_map]; rfl
  · rfl

/-- After the lead is shed, the records held out at the level are those of `sweptSlots`. -/
theorem filter_sweeps_shedEach (s : State) (level : Nat) (is : List Nat) :
    slotNumbers.filter ((s.shedEach is).1.sweeps level) = s.sweptSlots level (s.shedEach is).2 := by
  refine List.filter_congr fun i _ => ?_
  rw [State.sweeps, offtake_shedEach]
  by_cases hi : i ∈ (s.shedEach is).2
  · rw [if_pos hi]
    cases s.offtake i <;> simp [hi, Offtake.afterShed]
  · simp [hi]

/-- The sweep sheds all of its slots. -/
theorem shedEach_swept (s : State) (level : Nat) (is : List Nat) :
    ((s.shedEach is).1.shedEach (s.sweptSlots level (s.shedEach is).2)).2 = s.sweptSlots level (s.shedEach is).2 := by
  refine shedEach_all _ _ (List.nodup_range.filter _) fun i hi => ?_
  rw [← filter_sweeps_shedEach, List.mem_filter] at hi
  obtain ⟨o, ho, hactive⟩ := (Option.any_eq_true ..).mp hi.2
  rw [State.isActive_iff]
  exact ⟨o, ho, by simpa using (Bool.and_eq_true_iff.mp hactive).1⟩

theorem not_mem_lead_of_swept {s : State} {level : Nat} {lead : List Nat} {j : Nat} (h : j ∈ s.sweptSlots level lead) :
    j ∉ lead := by
  have hkept := (Bool.and_eq_true_iff.mp (List.mem_filter.mp h).2).1
  simpa using hkept

/-- The part with the members of `is` shed, and then the records held out at the level. -/
def State.shedAt (s : State) (level : Nat) (is : List Nat) : State :=
  ((s.shedEach is).1.shedEach (s.sweptSlots level (s.shedEach is).2)).1

theorem State.offtake_shedAt (s : State) (level : Nat) (is : List Nat) (j : Nat) :
    (s.shedAt level is).offtake j =
      if j ∈ (s.shedEach is).2 ++ s.sweptSlots level (s.shedEach is).2 then (s.offtake j).map Offtake.afterShed
      else s.offtake j := by
  rw [State.shedAt, offtake_shedEach, shedEach_swept, offtake_shedEach]
  by_cases hlead : j ∈ (s.shedEach is).2
  · have hswept : j ∉ s.sweptSlots level (s.shedEach is).2 := fun h => not_mem_lead_of_swept h hlead
    simp [hlead, hswept]
  · simp [hlead]

theorem State.setpointQueue_shedAt (s : State) (level : Nat) (is : List Nat) :
    (s.shedAt level is).setpointQueue =
      ((s.shedEach is).2 ++ s.sweptSlots level (s.shedEach is).2).foldl (s.handed fun _ => 0) s.setpointQueue := by
  rw [State.shedAt, setpointQueue_shedEach, shedEach_swept, setpointQueue_shedEach, List.foldl_append]
  refine List.foldl_ext _ _ _ fun queue j hj => State.handed_congr ?_ _ queue
  rw [offtake_shedEach, if_neg (not_mem_lead_of_swept hj)]

/-- A push sheds, moves the queue entries held out, and puts the context on the stack (R142). -/
theorem State.push_eq (s : State) (level : Nat) (origin : Origin) (cause : Cause) (is : List Nat) :
    s.push level origin cause is =
      ({ s.shedAt level is with
        readmission := s.readmission.filter fun i => admits level (s.prioOf i)
        stack := ⟨level, origin, cause, (s.shedEach is).2 ++ s.sweptSlots level (s.shedEach is).2
          ++ s.readmission.filter fun i => !admits level (s.prioOf i)⟩ :: s.stack
        recoveryTimer := 0 } : State).raise .curtailUp level := by
  have hprio : (s.shedAt level is).prioOf = s.prioOf :=
    funext fun i => by rw [State.shedAt, prioOf_shedEach, prioOf_shedEach]
  have hreadmission : (s.shedAt level is).readmission = s.readmission := by
    rw [State.shedAt, shedEach_frame, shedEach_frame]
  have hstack : (s.shedAt level is).stack = s.stack := by rw [State.shedAt, shedEach_frame, shedEach_frame]
  have hswept := shedEach_swept s level is
  unfold State.push
  dsimp only
  rw [filter_sweeps_shedEach, hswept, ← State.shedAt, hprio, hreadmission, hstack]

/-! ### The pop (R147) and the recovery (R145, R146) -/

/-- What a pop reads: the stack, the readmission queue and the priority classes. -/
theorem State.pop_congr {s t : State} (hstack : t.stack = s.stack) (hqueue : t.readmission = s.readmission)
    (hprio : ∀ i, t.prioOf i = s.prioOf i) {k : NoticeKind} (hnotice : t.notice k = s.notice k) :
    t.pop.stack = s.pop.stack ∧ t.pop.readmission = s.pop.readmission ∧ t.pop.notice k = s.pop.notice k := by
  have hprio : t.prioOf = s.prioOf := funext hprio
  unfold State.pop
  rw [hstack]
  cases s.stack with
  | nil => exact ⟨hstack, hqueue, hnotice⟩
  | cons c below =>
    dsimp only
    rw [hprio, hqueue]
    refine ⟨rfl, rfl, ?_⟩
    rw [State.notice_raise, State.notice_raise]
    split
    · exact congrArg _ hnotice
    · exact hnotice

theorem State.pop_recoveryTimer {s : State} {c : Context} {below : List Context} (h : s.stack = c :: below) :
    s.pop.recoveryTimer = 0 := by
  unfold State.pop
  rw [h]
  rfl

theorem State.notice_pop (s : State) {k : NoticeKind} (hk : k ≠ .curtailDown) : s.pop.notice k = s.notice k := by
  unfold State.pop
  split
  · rfl
  · rw [State.notice_raise, if_neg hk]
    rfl

theorem State.recover_nil {s : State} (h : s.stack = []) : s.recover = s := by simp [State.recover, State.recovers, h]

/-- An AUTO top is popped when the timer stands at the hold, and nothing else is (R146). -/
theorem State.recover_pops {s : State} {c : Context} {below : List Context} (h : s.stack = c :: below)
    (hauto : c.origin = .auto) (htimer : s.recoveryTimer = s.plant.recoveryHold) : s.recover = s.pop := by
  simp [State.recover, State.recovers, h, hauto, htimer]

theorem State.recover_stays {s : State} {c : Context} {below : List Context} (h : s.stack = c :: below)
    (hno : c.origin = .manual ∨ s.recoveryTimer ≠ s.plant.recoveryHold) : s.recover = s := by
  rcases hno with hmanual | htimer
  · simp [State.recover, State.recovers, h, hmanual]
  · simp [State.recover, State.recovers, h, htimer]

theorem State.recover_frame (s : State) :
    s.recover = { s with
      stack := s.recover.stack
      readmission := s.recover.readmission
      recoveryTimer := s.recover.recoveryTimer
      notices := s.recover.notices } := by
  unfold State.recover
  split
  · exact s.pop_frame
  · rfl

theorem State.notice_recover (s : State) {k : NoticeKind} (hk : k ≠ .curtailDown) : s.recover.notice k = s.notice k := by
  unfold State.recover
  split
  · exact s.notice_pop hk
  · rfl

end Sys2Proof.Machine
end

section
/-! ### The completion -/

namespace Sys2Proof.Machine

open Sys2Proof

/-- The slots swept when the observed level is above the effective one; none are otherwise (R143, R144). -/
def State.sweptAbove (s : State) (observed : Nat) (lead : List Nat) : List Nat :=
  if s.level < observed then s.sweptSlots observed lead else []

theorem State.level_congr {s t : State} (h : t.stack = s.stack) : t.level = s.level := by
  rw [State.level, h, State.level]

theorem State.takeSheds_above {s : State} {ms : List ShedMember} (h : s.level < observedLevel ms) :
    s.takeSheds ms = s.push (observedLevel ms) .auto (causeOf ms) (ms.map (·.slot)) := if_pos h

theorem State.takeSheds_within {s : State} {ms : List ShedMember} (h : ¬ s.level < observedLevel ms) :
    s.takeSheds ms = { (s.shedEach (ms.map (·.slot))).1 with
      stack := appendedTop s.stack (s.shedEach (ms.map (·.slot))).2 } :=
  (if_neg h).trans (foldl_shedToTop _ s)

theorem State.takeSheds_frame (s : State) (ms : List ShedMember) :
    s.takeSheds ms = { s with
      slots := (s.takeSheds ms).slots
      setpointQueue := (s.takeSheds ms).setpointQueue
      pass := (s.takeSheds ms).pass
      stack := (s.takeSheds ms).stack
      readmission := (s.takeSheds ms).readmission
      recoveryTimer := (s.takeSheds ms).recoveryTimer
      notices := (s.takeSheds ms).notices } := by
  by_cases h : s.level < observedLevel ms
  · rw [State.takeSheds_above h, State.push_frame]
  · rw [State.takeSheds_within h, shedEach_frame]

/-- The records shed by an outcome, in either case (R141 to R144). -/
theorem State.offtake_takeSheds (s : State) (ms : List ShedMember) (j : Nat) :
    (s.takeSheds ms).offtake j =
      if j ∈ (s.shedEach (ms.map (·.slot))).2 ++ s.sweptAbove (observedLevel ms) (s.shedEach (ms.map (·.slot))).2 then
        (s.offtake j).map Offtake.afterShed
      else s.offtake j := by
  unfold State.sweptAbove
  by_cases h : s.level < observedLevel ms
  · rw [State.takeSheds_above h, State.push_eq, if_pos h]
    exact s.offtake_shedAt _ _ j
  · rw [State.takeSheds_within h, if_neg h, List.append_nil]
    exact offtake_shedEach _ j s

theorem State.setpointQueue_takeSheds (s : State) (ms : List ShedMember) :
    (s.takeSheds ms).setpointQueue =
      ((s.shedEach (ms.map (·.slot))).2 ++ s.sweptAbove (observedLevel ms) (s.shedEach (ms.map (·.slot))).2).foldl
        (s.handed fun _ => 0) s.setpointQueue := by
  unfold State.sweptAbove
  by_cases h : s.level < observedLevel ms
  · rw [State.takeSheds_above h, State.push_eq, if_pos h]
    exact s.setpointQueue_shedAt _ _
  · rw [State.takeSheds_within h, if_neg h, List.append_nil]
    exact setpointQueue_shedEach _ s

/-! What the later parts read of the state is as before the grants were written. -/

theorem State.offtake_figuresWritten (s : State) (p : Pass) (j : Nat) :
    (s.figuresWritten p).offtake j =
      if ∃ e ∈ p.table, e.slot = j ∧ e.void = false then (s.offtake j).map (Offtake.takesGrant p.view.result j)
      else s.offtake j := by
  rw [State.offtake_of_slots (s.figuresWritten_slots p)]
  exact offtake_writeGrants p.view.result j p.table s

/-- A reading of a record that no grant changes is the same after the figures are written. -/
theorem State.map_offtake_figuresWritten {α : Type} (s : State) (p : Pass) (j : Nat) (f : Offtake → α)
    (hf : ∀ o, f (o.takesGrant p.view.result j) = f o) : ((s.figuresWritten p).offtake j).map f = (s.offtake j).map f := by
  rw [State.offtake_figuresWritten]
  split
  · rw [Option.map_map]
    congr 1
    funext o
    exact hf o
  · rfl

theorem Offtake.takesGrant_supply (r : PassResult) (i : Nat) (o : Offtake) : (o.takesGrant r i).supply = o.supply :=
  congrArg Prod.fst (o.takesGrant_service r i)

theorem Offtake.takesGrant_prio (r : PassResult) (i : Nat) (o : Offtake) : (o.takesGrant r i).prio = o.prio := by
  unfold Offtake.takesGrant
  split <;> rfl

theorem State.handed_figuresWritten (s : State) (p : Pass) : (s.figuresWritten p).handed = s.handed := by
  funext grant queue i
  exact State.handed_congr (s.map_offtake_figuresWritten p i _ (Offtake.takesGrant_service _ i)) grant queue

theorem State.prioOf_figuresWritten (s : State) (p : Pass) (i : Nat) : (s.figuresWritten p).prioOf i = s.prioOf i :=
  State.prioOf_congr (s.map_offtake_figuresWritten p i _ (Offtake.takesGrant_prio _ i))

theorem Option.any_eq_map {α : Type} (x : Option α) (f : α → Bool) : x.any f = (x.map f).getD false := by
  cases x <;> rfl

theorem State.isActive_figuresWritten (s : State) (p : Pass) (i : Nat) :
    (s.figuresWritten p).isActive i = s.isActive i := by
  unfold State.isActive
  rw [Option.any_eq_map, Option.any_eq_map,
    s.map_offtake_figuresWritten p i _ fun o => by rw [Offtake.takesGrant_supply]]

theorem State.sweptSlots_figuresWritten (s : State) (p : Pass) (level : Nat) (lead : List Nat) :
    (s.figuresWritten p).sweptSlots level lead = s.sweptSlots level lead := by
  refine List.filter_congr fun i _ => ?_
  rw [Option.any_eq_map, Option.any_eq_map,
    s.map_offtake_figuresWritten p i _ fun o => by rw [Offtake.takesGrant_supply, Offtake.takesGrant_prio]]

theorem State.stack_figuresWritten (s : State) (p : Pass) : (s.figuresWritten p).stack = s.stack := by
  rw [State.figuresWritten_frame]

/-- The part when the pass is completed. -/
def State.completed (s : State) (p : Pass) : State :=
  { (s.figuresWritten p).takeOutcome p.shedMembers p.view.interval with pass := none }

/-- The shed set's records that a completion sheds. -/
def State.completionLead (s : State) (p : Pass) : List Nat :=
  ((s.figuresWritten p).shedEach (p.shedMembers.map (·.slot))).2

/-- The records that the push of a completion sweeps. -/
def State.completionSwept (s : State) (p : Pass) : List Nat :=
  s.sweptAbove (observedLevel p.shedMembers) (s.completionLead p)

/-- The part with the sheds of the completion taken and the timer judged, before the top may be popped. -/
def State.judged (s : State) (p : Pass) : State :=
  ((s.figuresWritten p).takeSheds p.shedMembers).judgeTimer (observedLevel p.shedMembers) p.view.interval

theorem State.completed_eq (s : State) (p : Pass) : s.completed p = { (s.judged p).recover with pass := none } := rfl

theorem State.mem_completionLead (s : State) (p : Pass) (i : Nat) :
    i ∈ s.completionLead p ↔ i ∈ p.shedMembers.map (·.slot) ∧ s.isActive i = true := by
  rw [State.completionLead, mem_shedEach, State.isActive_figuresWritten]

theorem State.sweptAbove_figuresWritten (s : State) (p : Pass) (observed : Nat) (lead : List Nat) :
    (s.figuresWritten p).sweptAbove observed lead = s.sweptAbove observed lead := by
  unfold State.sweptAbove
  rw [State.level_congr (s.stack_figuresWritten p), State.sweptSlots_figuresWritten]

theorem State.judged_frame (s : State) (p : Pass) :
    s.judged p = { s.figuresWritten p with
      slots := (s.judged p).slots
      setpointQueue := (s.judged p).setpointQueue
      pass := (s.judged p).pass
      stack := (s.judged p).stack
      readmission := (s.judged p).readmission
      recoveryTimer := (s.judged p).recoveryTimer
      notices := (s.judged p).notices } := by
  unfold State.judged State.judgeTimer
  rw [State.takeSheds_frame]

/-- The fields a completion writes. -/
theorem State.completed_frame (s : State) (p : Pass) :
    s.completed p = { s with
      slots := (s.completed p).slots
      setpointQueue := (s.completed p).setpointQueue
      grades := .ofFn fun g => { s.grades.get g with last := p.view.result.grades.get g }
      balance := p.view.result.balance
      passSeq := (s.passSeq + 1) % 65536
      pass := none
      stack := (s.completed p).stack
      readmission := (s.completed p).readmission
      recoveryTimer := (s.completed p).recoveryTimer
      notices := (s.completed p).notices } := by
  rw [State.completed_eq, State.recover_frame, State.judged_frame, State.figuresWritten_frame]

theorem State.offtake_completed (s : State) (p : Pass) (j : Nat) :
    (s.completed p).offtake j =
      if j ∈ s.completionLead p ++ s.completionSwept p then ((s.figuresWritten p).offtake j).map Offtake.afterShed
      else (s.figuresWritten p).offtake j := by
  have hslots : (s.completed p).slots = ((s.figuresWritten p).takeSheds p.shedMembers).slots := by
    rw [State.completed_eq, State.recover_frame, State.judged, State.judgeTimer]
  rw [State.completionSwept, State.completionLead, State.offtake_of_slots hslots, State.offtake_takeSheds,
    State.sweptAbove_figuresWritten]

theorem State.setpointQueue_completed (s : State) (p : Pass) :
    (s.completed p).setpointQueue = (s.completionLead p ++ s.completionSwept p).foldl (s.handed fun _ => 0)
      (((p.table.filter fun e => !e.void).map (·.slot)).foldl (s.handed (grantIn p.view.result.shares))
        s.setpointQueue) := by
  have hqueue : (s.completed p).setpointQueue = ((s.figuresWritten p).takeSheds p.shedMembers).setpointQueue := by
    rw [State.completed_eq, State.recover_frame, State.judged, State.judgeTimer]
  have hwritten : (s.figuresWritten p).setpointQueue = (s.grantsWritten p).setpointQueue := by
    rw [State.figuresWritten_frame]
  rw [State.completionSwept, State.completionLead, hqueue, State.setpointQueue_takeSheds,
    State.sweptAbove_figuresWritten, State.handed_figuresWritten, hwritten, State.grantsWritten,
    setpointQueue_writeGrants]

/-- A completion raises at most the notices of a short pass and of a level that moves. -/
theorem State.notice_completed (s : State) (p : Pass) {k : NoticeKind} (hshort : k ≠ .exportShort) (hup : k ≠ .curtailUp)
    (hdown : k ≠ .curtailDown) : (s.completed p).notice k = s.notice k := by
  have hsheds : ((s.figuresWritten p).takeSheds p.shedMembers).notice k = (s.figuresWritten p).notice k := by
    by_cases h : (s.figuresWritten p).level < observedLevel p.shedMembers
    · rw [State.takeSheds_above h, State.push_eq, State.notice_raise, if_neg hup, State.shedAt]
      exact State.notice_of_notices (by rw [shedEach_frame, shedEach_frame]) k
    · rw [State.takeSheds_within h]
      exact State.notice_of_notices (by rw [shedEach_frame]) k
  calc (s.completed p).notice k = (s.judged p).recover.notice k :=
        State.notice_of_notices (by rw [State.completed_eq]) k
    _ = (s.judged p).notice k := (s.judged p).notice_recover hdown
    _ = ((s.figuresWritten p).takeSheds p.shedMembers).notice k :=
        State.notice_of_notices (by rw [State.judged, State.judgeTimer]) k
    _ = (s.figuresWritten p).notice k := hsheds
    _ = s.notice k := s.notice_figuresWritten p hshort

end Sys2Proof.Machine
end

section
namespace Sys2Proof.Machine

open Sys2Proof

/-! ### The lists, the timer and the notices of the level after a completion -/

theorem State.plant_judged (s : State) (p : Pass) : (s.judged p).plant = s.plant := by
  rw [State.judged_frame, State.figuresWritten_frame]

theorem level_appendedTop {s t : State} {slots : List Nat} (h : t.stack = appendedTop s.stack slots) :
    t.level = s.level := by
  rw [State.level, h, State.level]
  cases s.stack <;> rfl

/-- A completion that recovers nothing leaves the lists as they were judged. -/
theorem State.completed_of_stays {s : State} {p : Pass} (h : (s.judged p).recover = s.judged p) :
    (s.completed p).stack = (s.judged p).stack ∧ (s.completed p).readmission = (s.judged p).readmission
      ∧ (s.completed p).recoveryTimer = (s.judged p).recoveryTimer
      ∧ ∀ k, (s.completed p).notice k = (s.judged p).notice k := by
  rw [State.completed_eq, h]
  generalize s.judged p = u
  exact ⟨rfl, rfl, rfl, fun k => rfl⟩

/-- What a push writes of the lists, the timer and the notices (R142, R143). -/
theorem State.push_lists {s t : State} {level : Nat} {origin : Origin} {cause : Cause} {is : List Nat}
    (ht : t = s.push level origin cause is) :
    t.stack = ⟨level, origin, cause, (s.shedEach is).2 ++ s.sweptSlots level (s.shedEach is).2
        ++ s.readmission.filter fun i => !admits level (s.prioOf i)⟩ :: s.stack
    ∧ t.readmission = (s.readmission.filter fun i => admits level (s.prioOf i))
    ∧ t.recoveryTimer = 0
    ∧ t.notice .curtailUp = (s.notice .curtailUp).raise level
    ∧ t.notice .curtailDown = s.notice .curtailDown := by
  have hnotice : ∀ k, (s.shedAt level is).notice k = s.notice k :=
    State.notice_of_notices (by rw [State.shedAt, shedEach_frame, shedEach_frame])
  rw [ht, State.push_eq]
  generalize s.shedAt level is = u at hnotice
  refine ⟨rfl, rfl, rfl, ?_, ?_⟩
  · rw [State.notice_raise, if_pos rfl]
    exact congrArg _ (hnotice .curtailUp)
  · rw [State.notice_raise, if_neg (by decide)]
    exact hnotice .curtailDown

theorem State.level_cons {s : State} {c : Context} {below : List Context} (h : s.stack = c :: below) :
    s.level = c.level := by
  rw [State.level, h]

/-- What judging the timer writes (R145). -/
theorem State.judgeTimer_lists {s t : State} {level interval : Nat} (ht : t = s.judgeTimer level interval) :
    t.stack = s.stack ∧ t.readmission = s.readmission ∧ t.notices = s.notices
      ∧ t.recoveryTimer = if level < s.level then min (s.recoveryTimer + interval) s.plant.recoveryHold else 0 := by
  subst ht
  exact ⟨rfl, rfl, rfl, rfl⟩

/-- The timer judged after a push at its level is 0 (R145). -/
theorem State.judgeTimer_pushed {s t : State} {level interval : Nat} {origin : Origin} {cause : Cause}
    {slots : List Nat} {below : List Context} (ht : t = s.judgeTimer level interval)
    (hs : s.stack = ⟨level, origin, cause, slots⟩ :: below) : t.recoveryTimer = 0 := by
  obtain ⟨_, _, _, htimer⟩ := State.judgeTimer_lists ht
  rw [htimer, State.level_cons hs, if_neg (Nat.lt_irrefl level)]

theorem State.judged_eq (s : State) (p : Pass) :
    s.judged p =
      ((s.figuresWritten p).takeSheds p.shedMembers).judgeTimer (observedLevel p.shedMembers) p.view.interval := by
  rw [State.judged]

theorem State.completionSwept_above {s : State} {p : Pass} (h : s.level < observedLevel p.shedMembers) :
    s.completionSwept p = s.sweptSlots (observedLevel p.shedMembers) (s.completionLead p) := by
  rw [State.completionSwept, State.sweptAbove, if_pos h]

theorem State.completionSwept_within {s : State} {p : Pass} (h : observedLevel p.shedMembers ≤ s.level) :
    s.completionSwept p = [] := by
  rw [State.completionSwept, State.sweptAbove, if_neg (Nat.not_lt.mpr h)]

/-- The observed level above the effective one (R143). -/
theorem State.judged_above {s : State} {p : Pass} (h : s.level < observedLevel p.shedMembers) :
    (s.judged p).stack = ⟨observedLevel p.shedMembers, .auto, causeOf p.shedMembers,
        s.completionLead p ++ s.completionSwept p
          ++ s.readmission.filter fun i => !admits (observedLevel p.shedMembers) (s.prioOf i)⟩ :: s.stack
    ∧ (s.judged p).readmission = (s.readmission.filter fun i => admits (observedLevel p.shedMembers) (s.prioOf i))
    ∧ (s.judged p).recoveryTimer = 0
    ∧ (s.judged p).notice .curtailUp = (s.notice .curtailUp).raise (observedLevel p.shedMembers)
    ∧ (s.judged p).notice .curtailDown = s.notice .curtailDown := by
  have hqueue : (s.figuresWritten p).readmission = s.readmission := by rw [State.figuresWritten_frame]
  have hprio : (s.figuresWritten p).prioOf = s.prioOf := funext (s.prioOf_figuresWritten p)
  have habove : (s.figuresWritten p).level < observedLevel p.shedMembers := by
    rwa [State.level_congr (s.stack_figuresWritten p)]
  obtain ⟨hstack, hreadmission, _, hup, hdown⟩ := State.push_lists (State.takeSheds_above habove)
  rw [← State.completionLead, State.sweptSlots_figuresWritten, ← State.completionSwept_above h, hqueue, hprio,
    s.stack_figuresWritten p] at hstack
  rw [hqueue, hprio] at hreadmission
  rw [s.notice_figuresWritten p (by decide)] at hup hdown
  obtain ⟨hstack', hqueue', hnotices, _⟩ := State.judgeTimer_lists (State.judged_eq s p)
  exact ⟨hstack'.trans hstack, hqueue'.trans hreadmission, State.judgeTimer_pushed (State.judged_eq s p) hstack,
    (State.notice_of_notices hnotices _).trans hup, (State.notice_of_notices hnotices _).trans hdown⟩

/-- What the sheds into the top context's list write of the lists, the timer and the notices (R144). -/
theorem State.takeSheds_within_lists {s : State} {ms : List ShedMember} (h : ¬ s.level < observedLevel ms) :
    (s.takeSheds ms).stack = appendedTop s.stack (s.shedEach (ms.map (·.slot))).2
      ∧ (s.takeSheds ms).readmission = s.readmission ∧ (s.takeSheds ms).recoveryTimer = s.recoveryTimer
      ∧ (s.takeSheds ms).plant = s.plant ∧ (s.takeSheds ms).notices = s.notices := by
  rw [State.takeSheds_within h, shedEach_frame]
  generalize (s.shedEach (ms.map (·.slot))).1 = u
  exact ⟨rfl, rfl, rfl, rfl, rfl⟩

/-- The observed level within the effective one (R144, R145). -/
theorem State.judged_within {s : State} {p : Pass} (h : observedLevel p.shedMembers ≤ s.level) :
    (s.judged p).stack = appendedTop s.stack (s.completionLead p)
    ∧ (s.judged p).readmission = s.readmission
    ∧ (s.judged p).recoveryTimer = (if observedLevel p.shedMembers < s.level then
        min (s.recoveryTimer + p.view.interval) s.plant.recoveryHold else 0)
    ∧ ∀ k, k ≠ .exportShort → (s.judged p).notice k = s.notice k := by
  have hfigures : (s.figuresWritten p).readmission = s.readmission
      ∧ (s.figuresWritten p).recoveryTimer = s.recoveryTimer ∧ (s.figuresWritten p).plant = s.plant := by
    rw [State.figuresWritten_frame]
    exact ⟨rfl, rfl, rfl⟩
  obtain ⟨hqueue, htimer, hplant⟩ := hfigures
  have hnot : ¬ (s.figuresWritten p).level < observedLevel p.shedMembers := by
    rw [State.level_congr (s.stack_figuresWritten p)]
    omega
  obtain ⟨htop, hreadmission, hrecovery, hhold, hraised⟩ := State.takeSheds_within_lists hnot
  rw [s.stack_figuresWritten p, ← State.completionLead] at htop
  obtain ⟨hstack', hqueue', hnotices, htimer'⟩ := State.judgeTimer_lists (State.judged_eq s p)
  rw [level_appendedTop htop, hrecovery, htimer, hhold, hplant] at htimer'
  refine ⟨hstack'.trans htop, hqueue'.trans (hreadmission.trans hqueue), htimer', fun k hk => ?_⟩
  rw [State.notice_of_notices (hnotices.trans hraised), s.notice_figuresWritten p hk]

theorem State.completed_above {s : State} {p : Pass} (h : s.level < observedLevel p.shedMembers)
    (hhold : 0 < s.plant.recoveryHold) :
    (s.completed p).stack = ⟨observedLevel p.shedMembers, .auto, causeOf p.shedMembers,
        s.completionLead p ++ s.completionSwept p
          ++ s.readmission.filter fun i => !admits (observedLevel p.shedMembers) (s.prioOf i)⟩ :: s.stack
    ∧ (s.completed p).readmission = (s.readmission.filter fun i => admits (observedLevel p.shedMembers) (s.prioOf i))
    ∧ (s.completed p).recoveryTimer = 0
    ∧ (s.completed p).notice .curtailUp = (s.notice .curtailUp).raise (observedLevel p.shedMembers)
    ∧ (s.completed p).notice .curtailDown = s.notice .curtailDown := by
  obtain ⟨hstack, hqueue, htimer, hup, hdown⟩ := State.judged_above h
  have hstays := State.recover_stays hstack (.inr (by rw [htimer, s.plant_judged p]; omega))
  obtain ⟨hstack', hqueue', htimer', hnotice⟩ := State.completed_of_stays hstays
  rw [hstack', hqueue', htimer', hnotice, hnotice]
  exact ⟨hstack, hqueue, htimer, hup, hdown⟩

theorem State.completed_within_empty {s : State} {p : Pass} (h : observedLevel p.shedMembers ≤ s.level)
    (hempty : s.stack = []) :
    (s.completed p).stack = [] ∧ (s.completed p).readmission = s.readmission ∧ (s.completed p).recoveryTimer = 0
      ∧ (s.completed p).notice .curtailDown = s.notice .curtailDown := by
  obtain ⟨hstack, hqueue, htimer, hnotices⟩ := State.judged_within h
  have hnone : (s.judged p).stack = [] := by rw [hstack, hempty]; rfl
  have hlevel : ¬ observedLevel p.shedMembers < s.level := by simp [State.level, hempty]
  obtain ⟨hstack', hqueue', htimer', hnotice⟩ := State.completed_of_stays (State.recover_nil hnone)
  rw [hstack', hqueue', htimer', hnotice]
  exact ⟨hnone, hqueue, htimer.trans (if_neg hlevel), hnotices .curtailDown (by decide)⟩

/-- The timer at its hold pops an AUTO top (R146). -/
theorem State.completed_within_pops {s : State} {p : Pass} {c : Context} {below : List Context}
    (h : observedLevel p.shedMembers ≤ s.level) (hs : s.stack = c :: below) (hauto : c.origin = .auto)
    (hhold : (if observedLevel p.shedMembers < s.level then
      min (s.recoveryTimer + p.view.interval) s.plant.recoveryHold else 0) = s.plant.recoveryHold) :
    let u : State := { s with stack := { c with shedList := c.shedList ++ s.completionLead p } :: below }
    (s.completed p).stack = u.pop.stack ∧ (s.completed p).readmission = u.pop.readmission
      ∧ (s.completed p).recoveryTimer = 0 ∧ (s.completed p).notice .curtailDown = u.pop.notice .curtailDown := by
  intro u
  obtain ⟨hstack, hqueue, htimer, hnotices⟩ := State.judged_within h
  have htop : (s.judged p).stack = u.stack := by rw [hstack, hs]; rfl
  have hrecover : (s.judged p).recover = (s.judged p).pop :=
    State.recover_pops htop hauto (by rw [htimer, s.plant_judged p, hhold])
  have hprio : ∀ i, (s.judged p).prioOf i = u.prioOf i := by
    intro i
    refine (State.prioOf_congr ?_).trans (s.prioOf_figuresWritten p i)
    have hslots : (s.judged p).slots = ((s.figuresWritten p).takeSheds p.shedMembers).slots := by
      rw [State.judged, State.judgeTimer]
    rw [State.offtake_of_slots hslots, State.offtake_takeSheds]
    split
    · rw [Option.map_map]; rfl
    · rfl
  obtain ⟨hpopstack, hpopqueue, hpopnotice⟩ :=
    State.pop_congr htop hqueue hprio (k := .curtailDown) (hnotices .curtailDown (by decide))
  have hpoptimer := State.pop_recoveryTimer (htop.trans rfl)
  rw [State.completed_eq, hrecover]
  generalize (s.judged p).pop = v at hpopstack hpopqueue hpopnotice hpoptimer
  exact ⟨hpopstack, hpopqueue, hpoptimer, hpopnotice⟩

theorem State.completed_within_stays {s : State} {p : Pass} {c : Context} {below : List Context}
    (h : observedLevel p.shedMembers ≤ s.level) (hs : s.stack = c :: below)
    (hno : c.origin = .manual ∨ (if observedLevel p.shedMembers < s.level then
      min (s.recoveryTimer + p.view.interval) s.plant.recoveryHold else 0) ≠ s.plant.recoveryHold) :
    (s.completed p).stack = { c with shedList := c.shedList ++ s.completionLead p } :: below
      ∧ (s.completed p).readmission = s.readmission
      ∧ (s.completed p).recoveryTimer = (if observedLevel p.shedMembers < s.level then
          min (s.recoveryTimer + p.view.interval) s.plant.recoveryHold else 0)
      ∧ (s.completed p).notice .curtailDown = s.notice .curtailDown := by
  obtain ⟨hstack, hqueue, htimer, hnotices⟩ := State.judged_within h
  have htop : (s.judged p).stack = { c with shedList := c.shedList ++ s.completionLead p } :: below := by
    rw [hstack, hs]; rfl
  have hstays := State.recover_stays htop (by rw [htimer, s.plant_judged p]; exact hno)
  obtain ⟨hstack', hqueue', htimer', hnotice⟩ := State.completed_of_stays hstays
  rw [hstack', hqueue', htimer', hnotice]
  exact ⟨htop, hqueue, htimer, hnotices .curtailDown (by decide)⟩

/-- The notice of a push is raised by no completion within the effective level. -/
theorem State.notice_up_within {s : State} {p : Pass} (h : observedLevel p.shedMembers ≤ s.level) :
    (s.completed p).notice .curtailUp = s.notice .curtailUp := by
  obtain ⟨_, _, _, hnotices⟩ := State.judged_within h
  calc (s.completed p).notice .curtailUp = (s.judged p).recover.notice .curtailUp :=
        State.notice_of_notices (by rw [State.completed_eq]) _
    _ = (s.judged p).notice .curtailUp := (s.judged p).notice_recover (by decide)
    _ = s.notice .curtailUp := hnotices .curtailUp (by decide)

/-! ### One record over a completion -/

/-- The record as the result table leaves it: an ACTIVE record with an entry that is not void takes its grant (R118). -/
def Offtake.resulted (p : Pass) (i : Nat) (o : Offtake) : Offtake :=
  if ∃ e ∈ p.table, e.slot = i ∧ e.void = false then o.takesGrant p.view.result i else o

theorem Offtake.resulted_of_not_active {p : Pass} {i : Nat} {o : Offtake} (h : o.supply ≠ .active) :
    o.resulted p i = o := by
  rw [Offtake.resulted, Offtake.takesGrant, if_neg h, ite_self]

theorem Offtake.resulted_of_written {p : Pass} {i : Nat} {o : Offtake} (h : o.supply = .active)
    (hwritten : ∃ e ∈ p.table, e.slot = i ∧ e.void = false) : o.resulted p i = o.granted p.view.result i := by
  rw [Offtake.resulted, if_pos hwritten, Offtake.takesGrant, if_pos h]

theorem Offtake.resulted_of_not_written {p : Pass} {i : Nat} {o : Offtake}
    (hwritten : ¬ ∃ e ∈ p.table, e.slot = i ∧ e.void = false) : o.resulted p i = o := by
  rw [Offtake.resulted, if_neg hwritten]

theorem Offtake.granted_frame (r : PassResult) (i : Nat) (o : Offtake) :
    o.granted r i = { o with grant := (o.granted r i).grant, split := (o.granted r i).split } := rfl

theorem Offtake.granted_values {r : PassResult} {i : Nat} {o t : Offtake} (ht : t = o.granted r i) :
    t.grant = grantIn r.shares i ∧ t.split = if o.mode = some .blend then some (r.splitOf i) else o.split := by
  rw [ht]
  exact ⟨rfl, rfl⟩

/-- The result table writes a grant and a split alone. -/
theorem Offtake.resulted_frame (p : Pass) (i : Nat) (o : Offtake) :
    o.resulted p i = { o with grant := (o.resulted p i).grant, split := (o.resulted p i).split } := by
  by_cases hactive : o.supply = .active
  · by_cases hwritten : ∃ e ∈ p.table, e.slot = i ∧ e.void = false
    · rw [Offtake.resulted_of_written hactive hwritten]
      exact Offtake.granted_frame _ i o
    · rw [Offtake.resulted_of_not_written hwritten]
  · rw [Offtake.resulted_of_not_active hactive]

theorem Offtake.supply_resulted (p : Pass) (i : Nat) (o : Offtake) : (o.resulted p i).supply = o.supply := by
  rw [Offtake.resulted_frame]

/-- A shed zeroes what the result table wrote. -/
theorem Offtake.afterShed_resulted (p : Pass) (i : Nat) (o : Offtake) :
    (o.resulted p i).afterShed = { o with supply := .shed, grant := 0, split := (o.resulted p i).afterShed.split } := by
  rw [Offtake.resulted_frame]
  rfl

theorem Offtake.split_afterShed {o : Offtake} {sp : Split} (h : o.afterShed.split = some sp) : sp = ⟨0, 0, 0⟩ := by
  obtain ⟨_, _, rfl⟩ := Option.map_eq_some_iff.mp h
  rfl

/-- What a completion leaves of a record that stands (R118, R141). -/
theorem State.record_completed {s : State} {p : Pass} {i : Nat} {o : Offtake} (ho : s.offtake i = some o) :
    (s.completed p).offtake i = some
      (if i ∈ s.completionLead p ++ s.completionSwept p then (o.resulted p i).afterShed else o.resulted p i) := by
  rw [State.offtake_completed, State.offtake_figuresWritten, ho, Offtake.resulted]
  split <;> split <;> rfl

/-- A completion sheds ACTIVE records alone. -/
theorem State.active_of_completion {s : State} {p : Pass} {i : Nat} {o : Offtake} (ho : s.offtake i = some o)
    (h : i ∈ s.completionLead p ++ s.completionSwept p) : o.supply = .active := by
  rcases List.mem_append.mp h with hlead | hswept
  · obtain ⟨x, hx, hactive⟩ := State.isActive_iff.mp ((s.mem_completionLead p i).mp hlead).2
    cases ho.symm.trans hx
    exact hactive
  · unfold State.completionSwept State.sweptAbove at hswept
    split at hswept
    · have hswept := (List.mem_filter.mp hswept).2
      simp only [ho, Option.any_some, Bool.and_eq_true, decide_eq_true_eq] at hswept
      exact hswept.2.1
    · cases hswept

/-- Every record over a completion: shed, granted, or as it was. -/
theorem State.record_over_completion {s : State} {p : Pass} {i : Nat} {o : Offtake} (ho : s.offtake i = some o) :
    ∃ o', (s.completed p).offtake i = some o'
      ∧ o' = { o with supply := o'.supply, grant := o'.grant, split := o'.split }
      ∧ (o.supply ≠ .active → o' = o)
      ∧ (o.supply = .active → i ∈ s.completionLead p ∨ i ∈ s.completionSwept p →
        o'.supply = .shed ∧ o'.grant = 0 ∧ ∀ sp, o'.split = some sp → sp = ⟨0, 0, 0⟩)
      ∧ (o.supply = .active → i ∉ s.completionLead p → i ∉ s.completionSwept p →
        o'.supply = .active
        ∧ ((∃ e ∈ p.table, e.slot = i ∧ e.void = false) → o'.grant = grantIn p.view.result.shares i
          ∧ o'.split = if o.mode = some .blend then some (p.view.result.splitOf i) else o.split)
        ∧ ((¬ ∃ e ∈ p.table, e.slot = i ∧ e.void = false) → o' = o)) := by
  have hrecord := State.record_completed (p := p) ho
  by_cases hshed : i ∈ s.completionLead p ++ s.completionSwept p
  · rw [if_pos hshed] at hrecord
    have hactive := State.active_of_completion ho hshed
    refine ⟨_, hrecord, ?_, fun h => absurd hactive h, fun _ _ => ?_, fun _ hlead hswept => ?_⟩
    · rw [Offtake.afterShed_resulted]
    · rw [Offtake.afterShed_resulted]
      exact ⟨rfl, rfl, fun _ => Offtake.split_afterShed⟩
    · exact ((List.mem_append.mp hshed).elim hlead hswept).elim
  · rw [if_neg hshed] at hrecord
    refine ⟨_, hrecord, ?_, Offtake.resulted_of_not_active, fun _ h => absurd (List.mem_append.mpr h) hshed,
      fun hactive _ _ => ⟨?_, fun hwritten => ?_, Offtake.resulted_of_not_written⟩⟩
    · rw [Offtake.resulted_frame]
    · rw [Offtake.supply_resulted, hactive]
    · exact Offtake.granted_values (Offtake.resulted_of_written hactive hwritten)

theorem execPassCompletion_eq {s : State} {p : Pass} (hrun : s.inReset = false) (hpass : s.pass = some p) :
    exec .passCompletion s = .next (s.completed p) := by
  rw [exec_event rfl, runEvent_running hrun, State.completePass_some hpass, State.completed]

/-- Settles O30: the completion is `s.completed ps`, described part by part by the lemmas above. -/
theorem passCompletionCompletes : Obligations.PassCompletionCompletes := by
  intro s ps hrun hpass r members observed timer
  have hr : r = ps.view.result := rfl
  have hmembers : members = ps.shedMembers := rfl
  have hobserved : observed = observedLevel ps.shedMembers := rfl
  have htimer : timer = if observed < s.level then min (s.recoveryTimer + ps.view.interval) s.plant.recoveryHold else 0 :=
    rfl
  clear_value timer observed members r
  rw [htimer, hobserved, hmembers, hr]
  refine ⟨s.completed ps, s.completionLead ps, s.completionSwept ps, execPassCompletion_eq hrun hpass, ?_, ?_, ?_,
    ⟨shedEach_sublist _ _, shedEach_nodup _ _, s.mem_completionLead ps⟩, State.completionSwept_above,
    State.completionSwept_within, s.setpointQueue_completed ps, ?_, ?_, State.completed_above, ?_, ?_⟩
  · rw [State.completed_frame]
  · rw [State.completed_frame]
  · intro g
    rw [State.completed_frame]
    cases g <;> rfl
  · intro i hnone
    rw [State.offtake_completed, State.offtake_figuresWritten, hnone]
    simp
  · exact fun i o ho => State.record_over_completion ho
  · intro hwithin
    refine ⟨State.notice_up_within hwithin, State.completed_within_empty hwithin, fun c below hs => ⟨?_, ?_⟩⟩
    · exact State.completed_within_pops hwithin hs
    · exact State.completed_within_stays hwithin hs
  · exact fun k => s.notice_completed ps

end Sys2Proof.Machine
end

section
/-! ## Leaving the link and entering QUIET (R29, R30) -/

namespace Sys2Proof.Machine

open Sys2Proof

/-- An event command in the running part. -/
theorem exec_running {c : Instr} {f : State → State} {s : State} (hf : eventOf c = some f) (hr : s.inReset = false) :
    exec c s = .next (f s) := (exec_event hf s).trans (runEvent_running hr)

/-- R29 without the freeing of a retiring record: the record is out of supply, nothing is acknowledged, its entry is
gone and its exchange abandoned. -/
def State.lapsed (s : State) (i : Nat) : State :=
  (((if s.isActive i then s.withdraw i .held else s).modOfftake i fun o =>
    { o with ackGrant := 0, legacy := if o.link = .legacyBound then false else o.legacy }).dropEntry i).abandon i

/-- Leaving the link is lapsing, and for a retiring record its freeing (R21, R29). -/
theorem State.leaveLinked_eq {s : State} {i : Nat} {o : Offtake} (ho : s.offtake i = some o) :
    s.leaveLinked i = if o.retiring then (s.lapsed i).free i else s.lapsed i := by
  have hactive : s.isActive i = decide (o.supply = .active) := by simp [State.isActive, ho]
  unfold State.leaveLinked State.lapsed
  simp only [ho, hactive, decide_eq_true_eq]

theorem State.lapsed_setpointQueue (s : State) (i : Nat) :
    (s.lapsed i).setpointQueue = s.setpointQueue.filter (·.slot ≠ i) := by
  simp only [State.lapsed, State.abandon_setpointQueue, State.dropEntry, State.modOfftake_setpointQueue]
  split
  · next hactive =>
    obtain ⟨o, ho, _⟩ := State.isActive_iff.mp hactive
    rw [State.withdraw_setpointQueue ho]
    split
    · exact queueAfterGrant_other i 0 o.ackGrant s.setpointQueue
    · rfl
  · rfl

theorem State.withdraw_exchange (s : State) (i : Nat) (st : Supply) : (s.withdraw i st).exchange = s.exchange := by
  rw [State.withdraw_frame]

theorem State.withdraw_accounts (s : State) (i : Nat) (st : Supply) : (s.withdraw i st).accounts = s.accounts := by
  rw [State.withdraw_frame]

theorem State.lapsed_exchange (s : State) (i : Nat) :
    (s.lapsed i).exchange = s.exchange.map (Exchange.abandonedFor i) := by
  rw [State.lapsed, State.abandon_exchange, State.dropEntry_exchange, State.modOfftake_exchange]
  split
  · rw [State.withdraw_exchange]
  · rfl

theorem State.lapsed_accounts (s : State) (i : Nat) : (s.lapsed i).accounts = s.accounts := by
  rw [State.lapsed, State.abandon_accounts, State.dropEntry_accounts, State.modOfftake_accounts]
  split
  · exact s.withdraw_accounts i .held
  · rfl

/-- What lapsing leaves of the record (R29). -/
theorem State.offtake_lapsed {s : State} {i : Nat} {o : Offtake} (ho : s.offtake i = some o) :
    (s.lapsed i).offtake i = some { o with
      ackGrant := 0
      legacy := if o.link = .legacyBound then false else o.legacy
      supply := if o.supply = .active then .held else o.supply
      grant := if o.supply = .active then 0 else o.grant
      split := if o.supply = .active then o.split.map fun _ => ⟨0, 0, 0⟩ else o.split } := by
  have hactive : s.isActive i = decide (o.supply = .active) := by simp [State.isActive, ho]
  unfold State.lapsed
  by_cases hs : o.supply = .active <;>
    simp [hactive, hs, State.offtake_modOfftake, State.withdraw_self ho, ho, Offtake.zeroGrant]

/-- An exchange abandoned for a slot is none that the slot waits for. -/
theorem State.exchanging_of_abandoned {s t : State} {i : Nat}
    (h : t.exchange = s.exchange.map (Exchange.abandonedFor i)) (j : Nat) :
    t.exchanging j ↔ j ≠ i ∧ s.exchanging j := by
  unfold State.exchanging
  rw [h]
  rcases s.exchange with _ | ⟨slot, addr, freed⟩ | ⟨slot, addr, sent, abandoned⟩
  · simp
  · simp [Exchange.abandonedFor]
  · simp only [Option.map_some, Exchange.abandonedFor, Option.some.injEq, Exchange.setpoint.injEq, Bool.or_eq_false_iff,
      decide_eq_false_iff_not]
    constructor
    · rintro ⟨_, _, rfl, rfl, rfl, rfl, hne⟩
      exact ⟨hne, _, _, rfl, rfl, rfl, rfl⟩
    · rintro ⟨hne, _, _, rfl, rfl, rfl, rfl⟩
      exact ⟨_, _, rfl, rfl, rfl, rfl, hne⟩

theorem State.exchanging_of_exchange {s t : State} (h : t.exchange = s.exchange) (j : Nat) :
    t.exchanging j ↔ s.exchanging j := by rw [State.exchanging, h, State.exchanging]

/-- Freeing a slot abandons the exchange of its record, and no other (R27, R29). -/
theorem State.exchanging_free {s : State} {i : Nat} {o : Offtake} (ho : s.offtake i = some o) (j : Nat) :
    (s.free i).exchanging j ↔ j ≠ i ∧ s.exchanging j := by
  have hdropped : ∀ x : Option Exchange, ∀ addr sent,
      x.map (Exchange.droppedFor i) = some (.setpoint j addr sent false) ↔ x = some (.setpoint j addr sent false) := by
    rintro (_ | _ | _) addr sent <;> simp [Exchange.droppedFor]
  rw [← State.exchanging_of_abandoned (State.abandon_exchange s i), State.exchanging, State.exchanging,
    State.free_exchange ho, State.abandon_exchange]
  simp only [hdropped]

theorem State.leaveLinked_setpointQueue {s : State} {i : Nat} {o : Offtake} (ho : s.offtake i = some o) :
    (s.leaveLinked i).setpointQueue = s.setpointQueue.filter (·.slot ≠ i) := by
  rw [State.leaveLinked_eq ho]
  split
  · rw [State.free_setpointQueue (State.offtake_lapsed ho), State.lapsed_setpointQueue, List.filter_filter]
    simp
  · exact s.lapsed_setpointQueue i

theorem State.exchanging_leaveLinked {s : State} {i : Nat} {o : Offtake} (ho : s.offtake i = some o) (j : Nat) :
    (s.leaveLinked i).exchanging j ↔ j ≠ i ∧ s.exchanging j := by
  have hlapsed := State.exchanging_of_abandoned (s.lapsed_exchange i) j
  rw [State.leaveLinked_eq ho]
  split
  · rw [State.exchanging_free (State.offtake_lapsed ho), hlapsed]
    simp
  · exact hlapsed

/-- The accounts lose a naming when a retiring record leaves the link, and are as before otherwise (R21). -/
theorem State.leaveLinked_accounts {s : State} {i : Nat} {o : Offtake} (ho : s.offtake i = some o) :
    (s.leaveLinked i).accounts = if o.retiring then (s.unbindCount o.account).accounts else s.accounts := by
  rw [State.leaveLinked_eq ho]
  split
  · rw [State.free_accounts (State.offtake_lapsed ho)]
    exact State.unbindCount_congr (s.lapsed_accounts i) _
  · exact s.lapsed_accounts i

/-! ### Entering QUIET -/

theorem State.enterQuiet_linked {s : State} {i : Nat} {o : Offtake} (ho : s.offtake i = some o) (hl : o.linked = true) :
    s.enterQuiet i = (s.leaveLinked i).modOfftake i Offtake.quieted := by
  rw [State.enterQuiet, State.unlink_linked ho hl]

theorem State.enterQuiet_unlinked {s : State} {i : Nat} {o : Offtake} (ho : s.offtake i = some o) (hl : o.linked = false) :
    s.enterQuiet i = s.putOfftake i (some o.quieted) := by
  rw [State.enterQuiet, State.unlink_unlinked ho hl, State.modOfftake_eq ho]

/-- The record in QUIET, with R29 first if it was linked (R30). -/
def Offtake.quietedFrom (o : Offtake) : Offtake :=
  { o.quieted with
    supply := if o.linked = true ∧ o.supply = .active then .held else o.supply
    grant := if o.linked = true ∧ o.supply = .active then 0 else o.grant
    ackGrant := if o.linked = true then 0 else o.ackGrant }

/-- Entering QUIET empties the slot of a retiring record that was linked; any other record stays, in QUIET. -/
theorem State.offtake_enterQuiet {s : State} {i : Nat} {o : Offtake} (ho : s.offtake i = some o) :
    (s.enterQuiet i).offtake i = if o.linked = true ∧ o.retiring = true then none else some o.quietedFrom := by
  cases hl : o.linked with
  | true =>
    rw [State.enterQuiet_linked ho hl, State.offtake_modOfftake, if_pos rfl]
    cases hr : o.retiring with
    | true => simp [State.leaveLinked_retiring ho hr]
    | false =>
      rw [State.leaveLinked_self ho hr]
      simp [Offtake.quietedFrom, Offtake.quieted, Offtake.withMode, hl, hr]
  | false =>
    rw [State.enterQuiet_unlinked ho hl, State.offtake_putOfftake, if_pos ⟨rfl, State.offtake_lt ho⟩]
    simp [Offtake.quietedFrom, Offtake.quieted, Offtake.withMode, hl]

theorem State.enterQuiet_accounts {s : State} {i : Nat} {o : Offtake} (ho : s.offtake i = some o) :
    (s.enterQuiet i).accounts =
      if o.linked = true ∧ o.retiring = true then (s.unbindCount o.account).accounts else s.accounts := by
  cases hl : o.linked with
  | true => simp [State.enterQuiet_linked ho hl, State.leaveLinked_accounts ho]
  | false => simp [State.enterQuiet_unlinked ho hl]

/-- Settles O17: a linked record leaves the link (`leaveLinked`) and an unlinked one does not, and then the record goes
to QUIET. -/
theorem enteringQuietLeavesService : Obligations.EnteringQuietLeavesService := by
  intro s i o ho t
  refine ⟨fun j hj => State.offtake_enterQuiet_ne s hj.symm, s.enterQuiet_frame i, fun hl hr => ?_, fun hstays => ?_,
    fun hl => ?_, fun hl => ?_⟩
  · have hfreed : o.linked = true ∧ o.retiring = true := ⟨hl, hr⟩
    exact ⟨(State.offtake_enterQuiet ho).trans (if_pos hfreed), (State.enterQuiet_accounts ho).trans (if_pos hfreed)⟩
  · exact ⟨(State.enterQuiet_accounts ho).trans (if_neg hstays), (State.offtake_enterQuiet ho).trans (if_neg hstays)⟩
  · have hexchange : t.exchange = (s.leaveLinked i).exchange := by simp [t, State.enterQuiet_linked ho hl]
    constructor
    · simp only [t, State.enterQuiet_linked ho hl, State.modOfftake_setpointQueue, State.leaveLinked_setpointQueue ho]
    · rw [State.exchanging_of_exchange hexchange, State.exchanging_leaveLinked ho]
      exact fun h => h.1 rfl
  · have hput : t = s.putOfftake i (some o.quieted) := State.enterQuiet_unlinked ho hl
    rw [hput]
    exact ⟨rfl, rfl, rfl⟩

/-- Settles O18: past their checks the two requests leave the record on its way into QUIET. -/
theorem renegotiateAndReleaseComplete : Obligations.RenegotiateAndReleaseComplete := by
  intro p i tag s q o hright ho htag hlive
  subst htag
  constructor
  · intro htakes
    refine exec_reply htakes (a := (s.enterQuiet i).accept) ?_
    simp [replyOf, reqRenegotiate, hright, State.findRecord_eq ho, hlive]
  · intro htakes hlocked
    rw [← State.modOfftake_eq ho fun o => { o with overdrawCount := 0, supply := .held }]
    refine exec_reply htakes
      (a := ((s.modOfftake i fun o => { o with overdrawCount := 0, supply := .held }).enterQuiet i).accept) ?_
    simp [replyOf, reqRelease, hright, State.findRecord_eq ho, hlive, hlocked]

/-! ### The timers of the link (R31, R36, R38) -/

/-- Settles O41: the two expiries, by the link state they find. -/
theorem linkTimersComplete : Obligations.LinkTimersComplete := by
  intro s i o hr ho
  have hquiet : exec (.quietHoldExpiry i) s = .next (s.quietExpiry i) :=
    exec_running (f := (·.quietExpiry i)) rfl hr
  have hsilence : exec (.silenceExpiry i) s = .next (s.silenceExpiry i) :=
    exec_running (f := (·.silenceExpiry i)) rfl hr
  rw [hquiet, hsilence, State.quietExpiry, State.silenceExpiry, ho]
  dsimp only
  refine ⟨fun h => ?_, fun h => ?_, fun h => ?_, fun h => ?_, fun h => ?_⟩
  · rw [if_pos h, State.modOfftake_eq ho]
  · rw [if_neg h]
  · rw [State.modOfftake_eq ho, h]
  · rcases h with h | h | h <;> rw [h] <;> rfl
  · rw [h]

/-! ### Joining supply (R41) -/

theorem State.admits_empty {s : State} (h : s.stack = []) (prio : Nat) : admits s.level prio = true := by
  rw [State.level, h]
  rfl

theorem State.joinSupply_admitted {s : State} {i : Nat} {o : Offtake} (ho : s.offtake i = some o)
    (hheld : o.supply = .held) (hadmitted : admits s.level o.prio = true) :
    s.joinSupply i = s.putOfftake i (some { o with supply := .active }) := by
  simp [State.joinSupply, ho, hheld, hadmitted, State.modOfftake_eq ho]

theorem State.joinSupply_heldOut {s : State} {i : Nat} {o : Offtake} (ho : s.offtake i = some o)
    (hheld : o.supply = .held) (hout : admits s.level o.prio = false) :
    s.joinSupply i = (s.putOfftake i (some { o with supply := .shed })).appendTop i := by
  simp [State.joinSupply, ho, hheld, hout, State.modOfftake_eq ho]

theorem State.joinSupply_other {s : State} {i : Nat} {o : Offtake} (ho : s.offtake i = some o)
    (hother : o.supply ≠ .held) : s.joinSupply i = s := by
  simp [State.joinSupply, ho, hother]

/-- Settles O44: joining supply, by the supply state and the class of the record. -/
theorem joiningSupplyFollowsTheLevel : Obligations.JoiningSupplyFollowsTheLevel := by
  intro s i o ho
  refine ⟨State.joinSupply_admitted ho, fun c below hheld hstack hout => ?_, State.joinSupply_other ho,
    fun hempty => State.admits_empty hempty o.prio⟩
  rw [State.joinSupply_heldOut ho hheld hout, State.appendTop_eq, State.putOfftake_stack, hstack]
  rfl

end Sys2Proof.Machine
end

section
/-! ## Polls and their replies (R24 to R27, R32 to R40) -/

namespace Sys2Proof.Machine

open Sys2Proof

theorem State.pollable_of_link {s : State} {i : Nat} {o : Offtake} (ho : s.offtake i = some o) (hl : o.link ≠ .quiet) :
    s.pollable i = true := by
  cases h : o.link <;> simp_all [State.pollable, LinkState.polled]

/-- The lowest pollable slot above the cursor is polled next (R24). -/
theorem State.nextPoll_above {s : State} {i : Nat} (hi : i < 24) (hpoll : s.pollable i = true) (habove : s.pollCursor < i)
    (hbetween : ∀ j, s.pollCursor < j → j < i → s.pollable j = false) : s.nextPoll = some i := by
  have hfound : (slotNumbers.find? fun i => s.pollable i && decide (s.pollCursor < i)) = some i := by
    rw [slotNumbers, List.find?_range_eq_some]
    refine ⟨by simp [hpoll, habove], List.mem_range.mpr hi, fun j hj => ?_⟩
    by_cases hcursor : s.pollCursor < j
    · simp [hbetween j hcursor hj]
    · simp [hcursor]
  rw [State.nextPoll, hfound, Option.some_or]

/-- With no pollable slot above the cursor, the lowest pollable slot is polled next (R24). -/
theorem State.nextPoll_lowest {s : State} {i : Nat} (hi : i < 24) (hpoll : s.pollable i = true)
    (hnone : ∀ j, s.pollCursor < j → s.pollable j = false) (hlower : ∀ j, j < i → s.pollable j = false) :
    s.nextPoll = some i := by
  have habove : (slotNumbers.find? fun i => s.pollable i && decide (s.pollCursor < i)) = none := by
    rw [List.find?_eq_none]
    intro j _
    by_cases hcursor : s.pollCursor < j
    · simp [hnone j hcursor]
    · simp [hcursor]
  have hfound : slotNumbers.find? s.pollable = some i := by
    rw [slotNumbers, List.find?_range_eq_some]
    exact ⟨hpoll, List.mem_range.mpr hi, fun j hj => by simp [hlower j hj]⟩
  rw [State.nextPoll, habove, hfound, Option.none_or]

/-- What a poll that begins writes (R24, R27). -/
theorem State.beginPoll_eq {s : State} {i : Nat} {o : Offtake} (hidle : s.exchange = none)
    (hturn : s.setpointTurn = false) (hnext : s.nextPoll = some i) (ho : s.offtake i = some o) :
    s.beginPoll = { s with
      pollCursor := i
      exchange := some (.poll i o.addr false)
      replyMs := 0
      ltx := linkBytes .poll (BitVec.ofNat 8 o.addr) [o.pollByte] } := by
  simp [State.beginPoll, hidle, hturn, hnext, ho]

/-! ### Which replies are taken (R26, R27) -/

/-- A valid reply from the address polled is taken by the polled record, unless that has gone to QUIET. -/
theorem State.takeReply_taken {α : Type} {s : State} {i : Nat} {o : Offtake} {addr : Byte} {d : α}
    (f : State → Nat → α → State) (hpoll : s.exchange = some (.poll i o.addr false)) (haddr : addr.toNat = o.addr)
    (ho : s.offtake i = some o) (hl : o.link ≠ .quiet) :
    s.takeReply addr (some d) f = f s.afterPollExchange i d := by
  simp [State.takeReply, State.replySlot, hpoll, haddr, ho, hl]
  rfl

/-- A reply is discarded when it is not valid, or when no record is there to take it. -/
theorem State.takeReply_discarded {α : Type} {s : State} {i a : Nat} {freed : Bool} {addr : Byte} {data : Option α}
    (f : State → Nat → α → State) (hpoll : s.exchange = some (.poll i a freed))
    (hno : data = none ∨ freed = true ∨ addr.toNat ≠ a ∨ (∀ o, s.offtake i = some o → o.link = .quiet)) :
    s.takeReply addr data f = s.afterPollExchange := by
  cases data with
  | none => simp only [State.takeReply, hpoll]; rfl
  | some d =>
    have hslot : s.replySlot addr = none := by
      rcases hno with hno | hno | hno | hno
      · cases hno
      · simp [State.replySlot, hpoll, hno]
      · simp [State.replySlot, hpoll, hno]
      · cases ho : s.offtake i with
        | none => simp [State.replySlot, hpoll, ho]
        | some o => simp [State.replySlot, hpoll, ho, hno o ho]
    simp only [State.takeReply, hpoll, hslot]
    rfl

/-- Settles O42: the slot polled is `nextPoll`'s, and a reply that no record takes ends the exchange. -/
theorem pollExchangeCompletes : Obligations.PollExchangeCompletes := by
  intro s hr
  have hadvert : ∀ m, exec (.advert m) s = .next (s.takeReply m.addr (readAdvert m) State.takeAdvert) :=
    fun m => exec_running (f := fun s => s.takeReply m.addr (readAdvert m) State.takeAdvert) rfl hr
  have hstatus : ∀ m, exec (.status m) s = .next (s.takeReply m.addr (readStatus m) State.takeStatus) :=
    fun m => exec_running (f := fun s => s.takeReply m.addr (readStatus m) State.takeStatus) rfl hr
  have hlegacy : ∀ m, exec (.legacy m) s = .next (s.takeReply m.addr (readLegacy m) State.takeLegacy) :=
    fun m => exec_running (f := fun s => s.takeReply m.addr (readLegacy m) State.takeLegacy) rfl hr
  simp only [hadvert, hstatus, hlegacy]
  refine ⟨fun i o hidle hturn ho hl hplace => ?_, fun i a freed hpoll => ⟨?_, fun m hno => ?_⟩,
    fun i a freed m hpoll => ⟨fun hbad => ?_, fun hbad => ?_, fun hbad => ?_⟩⟩
  · have hnext : s.nextPoll = some i := by
      have hpollable := State.pollable_of_link ho hl
      rcases hplace with ⟨habove, hbetween⟩ | ⟨hnone, hlower⟩
      · exact State.nextPoll_above (State.offtake_lt ho) hpollable habove hbetween
      · exact State.nextPoll_lowest (State.offtake_lt ho) hpollable hnone hlower
    refine ⟨o.pollByte, ?_, fun h => ?_, fun h => ?_, fun h => ?_⟩
    · rw [exec_running (f := State.beginPoll) rfl hr, State.beginPoll_eq hidle hturn hnext ho]
    · rw [Offtake.pollByte, h]
    · rw [Offtake.pollByte, h]
    · cases hlink : o.link <;> simp [Offtake.linked, LinkState.linked, hlink] at h <;> rw [Offtake.pollByte, hlink]
  · rw [exec_running (f := State.pollTimedOut) rfl hr, State.pollTimedOut, hpoll]
    rfl
  · have hnotaken : freed = true ∨ m.addr.toNat ≠ a ∨ ∀ o, s.offtake i = some o → o.link = .quiet := by
      rcases hno with hno | hno | hno
      · exact .inl hno
      · exact .inr (.inl hno)
      · exact .inr (.inr fun o ho => by rw [hno] at ho; cases ho)
    exact ⟨congrArg _ (State.takeReply_discarded _ hpoll (.inr hnotaken)),
      congrArg _ (State.takeReply_discarded _ hpoll (.inr hnotaken)),
      congrArg _ (State.takeReply_discarded _ hpoll (.inr hnotaken))⟩
  · rw [State.takeReply_discarded _ hpoll (.inl hbad)]
  · rw [State.takeReply_discarded _ hpoll (.inl hbad)]
  · rw [State.takeReply_discarded _ hpoll (.inl hbad)]

/-! ### STATUS and LEGACY (R35, R39) -/

theorem State.takeLegacy_eq {s : State} {i : Nat} {o : Offtake} (ho : s.offtake i = some o) (c : CallData) :
    s.takeLegacy i c =
      if o.link = .listen then s.listenLegacy i o c
      else if o.link = .legacyBound then s.putOfftake i (some (o.called c))
      else s := by
  unfold State.takeLegacy
  simp only [ho, State.modOfftake_eq ho]
  cases o.link <;> rfl

/-- Settles O45: a reply that is taken is taken by `takeStatus` or `takeLegacy` on the state after the exchange. -/
theorem callRepliesComplete : Obligations.CallRepliesComplete := by
  intro s m i o c hr hpoll haddr ho u
  have hu : u.offtake i = some o := ho
  have hstatus : exec (.status m) s = .next (s.takeReply m.addr (readStatus m) State.takeStatus) :=
    exec_running (f := fun s => s.takeReply m.addr (readStatus m) State.takeStatus) rfl hr
  have hlegacy : exec (.legacy m) s = .next (s.takeReply m.addr (readLegacy m) State.takeLegacy) :=
    exec_running (f := fun s => s.takeReply m.addr (readLegacy m) State.takeLegacy) rfl hr
  have hstatus_taken (hc : readStatus m = some c) (hl : o.link ≠ .quiet) :
      exec (.status m) s = .next (u.takeStatus i c) := by
    rw [hstatus, hc, State.takeReply_taken _ hpoll haddr ho hl]
  have hlegacy_taken (hc : readLegacy m = some c) (hl : o.link ≠ .quiet) :
      exec (.legacy m) s = .next (u.takeLegacy i c) := by
    rw [hlegacy, hc, State.takeReply_taken _ hpoll haddr ho hl]
  have hquiet {β : Type} {data : Option β} (f : State → Nat → β → State) (hl : o.link = .quiet) :
      s.takeReply m.addr data f = u :=
    State.takeReply_discarded f hpoll (.inr (.inr (.inr fun x hx => by rw [ho] at hx; cases hx; exact hl)))
  refine ⟨fun hc hl => ?_, fun hc hl => ?_, fun hc hl => ?_, fun hc hl => ?_, fun hc hl hrun => ?_,
    fun hc hl hrun hmode => ?_, fun hc hl hrun hmode => ?_⟩
  · rw [hstatus_taken hc (by simp [hl]), State.takeStatus, hu]
    simp only [Option.any_some, hl, decide_true, if_true, State.modOfftake_eq hu]
    rw [← hl]
    rfl
  · by_cases hq : o.link = .quiet
    · rw [hstatus, hquiet _ hq]
    · rw [hstatus_taken hc hq, State.takeStatus, hu]
      simp [hl]
  · rw [hlegacy_taken hc (by simp [hl]), State.takeLegacy_eq hu, if_neg (by simp [hl]), if_pos hl]
    rfl
  · rcases hl with hl | hl | hl
    · rw [hlegacy, hquiet _ hl]
    all_goals rw [hlegacy_taken hc (by simp [hl]), State.takeLegacy_eq hu, if_neg (by simp [hl]), if_neg (by simp [hl])]
  all_goals rw [hlegacy_taken hc (by simp [hl]), State.takeLegacy_eq hu, if_pos hl, State.listenLegacy]
  · rw [if_pos (by omega)]
  · rw [if_neg (by omega), if_pos hmode]
    cases hcls : o.cls <;> rfl
  · rw [if_neg (by omega), if_neg (by simp [hmode])]
    dsimp only
    split <;> rfl

end Sys2Proof.Machine
end

section
/-! ## ADVERT (R33, R34, R37, R40) -/

namespace Sys2Proof.Machine

open Sys2Proof

/-- The record as an advert taken in LISTEN finds it (R34). -/
def Offtake.advertised (o : Offtake) (a : AdvertData) : Offtake :=
  { o with advert := some a, legacyRun := 0, absent := false, silenceMs := 0 }

/-- The record after a mode resolution that succeeds (R33, R34). -/
def Offtake.resolved (o : Offtake) (a : AdvertData) (m : Mode) : Offtake :=
  { (o.advertised a).withMode (some m) with noMode := false, link := .confirm, confirmCount := 0 }

/-- The record after a mode resolution that fails (R33, R34). -/
def Offtake.unresolved (o : Offtake) (a : AdvertData) : Offtake :=
  { (o.advertised a).withMode none with link := .listen, noMode := true }

theorem State.listenAdvert_resolved {s : State} {i : Nat} {o : Offtake} {a : AdvertData} {m : Mode}
    (ho : s.offtake i = some o) (hm : resolveMode o a = some m) :
    s.listenAdvert i a = s.putOfftake i (some (o.resolved a m)) := by
  have hm' : resolveMode (o.advertised a) a = some m := hm
  unfold State.listenAdvert
  simp only [ho]
  rw [← Offtake.advertised, hm']
  rfl

theorem State.listenAdvert_unresolved {s : State} {i : Nat} {o : Offtake} {a : AdvertData}
    (ho : s.offtake i = some o) (hm : resolveMode o a = none) :
    s.listenAdvert i a =
      if o.noMode then s.putOfftake i (some (o.unresolved a))
      else (s.putOfftake i (some (o.unresolved a))).raise .noMode i := by
  have hm' : resolveMode (o.advertised a) a = none := hm
  unfold State.listenAdvert
  simp only [ho]
  rw [← Offtake.advertised, hm']
  rfl

theorem State.listenAdvert_none {s : State} {i : Nat} (ho : s.offtake i = none) (a : AdvertData) :
    s.listenAdvert i a = s := by
  simp only [State.listenAdvert, ho]

/-- A repeated advert: stored again, and counted when it carries the ack flag (R37). -/
def Offtake.matched (o : Offtake) (a : AdvertData) : Offtake :=
  { o with advert := some a, silenceMs := 0, confirmCount := if a.ack then o.confirmCount + 1 else o.confirmCount }

/-- The record back in LISTEN after an advert that differs (R37). -/
def Offtake.differed (o : Offtake) : Offtake :=
  { o.withMode none with link := .listen, confirmCount := 0, legacyRun := 0, silenceMs := 0 }

/-- A matching advert that does not complete the count is stored and counted (R37). -/
theorem State.confirmAdvert_matched {s : State} {i : Nat} {o : Offtake} {a b : AdvertData} (hb : o.advert = some b)
    (hmodes : b.modes = a.modes) (hrating : b.rating = a.rating) (hfew : a.ack = false ∨ o.confirmCount < 2) :
    s.confirmAdvert i o a = s.putOfftake i (some (o.matched a)) := by
  unfold State.confirmAdvert Offtake.matched
  rw [hb]
  cases hack : a.ack with
  | false => simp [hmodes, hrating]
  | true =>
    have hcount : ¬ 3 ≤ o.confirmCount + 1 := by
      rcases hfew with hfew | hfew
      · simp [hack] at hfew
      · omega
    simp [hmodes, hrating, hcount]

/-- The third matching advert with the ack flag binds the record (R37). -/
theorem State.confirmAdvert_bound {s : State} {i : Nat} {o : Offtake} {a b : AdvertData} (hb : o.advert = some b)
    (hmodes : b.modes = a.modes) (hrating : b.rating = a.rating) (hack : a.ack = true) (hthird : 2 ≤ o.confirmCount) :
    s.confirmAdvert i o a = (s.putOfftake i (some { o.matched a with link := .bound })).joinSupply i := by
  have hcount : 3 ≤ o.confirmCount + 1 := by omega
  unfold State.confirmAdvert Offtake.matched
  rw [hb]
  simp [hmodes, hrating, hack, hcount]

theorem State.confirmAdvert_differed {s : State} {i : Nat} {o : Offtake} {a b : AdvertData} (hb : o.advert = some b)
    (hdiffers : b.modes ≠ a.modes ∨ b.rating ≠ a.rating) :
    s.confirmAdvert i o a = (s.putOfftake i (some o.differed)).listenAdvert i a := by
  have hno : ¬ (b.modes = a.modes ∧ b.rating = a.rating) := fun h => hdiffers.elim (· h.1) (· h.2)
  unfold State.confirmAdvert
  rw [hb, if_neg (by simpa using hno)]
  rfl

theorem State.takeAdvert_eq {s : State} {i : Nat} {o : Offtake} (ho : s.offtake i = some o) (a : AdvertData) :
    s.takeAdvert i a =
      if o.link = .listen then s.listenAdvert i (storedAdvert a)
      else if o.link = .confirm then s.confirmAdvert i o (storedAdvert a)
      else if o.linked then s.boundAdvert i (storedAdvert a)
      else s := by
  unfold State.takeAdvert Offtake.linked
  simp only [ho]
  cases o.link <;> rfl

/-- Settles O43: an advert is taken by `takeAdvert` on the state after the exchange, by the link state it finds. -/
theorem advertsComplete : Obligations.AdvertsComplete := by
  intro s m i o a hr hpoll haddr ho ha sa u
  have hu : u.offtake i = some o := ho
  have htaken (hl : o.link ≠ .quiet) : exec (.advert m) s = .next (u.takeAdvert i a) := by
    rw [exec_running (f := fun s => s.takeReply m.addr (readAdvert m) State.takeAdvert) rfl hr, ha,
      State.takeReply_taken _ hpoll haddr ho hl]
  have hlisten (hl : o.link = .listen) : exec (.advert m) s = .next (u.listenAdvert i sa) := by
    rw [htaken (by simp [hl]), State.takeAdvert_eq hu, if_pos hl]
    rfl
  have hconfirm (hl : o.link = .confirm) : exec (.advert m) s = .next (u.confirmAdvert i o sa) := by
    rw [htaken (by simp [hl]), State.takeAdvert_eq hu, if_neg (by simp [hl]), if_pos hl]
    rfl
  have hbound (hl : o.linked = true) : exec (.advert m) s = .next (u.boundAdvert i sa) := by
    have hne : ∀ l : LinkState, l.linked = false → o.link ≠ l := fun l hl' h => by
      rw [Offtake.linked, h, hl'] at hl
      cases hl
    rw [htaken (hne _ rfl), State.takeAdvert_eq hu, if_neg (hne _ rfl), if_neg (hne _ rfl), if_pos hl]
    rfl
  refine ⟨fun mode hl hmode => ?_, fun hl hmode => ?_, fun b hl hb hmodes hrating => ⟨fun hfew => ?_, fun hack hthird => ?_⟩,
    fun b hl hb hdiffers => ?_, fun hl hretiring => ?_, fun hl hlive => ?_⟩
  · rw [hlisten hl, State.listenAdvert_resolved hu hmode]
    cases mode <;> rfl
  · refine ⟨_, hlisten hl, ?_⟩
    have hrecord : o.unresolved sa = { o with
        advert := some sa, legacyRun := 0, absent := false, silenceMs := 0, mode := none, split := none,
        noMode := true } := by
      rw [hl]
      rfl
    rw [State.listenAdvert_unresolved hu hmode, hrecord]
    split <;> rfl
  · rw [hconfirm hl, State.confirmAdvert_matched hb hmodes hrating hfew]
    rfl
  · rw [hconfirm hl, State.confirmAdvert_bound hb hmodes hrating hack hthird]
    rfl
  · rw [hconfirm hl, State.confirmAdvert_differed hb hdiffers]
    rfl
  · have hgone := State.leaveLinked_retiring hu hretiring
    rw [hbound hl, State.boundAdvert]
    dsimp only
    rw [State.modOfftake_none hgone, State.listenAdvert_none hgone]
  · rw [hbound hl]
    rfl

end Sys2Proof.Machine
end

section
/-! ## The laws of a record in service (R42, R46, R50, R140)

`State.Serves s L` is `serviceOk` with the listed slots given apart, so that it can be followed through the parts of an
event: a record that is shed stands in `L` before it stands in a list. Its parts are the law of each record
(`linkOk`), the law of the setpoint queue (`QueueLawful`) and that of the lists (`Lists`). -/

namespace Sys2Proof.Machine

open Sys2Proof

/-- The slot's record is linked. -/
def State.linkedAt (s : State) (i : Nat) : Prop := ∃ o, s.offtake i = some o ∧ o.linked = true

/-- The slot's record is SHED. -/
def State.shedIn (s : State) (i : Nat) : Prop := ∃ o, s.offtake i = some o ∧ o.supply = .shed

/-- The laws of the setpoint queue and of its exchange (R46, R50). -/
def State.QueueLawful (s : State) : Prop := s.queueOk ∧ s.flightOk

/-- The slots of the SHED records, each once (R140). -/
def State.Lists (s : State) (L : List Nat) : Prop := L.Nodup ∧ ∀ i, i ∈ L ↔ s.shedIn i

/-- The laws of service, for a part that has the slots `L` in its lists. -/
structure State.Serves (s : State) (L : List Nat) : Prop where
  records : s.everyRecord Offtake.linkOk
  queue : s.QueueLawful
  lists : s.Lists L

theorem State.serviceOk_iff {s : State} : s.serviceOk ↔ s.Serves s.listed :=
  ⟨fun ⟨hrecords, hqueue, hflight, hlists⟩ => ⟨hrecords, ⟨hqueue, hflight⟩, hlists⟩,
    fun ⟨hrecords, ⟨hqueue, hflight⟩, hlists⟩ => ⟨hrecords, hqueue, hflight, hlists⟩⟩

/-! ### The law of one record -/

/-- What the laws of service read of a record. -/
def Offtake.linkFields (o : Offtake) : LinkState × Option Mode × BitVec 6 × Supply × Nat × Bool × Nat :=
  (o.link, o.mode, o.permitted, o.supply, o.grant, o.retiring, o.ackGrant)

theorem Offtake.linkOk_congr {o o' : Offtake} (h : o'.linkFields = o.linkFields) (ho : o.linkOk) : o'.linkOk := by
  simp only [Offtake.linkFields, Prod.mk.injEq] at h
  obtain ⟨hlink, hmode, hpermitted, hsupply, hgrant, hretiring, hack⟩ := h
  simpa only [Offtake.linkOk, Offtake.linked, hlink, hmode, hpermitted, hsupply, hgrant, hretiring, hack] using ho

/-- The part of a record's law that does not speak of its mode. -/
structure Offtake.SupplyOk (o : Offtake) : Prop where
  active_linked : o.supply = .active → o.linked = true
  grant_zero : o.supply ≠ .active → o.grant = 0
  retiring_linked : o.retiring = true → o.linked = true
  retiring_supply : o.retiring = true → o.supply ≠ .active ∧ o.supply ≠ .shed
  ack_linked : o.ackGrant ≠ 0 → o.linked = true

/-- A record's law by what it says of the mode and of the supply. -/
theorem Offtake.linkOk_iff {o : Offtake} :
    o.linkOk ↔ (o.link = .quiet ∨ o.link = .listen → o.mode = none)
      ∧ (o.link = .confirm ∨ o.linked = true → ∃ m, o.mode = some m ∧ modeIn m o.permitted = true) ∧ o.SupplyOk :=
  ⟨fun ⟨hnone, hsome, hactive, hgrant, hretiring, hack⟩ =>
    ⟨hnone, hsome, hactive, hgrant, fun h => (hretiring h).1, fun h => (hretiring h).2, hack⟩,
    fun ⟨hnone, hsome, hsupply⟩ => ⟨hnone, hsome, hsupply.active_linked, hsupply.grant_zero,
      fun h => ⟨hsupply.retiring_linked h, hsupply.retiring_supply h⟩, hsupply.ack_linked⟩⟩

theorem Offtake.linkOk.supplyOk {o : Offtake} (h : o.linkOk) : o.SupplyOk := (Offtake.linkOk_iff.mp h).2.2

/-- A record that is not linked is not ACTIVE, has nothing granted or acknowledged, and does not retire. -/
theorem Offtake.SupplyOk.unlinked {o : Offtake} (h : o.SupplyOk) (hl : o.linked = false) :
    o.supply ≠ .active ∧ o.grant = 0 ∧ o.retiring = false ∧ o.ackGrant = 0 := by
  have hactive : o.supply ≠ .active := fun c => by simpa [hl] using h.active_linked c
  refine ⟨hactive, h.grant_zero hactive, ?_, ?_⟩
  · by_contra c
    simpa [hl] using h.retiring_linked (by simpa using c)
  · by_contra c
    simpa [hl] using h.ack_linked c

/-- A record not linked keeps its law when its supply stays and its mode is as its link state demands. -/
theorem Offtake.linkOk_unlinked {o o' : Offtake} (h : o.SupplyOk) (hl : o.linked = false) (hl' : o'.linked = false)
    (hsupply : o'.supply = o.supply) (hgrant : o'.grant = o.grant) (hretiring : o'.retiring = o.retiring)
    (hack : o'.ackGrant = o.ackGrant) (hnone : o'.link = .quiet ∨ o'.link = .listen → o'.mode = none)
    (hsome : o'.link = .confirm → ∃ m, o'.mode = some m ∧ modeIn m o'.permitted = true) : o'.linkOk := by
  obtain ⟨hactive, hgrant0, hlive, hack0⟩ := h.unlinked hl
  refine Offtake.linkOk_iff.mpr ⟨hnone, fun hc => hsome (hc.resolve_right (by simp [hl'])), ?_⟩
  exact ⟨fun c => absurd (hsupply ▸ c) hactive, fun _ => hgrant.trans hgrant0,
    fun c => absurd c (by simp [hretiring, hlive]), fun c => absurd c (by simp [hretiring, hlive]),
    fun c => absurd (hack.trans hack0) c⟩

theorem Offtake.quietedFrom_linkOk {o : Offtake} (h : o.SupplyOk) (hstays : ¬ (o.linked = true ∧ o.retiring = true)) :
    o.quietedFrom.linkOk := by
  have hlive : o.retiring = false := by
    by_contra c
    have hr : o.retiring = true := by simpa using c
    exact hstays ⟨h.retiring_linked hr, hr⟩
  refine Offtake.linkOk_iff.mpr ⟨fun _ => rfl, fun c => absurd c (by simp [Offtake.quietedFrom, Offtake.quieted,
    Offtake.linked, LinkState.linked]), ?_⟩
  cases hl : o.linked with
  | true =>
    have hgrant := h.grant_zero
    by_cases hs : o.supply = .active <;>
      exact ⟨by simp [Offtake.quietedFrom, hl, hs], by simp [Offtake.quietedFrom, hl, hs, hgrant],
        by simp [Offtake.quietedFrom, Offtake.quieted, Offtake.withMode, hlive],
        by simp [Offtake.quietedFrom, Offtake.quieted, Offtake.withMode, hlive], by simp [Offtake.quietedFrom, hl]⟩
  | false =>
    obtain ⟨hactive, hgrant, _, hack⟩ := h.unlinked hl
    exact ⟨by simp [Offtake.quietedFrom, hl, hactive], by simp [Offtake.quietedFrom, hl, hgrant],
      by simp [Offtake.quietedFrom, Offtake.quieted, Offtake.withMode, hlive],
      by simp [Offtake.quietedFrom, Offtake.quieted, Offtake.withMode, hlive], by simp [Offtake.quietedFrom, hl, hack]⟩

/-- A record out of supply with grant 0 keeps its law, if it is not SHED while it retires. -/
theorem Offtake.linkOk_withdrawn {o : Offtake} {st : Supply} (h : o.linkOk) (hst : st ≠ .active)
    (hretiring : o.retiring = true → st ≠ .shed) : ({ o.zeroGrant with supply := st } : Offtake).linkOk := by
  obtain ⟨hnone, hsome, hsupply⟩ := Offtake.linkOk_iff.mp h
  exact Offtake.linkOk_iff.mpr ⟨hnone, hsome, fun c => absurd c hst, fun _ => rfl, hsupply.retiring_linked,
    fun c => ⟨hst, hretiring c⟩, hsupply.ack_linked⟩

/-- The records of every slot keep a property when the one slot that changes does. -/
theorem State.everyRecord_of_slot {s t : State} {f : Offtake → Prop} (i : Nat) (hs : s.everyRecord f)
    (hothers : ∀ j, j ≠ i → t.offtake j = s.offtake j) (hself : ∀ o, t.offtake i = some o → f o) : t.everyRecord f := by
  intro j o ho
  by_cases hj : j = i
  · subst hj
    exact hself o ho
  · exact hs j o (hothers j hj ▸ ho)

/-! ### The law of the setpoint queue -/

theorem State.offtake_putOfftake_ne (s : State) {i j : Nat} (o : Option Offtake) (h : j ≠ i) :
    (s.putOfftake i o).offtake j = s.offtake j := by
  rw [State.offtake_putOfftake, if_neg fun c => h c.1.symm]

theorem State.offtake_putOfftake_self {s : State} {i : Nat} {o : Offtake} (ho : s.offtake i = some o) (o' : Offtake) :
    (s.putOfftake i (some o')).offtake i = some o' := by
  rw [State.offtake_putOfftake, if_pos ⟨rfl, State.offtake_lt ho⟩]

/-- A vacant slot has no link to leave (R29, R30). -/
theorem State.leaveLinked_vacant {s : State} {i : Nat} (ho : s.offtake i = none) : s.leaveLinked i = s := by
  rw [State.leaveLinked, ho]

theorem State.enterQuiet_vacant {s : State} {i : Nat} (ho : s.offtake i = none) : s.enterQuiet i = s := by
  rw [State.enterQuiet, State.unlink, ho]
  exact State.modOfftake_none ho _

theorem State.linkedAt_congr {s t : State} {j : Nat} (h : t.offtake j = s.offtake j) : t.linkedAt j ↔ s.linkedAt j := by
  rw [State.linkedAt, h, State.linkedAt]

theorem State.shedIn_congr {s t : State} {j : Nat} (h : t.offtake j = s.offtake j) : t.shedIn j ↔ s.shedIn j := by
  rw [State.shedIn, h, State.shedIn]

namespace State.QueueLawful

variable {s t : State}

/-- A slot whose record is not linked has no entry. -/
theorem unqueued (h : s.QueueLawful) {i : Nat} (hi : ¬ s.linkedAt i) : ∀ e ∈ s.setpointQueue, e.slot ≠ i := by
  rintro e he rfl
  exact hi (h.1.2.1 e he).1

/-- The queue and its exchange stay, and so do the links of the records in it. -/
theorem congr (h : s.QueueLawful) (hqueue : t.setpointQueue = s.setpointQueue)
    (hexchanging : ∀ j, t.exchanging j ↔ s.exchanging j)
    (hlinked : ∀ e ∈ s.setpointQueue, s.linkedAt e.slot → t.linkedAt e.slot) : t.QueueLawful := by
  obtain ⟨⟨hnodup, hentries, hcloses⟩, hmarks, hwaits⟩ := h
  unfold State.QueueLawful State.queueOk State.flightOk
  simp only [hqueue, hexchanging]
  exact ⟨⟨hnodup, fun e he => ⟨hlinked e he (hentries e he).1, (hentries e he).2⟩, hcloses⟩, hmarks, hwaits⟩

/-- The record of one slot changes; it stays linked if it has an entry. -/
theorem record (h : s.QueueLawful) (i : Nat) (hqueue : t.setpointQueue = s.setpointQueue) (hexchange : t.exchange = s.exchange)
    (hothers : ∀ j, j ≠ i → t.offtake j = s.offtake j)
    (hself : t.linkedAt i ∨ ∀ e ∈ s.setpointQueue, e.slot ≠ i) : t.QueueLawful := by
  refine h.congr hqueue (State.exchanging_of_exchange hexchange) fun e he hl => ?_
  by_cases hi : e.slot = i
  · rcases hself with hself | hself
    · exact hi ▸ hself
    · exact absurd hi (hself e he)
  · exact (State.linkedAt_congr (hothers _ hi)).mpr hl

/-- A record is rewritten; it stays linked if its slot has an entry. -/
theorem put (h : s.QueueLawful) {i : Nat} {o o' : Offtake} (ho : s.offtake i = some o)
    (hlinked : o.linked = true → o'.linked = true ∨ ∀ e ∈ s.setpointQueue, e.slot ≠ i) :
    (s.putOfftake i (some o')).QueueLawful := by
  refine h.record i rfl rfl (fun j hj => State.offtake_putOfftake_ne s _ hj) ?_
  cases hl : o.linked with
  | true => exact (hlinked hl).imp (fun hl' => ⟨o', State.offtake_putOfftake_self ho o', hl'⟩) id
  | false => exact .inr (h.unqueued (by simp [State.linkedAt, ho, hl]))

/-- A slot's entry is gone and its exchange abandoned. -/
theorem unqueue (h : s.QueueLawful) (i : Nat) (hqueue : t.setpointQueue = s.setpointQueue.filter (·.slot ≠ i))
    (hexchanging : ∀ j, t.exchanging j ↔ j ≠ i ∧ s.exchanging j)
    (hothers : ∀ j, j ≠ i → t.offtake j = s.offtake j) : t.QueueLawful := by
  obtain ⟨⟨hnodup, hentries, hcloses⟩, hmarks, hwaits⟩ := h
  have hmem : ∀ e, e ∈ t.setpointQueue ↔ e ∈ s.setpointQueue ∧ e.slot ≠ i := by simp [hqueue]
  refine ⟨⟨?_, fun e he => ?_, ?_⟩, fun e he => ?_, fun j hj => ?_⟩
  · rw [hqueue]
    exact hnodup.sublist (List.filter_sublist.map _)
  · obtain ⟨he, hne⟩ := (hmem e).mp he
    exact ⟨(State.linkedAt_congr (hothers _ hne)).mpr (hentries e he).1, (hentries e he).2⟩
  · rw [hqueue]
    exact hcloses.sublist List.filter_sublist
  · obtain ⟨he, hne⟩ := (hmem e).mp he
    rw [hexchanging, hmarks e he]
    simp [hne]
  · obtain ⟨hne, hj⟩ := (hexchanging j).mp hj
    obtain ⟨e, he, rfl⟩ := hwaits j hj
    exact ⟨e, (hmem e).mpr ⟨he, hne⟩, rfl⟩

/-- A linked record's slot has the entry `e` in place of any it had. -/
theorem enqueue (h : s.QueueLawful) (e : SetpointEntry)
    (hqueue : t.setpointQueue.Perm (e :: s.setpointQueue.filter (·.slot ≠ e.slot)))
    (hcloses : t.setpointQueue.Pairwise fun a b => b.close = true → a.close = true) (hattempts : e.attempts ≤ 2)
    (hmark : e.inFlight = true ↔ t.exchanging e.slot)
    (hexchanging : ∀ j, j ≠ e.slot → (t.exchanging j ↔ s.exchanging j))
    (hslots : ∀ j, t.offtake j = s.offtake j) (hlinked : s.linkedAt e.slot) : t.QueueLawful := by
  obtain ⟨⟨hnodup, hentries, _⟩, hmarks, hwaits⟩ := h
  have hmem : ∀ x, x ∈ t.setpointQueue ↔ x = e ∨ x ∈ s.setpointQueue ∧ x.slot ≠ e.slot := by simp [hqueue.mem_iff]
  refine ⟨⟨?_, fun x hx => ?_, hcloses⟩, fun x hx => ?_, fun j hj => ?_⟩
  · rw [(hqueue.map _).nodup_iff, List.map_cons, List.nodup_cons]
    exact ⟨by simp, hnodup.sublist (List.filter_sublist.map _)⟩
  · rcases (hmem x).mp hx with rfl | ⟨hx, _⟩
    · exact ⟨(State.linkedAt_congr (hslots _)).mpr hlinked, hattempts⟩
    · exact ⟨(State.linkedAt_congr (hslots _)).mpr (hentries x hx).1, (hentries x hx).2⟩
  · rcases (hmem x).mp hx with rfl | ⟨hx, hne⟩
    · exact hmark
    · rw [hexchanging _ hne]
      exact hmarks x hx
  · by_cases hje : j = e.slot
    · exact ⟨e, (hmem e).mpr (.inl rfl), hje.symm⟩
    · obtain ⟨x, hx, rfl⟩ := hwaits j ((hexchanging j hje).mp hj)
      exact ⟨x, (hmem x).mpr (.inr ⟨hx, hje⟩), rfl⟩

end State.QueueLawful

/-- A close placed among the closes keeps them ahead. -/
theorem insertClose_closesFirst {e : SetpointEntry} {q : List SetpointEntry} (he : e.close = true)
    (hq : q.Pairwise fun a b => b.close = true → a.close = true) :
    (insertClose e q).Pairwise fun a b => b.close = true → a.close = true := by
  unfold insertClose
  refine List.pairwise_append.mpr ⟨hq.sublist (List.takeWhile_sublist _), ?_, fun a ha b _ _ => ?_⟩
  · exact List.pairwise_cons.mpr ⟨fun _ _ _ => he, hq.sublist (List.dropWhile_sublist _)⟩
  · exact List.mem_takeWhile_imp ha

/-- An entry that a handed grant makes: a new one, or one moved among the closes with its attempts and its mark (R47,
R48). -/
def SetpointEntry.madeIn (q : List SetpointEntry) (e : SetpointEntry) : Prop :=
  ((∀ x ∈ q, x.slot ≠ e.slot) ∧ e.attempts = 0 ∧ e.inFlight = false)
    ∨ ∃ x ∈ q, x.slot = e.slot ∧ x.attempts = e.attempts ∧ x.inFlight = e.inFlight

/-- A grant handed over leaves the queue, or gives its slot one entry made so. -/
theorem queueAfterGrant_cases (i g a : Nat) (q : List SetpointEntry)
    (hq : q.Pairwise fun a b => b.close = true → a.close = true) :
    queueAfterGrant i g a q = q ∨ ∃ e : SetpointEntry, e.slot = i ∧ e.madeIn q
      ∧ (queueAfterGrant i g a q).Perm (e :: q.filter (·.slot ≠ i))
      ∧ (queueAfterGrant i g a q).Pairwise fun a b => b.close = true → a.close = true := by
  unfold queueAfterGrant
  cases hfind : q.find? (·.slot = i) with
  | none =>
    have hnone : ∀ x ∈ q, x.slot ≠ i := by simpa using List.find?_eq_none.mp hfind
    have hfilter : q.filter (·.slot ≠ i) = q := List.filter_eq_self.mpr (by simpa using hnone)
    dsimp only
    split
    · exact .inl rfl
    · refine .inr ?_
      rw [hfilter]
      split
      · exact ⟨⟨i, true, 0, false⟩, rfl, .inl ⟨hnone, rfl, rfl⟩, insertClose_perm _ q, insertClose_closesFirst rfl hq⟩
      · refine ⟨⟨i, false, 0, false⟩, rfl, .inl ⟨hnone, rfl, rfl⟩, List.perm_append_singleton _ q, ?_⟩
        exact List.pairwise_append.mpr ⟨hq, List.pairwise_singleton _ _, by simp⟩
  | some e =>
    have hslot : e.slot = i := by simpa using List.find?_some hfind
    dsimp only
    split
    · exact .inr ⟨{ e with close := true }, hslot, .inr ⟨e, List.mem_of_find?_eq_some hfind, rfl, rfl, rfl⟩,
        insertClose_perm _ _, insertClose_closesFirst rfl (hq.sublist List.filter_sublist)⟩
    · exact .inl rfl

namespace State.QueueLawful

variable {s t : State}

theorem handGrant (h : s.QueueLawful) (i : Nat) : (s.handGrant i).QueueLawful := by
  unfold State.handGrant
  repeat' split
  · next o ho hl =>
    rcases queueAfterGrant_cases i o.grant o.ackGrant s.setpointQueue h.1.2.2 with hsame | ⟨e, rfl, hmade, hperm, hcloses⟩
    · exact h.congr hsame (fun _ => Iff.rfl) fun _ _ hlinked => hlinked
    · have hentry : e.attempts ≤ 2 ∧ (e.inFlight = true ↔ s.exchanging e.slot) := by
        rcases hmade with ⟨hnew, hattempts, hmark⟩ | ⟨x, hx, hslot, hattempts, hmark⟩
        · refine ⟨by omega, fun c => absurd c (by simp [hmark]), fun hwaits => ?_⟩
          obtain ⟨x, hx, hslot⟩ := h.2.2 _ hwaits
          exact absurd hslot (hnew x hx)
        · rw [← hattempts, ← hmark, ← hslot]
          exact ⟨(h.1.2.1 x hx).2, h.2.1 x hx⟩
      exact h.enqueue e hperm hcloses hentry.1 hentry.2 (fun _ _ => Iff.rfl) (fun _ => rfl) ⟨o, ho, hl⟩
  · exact h
  · exact h

theorem withdraw (h : s.QueueLawful) (i : Nat) (st : Supply) : (s.withdraw i st).QueueLawful := by
  refine handGrant (s := (s.modOfftake i fun o => { o.zeroGrant with supply := st }).voidEntry i) ?_ i
  refine h.record i (by simp) (by simp) (fun j hj => ?_) ?_
  · simp [State.offtake_modOfftake, hj.symm]
  · by_cases hl : s.linkedAt i
    · obtain ⟨o, ho, hl⟩ := hl
      exact .inl ⟨{ o.zeroGrant with supply := st }, by simp [State.offtake_modOfftake, ho], hl⟩
    · exact .inr (h.unqueued hl)

theorem free (h : s.QueueLawful) (i : Nat) : (s.free i).QueueLawful := by
  cases ho : s.offtake i with
  | none =>
    rw [State.free, ho]
    exact h
  | some o =>
    refine h.unqueue i (State.free_setpointQueue ho) (State.exchanging_free ho) fun j hj => ?_
    rw [State.offtake_free, if_neg hj.symm]

theorem leaveLinked (h : s.QueueLawful) (i : Nat) : (s.leaveLinked i).QueueLawful := by
  cases ho : s.offtake i with
  | none =>
    rwa [State.leaveLinked_vacant ho]
  | some o =>
    exact h.unqueue i (State.leaveLinked_setpointQueue ho) (State.exchanging_leaveLinked ho)
      fun j hj => State.offtake_leaveLinked_ne s hj.symm

end State.QueueLawful

/-- A linked record that enters QUIET gives up its entry and its exchange (R29, R30). -/
theorem State.enterQuiet_setpointQueue {s : State} {i : Nat} (hl : s.linkedAt i) :
    (s.enterQuiet i).setpointQueue = s.setpointQueue.filter (·.slot ≠ i) := by
  obtain ⟨o, ho, hl⟩ := hl
  rw [State.enterQuiet_linked ho hl, State.modOfftake_setpointQueue, State.leaveLinked_setpointQueue ho]

theorem State.exchanging_enterQuiet {s : State} {i : Nat} (hl : s.linkedAt i) (j : Nat) :
    (s.enterQuiet i).exchanging j ↔ j ≠ i ∧ s.exchanging j := by
  obtain ⟨o, ho, hl⟩ := hl
  rw [State.enterQuiet_linked ho hl, State.exchanging_of_exchange (State.modOfftake_exchange _ _ _),
    State.exchanging_leaveLinked ho]

theorem State.QueueLawful.enterQuiet {s : State} (h : s.QueueLawful) (i : Nat) : (s.enterQuiet i).QueueLawful := by
  have hothers : ∀ j, j ≠ i → (s.enterQuiet i).offtake j = s.offtake j :=
    fun j hj => State.offtake_enterQuiet_ne s hj.symm
  by_cases hl : s.linkedAt i
  · exact h.unqueue i (State.enterQuiet_setpointQueue hl) (State.exchanging_enterQuiet hl) hothers
  · cases ho : s.offtake i with
    | none => rwa [State.enterQuiet_vacant ho]
    | some o =>
      have hput := State.enterQuiet_unlinked ho (by simpa [State.linkedAt, ho] using hl)
      exact h.record i (by rw [hput]; rfl) (by rw [hput]; rfl) hothers (.inr (h.unqueued hl))

/-! ### The law of the lists -/

namespace State.Lists

variable {s t : State} {L L' : List Nat}

theorem congr (h : s.Lists L) (hshed : ∀ j, t.shedIn j ↔ s.shedIn j) : t.Lists L :=
  ⟨h.1, fun j => (h.2 j).trans (hshed j).symm⟩

theorem perm (h : s.Lists L) (hperm : L'.Perm L) : s.Lists L' :=
  ⟨hperm.nodup_iff.mpr h.1, fun j => hperm.mem_iff.trans (h.2 j)⟩

/-- The record of one slot changes, and is SHED if and only if it was. -/
theorem record (h : s.Lists L) (i : Nat) (hothers : ∀ j, j ≠ i → t.offtake j = s.offtake j)
    (hself : t.shedIn i ↔ s.shedIn i) : t.Lists L := by
  refine h.congr fun j => ?_
  by_cases hj : j = i
  · exact hj ▸ hself
  · exact State.shedIn_congr (hothers j hj)

/-- The record of one slot becomes SHED. -/
theorem cons (h : s.Lists L) (i : Nat) (hothers : ∀ j, j ≠ i → t.offtake j = s.offtake j) (hbefore : ¬ s.shedIn i)
    (hself : t.shedIn i) : t.Lists (i :: L) := by
  refine ⟨List.nodup_cons.mpr ⟨fun hi => hbefore ((h.2 i).mp hi), h.1⟩, fun j => ?_⟩
  by_cases hj : j = i
  · subst hj
    simp [hself]
  · simp [hj, h.2, State.shedIn_congr (hothers j hj)]

/-- The record of one slot is SHED no more. -/
theorem filter (h : s.Lists L) (i : Nat) (hothers : ∀ j, j ≠ i → t.offtake j = s.offtake j) (hself : ¬ t.shedIn i) :
    t.Lists (L.filter (· ≠ i)) := by
  refine ⟨h.1.filter _, fun j => ?_⟩
  by_cases hj : j = i
  · subst hj
    simp [hself]
  · simp [hj, h.2, State.shedIn_congr (hothers j hj)]

/-- The first slot's record is SHED no more. -/
theorem uncons {i : Nat} (h : s.Lists (i :: L)) (hothers : ∀ j, j ≠ i → t.offtake j = s.offtake j)
    (hself : ¬ t.shedIn i) : t.Lists L := by
  have hfiltered := h.filter i hothers hself
  rwa [List.filter_cons_of_neg (by simp), List.filter_eq_self.mpr] at hfiltered
  intro j hj
  have hne : j ≠ i := fun c => (List.nodup_cons.mp h.1).1 (c ▸ hj)
  simpa using hne

end State.Lists

end Sys2Proof.Machine
end

section
/-! ## The shared operations keep the laws of service -/

namespace Sys2Proof.Machine

open Sys2Proof

/-- What the laws of service read of the part. -/
def State.serviceView (s : State) :
    Vector (Option Offtake) 24 × List SetpointEntry × Option Exchange × List Context × List Nat :=
  (s.slots, s.setpointQueue, s.exchange, s.stack, s.readmission)

theorem State.listed_perm_appendedTop {s t : State} (i : List Nat) (hstack : t.stack = appendedTop s.stack i)
    (hqueue : t.readmission = s.readmission) (hsome : s.stack ≠ []) : t.listed.Perm (i ++ s.listed) := by
  rw [State.listed, State.listed, hstack, hqueue]
  cases hs : s.stack with
  | nil => exact absurd hs hsome
  | cons c below =>
    simp only [appendedTop, List.flatMap_cons, List.append_assoc]
    exact List.perm_append_comm_assoc _ _ _

/-- Beyond level 0 there is a top context. -/
theorem State.stack_ne_nil {s : State} {prio : Nat} (h : admits s.level prio = false) : s.stack ≠ [] := by
  intro hempty
  rw [State.admits_empty hempty] at h
  cases h

namespace State.Serves

variable {s t : State} {L L' : List Nat}

/-- What the laws read of each record, the queue and the exchanges waited for stay. -/
theorem congr (h : s.Serves L)
    (hrecords : ∀ j, (t.offtake j).map Offtake.linkFields = (s.offtake j).map Offtake.linkFields)
    (hqueue : t.setpointQueue = s.setpointQueue) (hexchanging : ∀ j, t.exchanging j ↔ s.exchanging j) : t.Serves L := by
  have hkept : ∀ j o, t.offtake j = some o → ∃ o', s.offtake j = some o' ∧ o'.linkFields = o.linkFields := by
    intro j o ho
    simpa [ho] using (hrecords j).symm
  have hback : ∀ j o, s.offtake j = some o → ∃ o', t.offtake j = some o' ∧ o'.linkFields = o.linkFields := by
    intro j o ho
    simpa [ho] using hrecords j
  refine ⟨fun j o ho => ?_, h.queue.congr hqueue hexchanging fun e _ hl => ?_, h.lists.congr fun j => ⟨?_, ?_⟩⟩
  · obtain ⟨o', ho', hfields⟩ := hkept j o ho
    exact Offtake.linkOk_congr hfields.symm (h.records j o' ho')
  · obtain ⟨o, ho, hl⟩ := hl
    obtain ⟨o', ho', hfields⟩ := hback _ o ho
    simp only [Offtake.linkFields, Prod.mk.injEq] at hfields
    exact ⟨o', ho', by rw [Offtake.linked, hfields.1]; exact hl⟩
  · rintro ⟨o, ho, hs⟩
    obtain ⟨o', ho', hfields⟩ := hkept j o ho
    simp only [Offtake.linkFields, Prod.mk.injEq] at hfields
    exact ⟨o', ho', hfields.2.2.2.1.trans hs⟩
  · rintro ⟨o, ho, hs⟩
    obtain ⟨o', ho', hfields⟩ := hback j o ho
    simp only [Offtake.linkFields, Prod.mk.injEq] at hfields
    exact ⟨o', ho', hfields.2.2.2.1.trans hs⟩

/-- Nothing that the laws read changes but, perhaps, the lists. -/
theorem same (h : s.Serves L) (hslots : t.slots = s.slots) (hqueue : t.setpointQueue = s.setpointQueue)
    (hexchange : t.exchange = s.exchange) : t.Serves L :=
  h.congr (fun j => by rw [State.offtake_of_slots hslots]) hqueue (State.exchanging_of_exchange hexchange)

theorem perm (h : s.Serves L) (hperm : L'.Perm L) : s.Serves L' := ⟨h.records, h.queue, h.lists.perm hperm⟩

/-- A record is rewritten in fields that the laws do not read. -/
theorem touch (h : s.Serves L) (i : Nat) (f : Offtake → Offtake)
    (hf : ∀ o, (f o).linkFields = o.linkFields := by exact fun _ => rfl) : (s.modOfftake i f).Serves L := by
  refine h.congr (fun j => ?_) (by simp) (State.exchanging_of_exchange (by simp))
  rw [State.offtake_modOfftake]
  split
  · rw [Option.map_map]
    congr 1
    exact funext hf
  · rfl

/-- Every record is rewritten in fields that the laws do not read. -/
theorem touchAll (h : s.Serves L) (f : Offtake → Offtake) (hslots : t.slots = s.slots.map (Option.map f))
    (hqueue : t.setpointQueue = s.setpointQueue) (hexchange : t.exchange = s.exchange)
    (hf : ∀ o, (f o).linkFields = o.linkFields := by exact fun _ => rfl) : t.Serves L := by
  refine h.congr (fun j => ?_) hqueue (State.exchanging_of_exchange hexchange)
  have hmap : t.offtake j = (s.offtake j).map f := by
    unfold State.offtake
    rw [hslots, Vector.getElem?_map]
    cases s.slots[j]? <;> rfl
  rw [hmap, Option.map_map]
  congr 1
  exact funext hf

/-- A record is rewritten, and the lists follow; it keeps its link if its slot has an entry. -/
theorem put (h : s.Serves L) {i : Nat} {o o' : Offtake} (ho : s.offtake i = some o) (hok : o'.linkOk)
    (hlinked : o.linked = true → o'.linked = true ∨ ∀ e ∈ s.setpointQueue, e.slot ≠ i)
    (hlists : (s.putOfftake i (some o')).Lists L') : (s.putOfftake i (some o')).Serves L' := by
  refine ⟨State.everyRecord_of_slot i h.records (fun j hj => State.offtake_putOfftake_ne s _ hj) fun x hx => ?_,
    h.queue.put ho hlinked, hlists⟩
  rw [State.offtake_putOfftake_self ho] at hx
  cases hx
  exact hok

/-- A record is rewritten: it keeps its law, its link if it has an entry, and whether it is SHED. -/
theorem rewrite (h : s.Serves L) {i : Nat} {o o' : Offtake} (ho : s.offtake i = some o) (hok : o.linkOk → o'.linkOk)
    (hlinked : o.linked = true → o'.linked = true ∨ ∀ e ∈ s.setpointQueue, e.slot ≠ i)
    (hshed : o'.supply = .shed ↔ o.supply = .shed) : (s.putOfftake i (some o')).Serves L := by
  refine h.put ho (hok (h.records i o ho)) hlinked (h.lists.record i
    (fun j hj => State.offtake_putOfftake_ne s (some o') hj) ?_)
  simp [State.shedIn, State.offtake_putOfftake_self ho, ho, hshed]

/-- The record is rewritten while it is not linked. -/
theorem rewrite_unlinked (h : s.Serves L) {i : Nat} {o o' : Offtake} (ho : s.offtake i = some o) (hl : o.linked = false)
    (hok : o.SupplyOk → o'.linkOk) (hsupply : o'.supply = o.supply) : (s.putOfftake i (some o')).Serves L :=
  h.rewrite ho (fun hok' => hok hok'.supplyOk) (fun c => absurd c (by simp [hl])) (by rw [hsupply])

/-- A record that is not SHED stands in no list. -/
theorem not_listed (h : s.Serves L) {i : Nat} {o : Offtake} (ho : s.offtake i = some o) (hs : o.supply ≠ .shed) :
    i ∉ L := by
  rw [h.lists.2]
  rintro ⟨o', ho', hs'⟩
  rw [ho] at ho'
  cases ho'
  exact hs hs'

theorem handGrant (h : s.Serves L) (i : Nat) : (s.handGrant i).Serves L :=
  ⟨fun j o ho => h.records j o (by simpa using ho), h.queue.handGrant i,
    h.lists.congr fun j => State.shedIn_congr (by simp)⟩

/-- A record leaves supply for a state in which it may stand; the lists follow. -/
theorem withdraw (h : s.Serves L) (i : Nat) {st : Supply} (hst : st ≠ .active)
    (hretiring : ∀ o, s.offtake i = some o → o.retiring = true → st ≠ .shed) (hlists : (s.withdraw i st).Lists L') :
    (s.withdraw i st).Serves L' := by
  refine ⟨State.everyRecord_of_slot i h.records (fun j hj => ?_) fun x hx => ?_, h.queue.withdraw i st, hlists⟩
  · rw [State.offtake_withdraw, if_neg hj.symm]
  · rw [State.offtake_withdraw, if_pos rfl, Option.map_eq_some_iff] at hx
    obtain ⟨o, ho, rfl⟩ := hx
    exact Offtake.linkOk_withdrawn (h.records i o ho) hst (hretiring o ho)

theorem free (h : s.Serves L) {i : Nat} (hi : i ∉ L) : (s.free i).Serves L := by
  have hothers : ∀ j, j ≠ i → (s.free i).offtake j = s.offtake j := fun j hj => by
    rw [State.offtake_free, if_neg hj.symm]
  have hself : (s.free i).offtake i = none := by rw [State.offtake_free, if_pos rfl]
  refine ⟨State.everyRecord_of_slot i h.records hothers (by simp [hself]), h.queue.free i, h.lists.record i hothers ?_⟩
  rw [h.lists.2] at hi
  exact iff_of_false (by simp [State.shedIn, hself]) hi

/-! ### Leaving the link and joining supply -/

/-- The record law of a record that leaves the link (R29). -/
theorem records_leaveLinked (h : s.everyRecord Offtake.linkOk) (i : Nat) :
    (s.leaveLinked i).everyRecord Offtake.linkOk := by
  refine State.everyRecord_of_slot i h (fun j hj => State.offtake_leaveLinked_ne s hj.symm) fun x hx => ?_
  cases ho : s.offtake i with
  | none =>
    rw [State.leaveLinked_vacant ho, ho] at hx
    cases hx
  | some o =>
    cases hr : o.retiring with
    | true => rw [State.leaveLinked_retiring ho hr] at hx; cases hx
    | false =>
      rw [State.leaveLinked_self ho hr] at hx
      cases hx
      obtain ⟨hnone, hsome, hsupply⟩ := Offtake.linkOk_iff.mp (h i o ho)
      refine Offtake.linkOk_iff.mpr ⟨hnone, hsome, ?_⟩
      have hgrant := hsupply.grant_zero
      by_cases hs : o.supply = .active <;>
        exact ⟨by simp [hs], by simp [hs, hgrant], by simp [hr], by simp [hr], by simp⟩

theorem lists_leaveLinked (h : s.everyRecord Offtake.linkOk) (hlists : s.Lists L) (i : Nat) :
    (s.leaveLinked i).Lists L := by
  refine hlists.record i (fun j hj => State.offtake_leaveLinked_ne s hj.symm) ?_
  cases ho : s.offtake i with
  | none => rw [State.leaveLinked_vacant ho]
  | some o =>
    cases hr : o.retiring with
    | true =>
      have hnot := ((h i o ho).supplyOk.retiring_supply hr).2
      simp [State.shedIn, State.leaveLinked_retiring ho hr, ho, hnot]
    | false =>
      simp only [State.shedIn, State.leaveLinked_self ho hr, ho]
      by_cases hs : o.supply = .active <;> simp [hs]

theorem leaveLinked (h : s.Serves L) (i : Nat) : (s.leaveLinked i).Serves L :=
  ⟨records_leaveLinked h.records i, h.queue.leaveLinked i, lists_leaveLinked h.records h.lists i⟩

/-- Entering QUIET needs of the slot's own record only what its law says of its supply (R30). -/
theorem records_enterQuiet {i : Nat} (hothers : ∀ j o, j ≠ i → s.offtake j = some o → o.linkOk)
    (hself : ∀ o, s.offtake i = some o → o.SupplyOk) : (s.enterQuiet i).everyRecord Offtake.linkOk := by
  intro j x hx
  by_cases hj : j = i
  · subst hj
    cases ho : s.offtake j with
    | none =>
      rw [State.enterQuiet_vacant ho, ho] at hx
      cases hx
    | some o =>
      rw [State.offtake_enterQuiet ho] at hx
      split at hx
      · cases hx
      · next hstays =>
        cases hx
        exact Offtake.quietedFrom_linkOk (hself o ho) hstays
  · rw [State.offtake_enterQuiet_ne s (Ne.symm hj)] at hx
    exact hothers j x hj hx

theorem lists_enterQuiet (hlists : s.Lists L) {i : Nat} (hself : ∀ o, s.offtake i = some o → o.SupplyOk) :
    (s.enterQuiet i).Lists L := by
  refine hlists.record i (fun j hj => State.offtake_enterQuiet_ne s hj.symm) ?_
  cases ho : s.offtake i with
  | none => rw [State.enterQuiet_vacant ho]
  | some o =>
    have hnot := (hself o ho).retiring_supply
    simp only [State.shedIn, State.offtake_enterQuiet ho, ho]
    split
    · next hgone => simp [(hnot hgone.2).2]
    · by_cases hs : o.supply = .active <;> cases hl : o.linked <;> simp [Offtake.quietedFrom, hs, hl]

/-- A record whose mode has been lost may still enter QUIET. -/
theorem enterQuiet_of_supplyOk {i : Nat} (hothers : ∀ j o, j ≠ i → s.offtake j = some o → o.linkOk)
    (hself : ∀ o, s.offtake i = some o → o.SupplyOk) (hqueue : s.QueueLawful) (hlists : s.Lists L) :
    (s.enterQuiet i).Serves L :=
  ⟨records_enterQuiet hothers hself, hqueue.enterQuiet i, lists_enterQuiet hlists hself⟩

theorem enterQuiet (h : s.Serves L) (i : Nat) : (s.enterQuiet i).Serves L :=
  enterQuiet_of_supplyOk (fun j o _ => h.records j o) (fun o ho => (h.records i o ho).supplyOk) h.queue h.lists

end State.Serves

namespace State.serviceOk

variable {s t : State}

/-- The lists stand as they did. -/
theorem of_serves (h : t.Serves s.listed) (hstack : t.stack = s.stack) (hreadmission : t.readmission = s.readmission) :
    t.serviceOk := by
  rwa [State.serviceOk_iff, State.listed_of_lists hstack hreadmission]

/-- A linked record that does not retire joins supply: if it is held out it goes into the top context's list (R41). -/
theorem joinSupply (h : s.serviceOk) {i : Nat} {o : Offtake} (ho : s.offtake i = some o)
    (hl : o.linked = true) (hlive : o.retiring = false) : (s.joinSupply i).serviceOk := by
  rw [State.serviceOk_iff] at h ⊢
  by_cases hheld : o.supply = .held
  · cases hadmits : admits s.level o.prio with
    | true =>
      rw [State.joinSupply_admitted ho hheld hadmits]
      refine h.rewrite (o' := { o with supply := .active }) ho (fun hok => ?_) (fun _ => .inl hl) (by simp [hheld])
      obtain ⟨hnone, hsome, hsupply⟩ := Offtake.linkOk_iff.mp hok
      exact Offtake.linkOk_iff.mpr ⟨hnone, hsome, fun _ => hl, fun c => absurd rfl c, fun _ => hl,
        fun c => absurd c (by simp [hlive]), fun _ => hl⟩
    | false =>
      rw [State.joinSupply_heldOut ho hheld hadmits]
      have hserves : (s.putOfftake i (some { o with supply := .shed })).Serves (i :: s.listed) := by
        refine h.put ho ?_ (fun _ => .inl hl) (h.lists.cons i (fun j hj => State.offtake_putOfftake_ne s _ hj)
          (by simp [State.shedIn, ho, hheld]) ⟨_, State.offtake_putOfftake_self ho _, rfl⟩)
        obtain ⟨hnone, hsome, hsupply⟩ := Offtake.linkOk_iff.mp (h.records i o ho)
        exact Offtake.linkOk_iff.mpr ⟨hnone, hsome, fun _ => hl, fun _ => hsupply.grant_zero (by simp [hheld]),
          fun _ => hl, fun c => absurd c (by simp [hlive]), fun _ => hl⟩
      refine (hserves.same (by simp) (by simp) (by simp)).perm ?_
      exact State.listed_perm_appendedTop [i] (by rw [State.appendTop_eq]; rfl) (by simp)
        (State.stack_ne_nil hadmits)
  · rwa [State.joinSupply_other ho hheld]

/-- The laws of service hold of what they read (`serviceView`). -/
theorem view (h : s.serviceOk) (hview : t.serviceView = s.serviceView) : t.serviceOk := by
  simp only [State.serviceView, Prod.mk.injEq] at hview
  obtain ⟨hslots, hqueue, hexchange, hstack, hreadmission⟩ := hview
  exact of_serves ((State.serviceOk_iff.mp h).same hslots hqueue hexchange) hstack hreadmission

theorem touch (h : s.serviceOk) (i : Nat) (f : Offtake → Offtake)
    (hf : ∀ o, (f o).linkFields = o.linkFields := by exact fun _ => rfl) : (s.modOfftake i f).serviceOk :=
  of_serves ((State.serviceOk_iff.mp h).touch i f hf) (by simp) (by simp)

theorem touchAll (h : s.serviceOk) (f : Offtake → Offtake) (hslots : t.slots = s.slots.map (Option.map f))
    (hqueue : t.setpointQueue = s.setpointQueue) (hexchange : t.exchange = s.exchange) (hstack : t.stack = s.stack)
    (hreadmission : t.readmission = s.readmission)
    (hf : ∀ o, (f o).linkFields = o.linkFields := by exact fun _ => rfl) : t.serviceOk :=
  of_serves ((State.serviceOk_iff.mp h).touchAll f hslots hqueue hexchange hf) hstack hreadmission

theorem rewrite (h : s.serviceOk) {i : Nat} {o o' : Offtake} (ho : s.offtake i = some o) (hok : o.linkOk → o'.linkOk)
    (hlinked : o.linked = true → o'.linked = true ∨ ∀ e ∈ s.setpointQueue, e.slot ≠ i)
    (hshed : o'.supply = .shed ↔ o.supply = .shed) : (s.putOfftake i (some o')).serviceOk :=
  of_serves ((State.serviceOk_iff.mp h).rewrite ho hok hlinked hshed) rfl rfl

/-- A record is rewritten in fields that the laws do not read. -/
theorem rewrite_same (h : s.serviceOk) {i : Nat} {o o' : Offtake} (ho : s.offtake i = some o)
    (hfields : o'.linkFields = o.linkFields) : (s.putOfftake i (some o')).serviceOk := by
  have hok := Offtake.linkOk_congr hfields
  simp only [Offtake.linkFields, Prod.mk.injEq] at hfields
  obtain ⟨hlink, _, _, hsupply, _⟩ := hfields
  exact h.rewrite ho hok (fun hl => .inl (by rwa [Offtake.linked, hlink])) (by rw [hsupply])

theorem rewrite_unlinked (h : s.serviceOk) {i : Nat} {o o' : Offtake} (ho : s.offtake i = some o)
    (hl : o.linked = false) (hok : o.SupplyOk → o'.linkOk) (hsupply : o'.supply = o.supply) :
    (s.putOfftake i (some o')).serviceOk :=
  of_serves ((State.serviceOk_iff.mp h).rewrite_unlinked ho hl hok hsupply) rfl rfl

theorem raise (h : s.serviceOk) (k : NoticeKind) (n : Nat) : (s.raise k n).serviceOk := h.view rfl

theorem leaveLinked (h : s.serviceOk) (i : Nat) : (s.leaveLinked i).serviceOk :=
  of_serves ((State.serviceOk_iff.mp h).leaveLinked i) (by rw [State.leaveLinked_frame]) (by rw [State.leaveLinked_frame])

theorem enterQuiet (h : s.serviceOk) (i : Nat) : (s.enterQuiet i).serviceOk :=
  of_serves ((State.serviceOk_iff.mp h).enterQuiet i) (by rw [State.enterQuiet_frame]) (by rw [State.enterQuiet_frame])

theorem linkLoss (h : s.serviceOk) (i : Nat) : (s.linkLoss i).serviceOk := (h.enterQuiet i).raise _ _

end State.serviceOk

end Sys2Proof.Machine
end

section
/-! ## The events of the offtake link keep the laws of service -/

namespace Sys2Proof.Machine

open Sys2Proof

/-- A resolved mode is a permitted one (R33). -/
theorem resolveMode_permitted {o : Offtake} {a : AdvertData} {m : Mode} (h : resolveMode o a = some m) :
    modeIn m o.permitted = true := by
  unfold resolveMode at h
  split at h
  · next m' hfind =>
    rw [highestCommon] at hfind
    split at h
    · cases h
    · cases h
      have hboth := List.find?_some hfind
      rw [Bool.and_eq_true] at hboth
      exact hboth.1
  · cases h

/-- With one entry for a slot, its attempts are the slot's (R46). -/
theorem State.attempts_eq {s : State} {e : SetpointEntry} (hnodup : (s.setpointQueue.map (·.slot)).Nodup)
    (he : e ∈ s.setpointQueue) : s.attempts e.slot = e.attempts := by
  cases hfind : s.setpointQueue.find? (·.slot = e.slot) with
  | none => exact absurd (List.find?_eq_none.mp hfind e he) (by simp)
  | some x =>
    have hx : x = e := List.inj_on_of_nodup_map hnodup (List.mem_of_find?_eq_some hfind) he
      (by simpa using List.find?_some hfind)
    rw [State.attempts, hfind, hx]
    rfl

/-- A slot whose acknowledgement is waited for has a linked record (R46, R50). -/
theorem State.QueueLawful.linkedAt {s : State} (h : s.QueueLawful) {i : Nat} (hi : s.exchanging i) : s.linkedAt i := by
  obtain ⟨e, he, rfl⟩ := h.2.2 i hi
  exact (h.1.2.1 e he).1

/-- With no exchange in flight, no acknowledgement is waited for. -/
theorem State.not_exchanging {s : State} (h : s.exchange = none) (j : Nat) : ¬ s.exchanging j := by
  rintro ⟨addr, sent, hx⟩
  rw [h] at hx
  cases hx

theorem State.exchange_eq_none {s : State} (h : ¬ s.exchange.isSome = true) : s.exchange = none := by
  simpa using h

theorem State.exchanging_iff {s : State} {i addr sent : Nat} (h : s.exchange = some (.setpoint i addr sent false)) (j : Nat) :
    s.exchanging j ↔ j = i := by
  simp [State.exchanging, h, eq_comm]

theorem State.not_exchanging_poll {s : State} {i addr : Nat} {freed : Bool} (h : s.exchange = some (.poll i addr freed))
    (j : Nat) : ¬ s.exchanging j := by simp [State.exchanging, h]

theorem State.not_exchanging_abandoned {s : State} {i addr sent : Nat} (h : s.exchange = some (.setpoint i addr sent true))
    (j : Nat) : ¬ s.exchanging j := by simp [State.exchanging, h]

/-- A record that has left the link, back in LISTEN (R40). -/
def Offtake.backToListen (o : Offtake) : Offtake :=
  { o.withMode none with link := .listen, call := 0, trip := false, legacyRun := 0, silenceMs := 0 }

namespace State.serviceOk

variable {s t : State}

/-- The exchange in flight is none that a slot waits for, and is so after. -/
theorem exchange (h : s.serviceOk) (hs : ∀ j, ¬ s.exchanging j) (ht : ∀ j, ¬ t.exchanging j) (hslots : t.slots = s.slots)
    (hqueue : t.setpointQueue = s.setpointQueue) (hstack : t.stack = s.stack) (hreadmission : t.readmission = s.readmission) :
    t.serviceOk :=
  of_serves ((State.serviceOk_iff.mp h).congr (fun j => by rw [State.offtake_of_slots hslots]) hqueue
    fun j => iff_of_false (ht j) (hs j)) hstack hreadmission

theorem quietExpiry (h : s.serviceOk) (i : Nat) : (s.quietExpiry i).serviceOk := by
  unfold State.quietExpiry
  repeat' split
  · exact h
  · next o ho hl =>
    have hunlinked : o.linked = false := by rw [Offtake.linked, hl]; rfl
    have hmode := (h.1 i o ho).1 (.inl hl)
    rw [State.modOfftake_eq ho]
    exact h.rewrite_unlinked ho hunlinked (fun hok => Offtake.linkOk_unlinked hok hunlinked rfl rfl rfl rfl rfl
      (fun _ => hmode) fun c => absurd c (by simp)) rfl
  · exact h

theorem silenceExpiry (h : s.serviceOk) (i : Nat) : (s.silenceExpiry i).serviceOk := by
  unfold State.silenceExpiry
  repeat' split
  · exact h
  · exact h
  · exact h.touch i _
  all_goals exact h.linkLoss i

/-! ### Exchanges -/

theorem beginPoll (h : s.serviceOk) : s.beginPoll.serviceOk := by
  unfold State.beginPoll
  repeat' split
  · exact h
  · exact h
  · exact h
  · next hidle _ i _ _ o _ =>
    have hnone := State.exchange_eq_none (s := s) fun c => hidle (by simp [c])
    exact h.exchange (State.not_exchanging hnone) (State.not_exchanging_poll rfl) rfl rfl rfl rfl

theorem pollEnded {i a : Nat} {freed : Bool} (h : s.serviceOk) (hpoll : s.exchange = some (.poll i a freed)) :
    s.pollEnded.serviceOk :=
  h.exchange (State.not_exchanging_poll hpoll) (State.not_exchanging rfl) rfl rfl rfl rfl

theorem abandonedEnded {i addr sent : Nat} (h : s.serviceOk) (hx : s.exchange = some (.setpoint i addr sent true)) :
    s.setpointEnded.serviceOk :=
  h.exchange (State.not_exchanging_abandoned hx) (State.not_exchanging rfl) rfl rfl rfl rfl

theorem pollTimedOut (h : s.serviceOk) : s.pollTimedOut.serviceOk := by
  unfold State.pollTimedOut
  split
  · next hpoll => exact h.pollEnded hpoll
  · exact h
  · exact h

/-- The entry at the head of the queue is sent (R50). -/
theorem setpointBegun {e : SetpointEntry} {rest : List SetpointEntry} {addr sent : Nat} (h : s.serviceOk)
    (hidle : s.exchange = none) (hqueue : s.setpointQueue = e :: rest) (hslots : t.slots = s.slots)
    (hqueue' : t.setpointQueue = { e with inFlight := true } :: rest)
    (hexchange : t.exchange = some (.setpoint e.slot addr sent false)) (hstack : t.stack = s.stack)
    (hreadmission : t.readmission = s.readmission) : t.serviceOk := by
  have hserves := State.serviceOk_iff.mp h
  obtain ⟨hnodup, hentries, hcloses⟩ := hserves.queue.1
  have hoff := State.offtake_of_slots hslots
  have he : e ∈ s.setpointQueue := by simp [hqueue]
  have hrest : s.setpointQueue.filter (·.slot ≠ e.slot) = rest := by
    rw [hqueue, List.map_cons, List.nodup_cons] at hnodup
    rw [hqueue, List.filter_cons_of_neg (by simp), List.filter_eq_self]
    intro x hx
    have hne : x.slot ≠ e.slot := fun c => hnodup.1 (c ▸ List.mem_map_of_mem (f := (·.slot)) hx)
    simpa using hne
  refine of_serves ⟨fun j o ho => hserves.records j o (hoff j ▸ ho), ?_,
    hserves.lists.congr fun j => State.shedIn_congr (hoff j)⟩ hstack hreadmission
  refine hserves.queue.enqueue { e with inFlight := true } (by rw [hqueue', hrest]) ?_ (hentries e he).2 ?_ ?_ hoff
    (hentries e he).1
  · rw [hqueue', List.pairwise_cons]
    rwa [hqueue, List.pairwise_cons] at hcloses
  · simp [State.exchanging_iff hexchange]
  · intro j hj
    exact iff_of_false (by simpa [State.exchanging_iff hexchange] using hj) (State.not_exchanging hidle j)

theorem beginSetpoint (h : s.serviceOk) : s.beginSetpoint.serviceOk := by
  unfold State.beginSetpoint
  repeat' split
  · exact h
  · exact h
  · exact h
  · next hidle _ e rest hqueue _ o _ =>
    exact h.setpointBegun (State.exchange_eq_none fun c => hidle (by simp [c])) hqueue rfl rfl rfl rfl rfl

/-- A failed attempt that is not the third (R53). -/
theorem attemptFailed {i addr sent : Nat} (h : s.serviceOk) (hx : s.exchange = some (.setpoint i addr sent false))
    (hfew : s.attempts i < 2) (hslots : t.slots = s.slots) (hexchange : t.exchange = none) (hstack : t.stack = s.stack)
    (hreadmission : t.readmission = s.readmission)
    (hqueue : t.setpointQueue = s.setpointQueue.map fun e =>
      if e.slot = i then { e with attempts := e.attempts + 1, inFlight := false } else e) : t.serviceOk := by
  obtain ⟨hrecords, ⟨hnodup, hentries, hcloses⟩, ⟨hmarks, _⟩, hlists⟩ := h
  have hslot : ∀ e : SetpointEntry,
      (if e.slot = i then { e with attempts := e.attempts + 1, inFlight := false } else e).slot = e.slot := by
    intro e
    split <;> rfl
  have hclose : ∀ e : SetpointEntry,
      (if e.slot = i then { e with attempts := e.attempts + 1, inFlight := false } else e).close = e.close := by
    intro e
    split <;> rfl
  have hoff := State.offtake_of_slots hslots
  refine ⟨fun j o ho => hrecords j o (hoff j ▸ ho), ⟨?_, fun e he => ?_, ?_⟩, ⟨fun e he => ?_, fun j hj => ?_⟩, ?_⟩
  · rw [hqueue, List.map_map]
    exact (List.map_congr_left fun e _ => hslot e) ▸ hnodup
  · rw [hqueue] at he
    obtain ⟨x, hmem, rfl⟩ := List.mem_map.mp he
    rw [hslot, hoff]
    refine ⟨(hentries x hmem).1, ?_⟩
    split
    · next hi =>
      have := State.attempts_eq hnodup hmem
      rw [hi] at this
      show x.attempts + 1 ≤ 2
      omega
    · exact (hentries x hmem).2
  · rw [hqueue, List.pairwise_map]
    simpa only [hclose] using hcloses
  · rw [hqueue] at he
    obtain ⟨x, hmem, rfl⟩ := List.mem_map.mp he
    refine iff_of_false ?_ (State.not_exchanging hexchange _)
    split
    · simp
    · next hi =>
      rw [hmarks x hmem, State.exchanging_iff hx]
      exact hi
  · exact absurd hj (State.not_exchanging hexchange j)
  · have hlisted := State.listed_of_lists hstack hreadmission
    rw [State.listsOk, hlisted]
    exact ⟨hlists.1, fun j => by rw [hlists.2, hoff]⟩

/-- The third failed attempt, or any other link loss while the slot's acknowledgement is waited for (R38, R53). -/
theorem linkLossEnded {i addr sent : Nat} (h : s.serviceOk) (hx : s.exchange = some (.setpoint i addr sent false)) :
    (s.setpointEnded.linkLoss i).serviceOk := by
  have hserves := State.serviceOk_iff.mp h
  have hlinked : s.linkedAt i := hserves.queue.linkedAt ((State.exchanging_iff hx i).mpr rfl)
  have hself : ∀ o, s.setpointEnded.offtake i = some o → o.SupplyOk := fun o ho => (hserves.records i o ho).supplyOk
  have hlists : s.setpointEnded.Lists s.listed := hserves.lists
  have hqueue : (s.setpointEnded.enterQuiet i).QueueLawful := by
    refine hserves.queue.unqueue i (State.enterQuiet_setpointQueue (s := s.setpointEnded) hlinked) (fun j => ?_)
      fun j hj => State.offtake_enterQuiet_ne s.setpointEnded hj.symm
    rw [State.exchanging_enterQuiet (s := s.setpointEnded) hlinked, State.exchanging_iff hx]
    simp [State.not_exchanging (s := s.setpointEnded) rfl]
  have hquieted : (s.setpointEnded.enterQuiet i).Serves s.listed :=
    ⟨State.Serves.records_enterQuiet (fun j o _ => hserves.records j o) hself, hqueue,
      State.Serves.lists_enterQuiet hlists hself⟩
  have hquiet : (s.setpointEnded.enterQuiet i).serviceOk :=
    of_serves hquieted (by rw [State.enterQuiet_frame]; rfl) (by rw [State.enterQuiet_frame]; rfl)
  exact hquiet.raise .linkDown i

theorem failAttempt (h : s.serviceOk) : s.failAttempt.serviceOk := by
  unfold State.failAttempt
  split
  · next hx =>
    dsimp only
    split
    · exact h.linkLossEnded hx
    · next hfew => exact h.attemptFailed hx (Nat.lt_of_not_le hfew) rfl rfl rfl rfl rfl
  · next hx => exact h.abandonedEnded hx
  · exact h
  · exact h

/-- A valid acknowledgement (R52). -/
theorem acknowledge {i addr v : Nat} (h : s.serviceOk) (hx : s.exchange = some (.setpoint i addr v false)) :
    (s.acknowledge i v).serviceOk := by
  have hserves := State.serviceOk_iff.mp h
  obtain ⟨o, ho, hl⟩ : s.linkedAt i := hserves.queue.linkedAt ((State.exchanging_iff hx i).mpr rfl)
  have hended : ((s.setpointEnded.modOfftake i fun o => { o with ackGrant := v }).dropEntry i).Serves s.listed := by
    have hoff : ∀ j, ((s.setpointEnded.modOfftake i fun o => { o with ackGrant := v }).dropEntry i).offtake j
        = if i = j then (s.offtake j).map fun o => { o with ackGrant := v } else s.offtake j := fun j => by
      rw [State.offtake_dropEntry, State.offtake_modOfftake]
      rfl
    have hothers : ∀ j, j ≠ i → ((s.setpointEnded.modOfftake i fun o => { o with ackGrant := v }).dropEntry i).offtake j
        = s.offtake j := fun j hj => by rw [hoff, if_neg hj.symm]
    refine ⟨State.everyRecord_of_slot i hserves.records hothers fun x hx => ?_,
      hserves.queue.unqueue i ?_ (fun j => ?_) hothers, hserves.lists.record i hothers ?_⟩
    · rw [hoff, if_pos rfl, ho] at hx
      cases hx
      obtain ⟨hnone, hsome, hsupply⟩ := Offtake.linkOk_iff.mp (hserves.records i o ho)
      exact Offtake.linkOk_iff.mpr ⟨hnone, hsome, hsupply.active_linked, hsupply.grant_zero, hsupply.retiring_linked,
        hsupply.retiring_supply, fun _ => hl⟩
    · simp [State.dropEntry, State.setpointEnded]
    · rw [State.exchanging_iff hx]
      exact iff_of_false (State.not_exchanging (by simp [State.setpointEnded]) j) fun c => c.1 c.2
    · simp [State.shedIn, hoff, ho]
  unfold State.acknowledge
  rw [ho]
  dsimp only
  split
  · next hfreed =>
    have hnot := (hserves.records i o ho).supplyOk.retiring_supply (Bool.and_eq_true_iff.mp hfreed).1
    refine of_serves (hended.free (hserves.not_listed ho hnot.2)) ?_ ?_
    · rw [State.free_frame]; simp [State.setpointEnded]
    · rw [State.free_frame]; simp [State.setpointEnded]
  · exact of_serves (hended.handGrant i) (by simp [State.setpointEnded]) (by simp [State.setpointEnded])

theorem takeAck (h : s.serviceOk) (m : LinkMsg) : (s.takeAck m).serviceOk := by
  unfold State.takeAck
  repeat' split
  · next hx _ => exact h.acknowledge hx
  · exact h.failAttempt
  · next hx => exact h.abandonedEnded hx
  · next hpoll => exact h.pollEnded hpoll
  · exact h

/-! ### Replies -/

theorem takeReply {α : Type} (h : s.serviceOk) (addr : Byte) (data : Option α) (f : State → Nat → α → State)
    (hf : ∀ t i d, t.serviceOk → (f t i d).serviceOk) : (s.takeReply addr data f).serviceOk := by
  unfold State.takeReply
  split
  · next hpoll =>
    have hended := h.pollEnded hpoll
    split
    · exact hf _ _ _ hended
    · exact hended
    · exact hended
  · exact h.failAttempt
  · exact h

/-- An advert resolved by a record that is not linked (R34). -/
theorem listenAdvert (h : s.serviceOk) {i : Nat} {o : Offtake} (ho : s.offtake i = some o) (hl : o.linked = false)
    (a : AdvertData) : (s.listenAdvert i a).serviceOk := by
  cases hm : resolveMode o a with
  | some m =>
    rw [State.listenAdvert_resolved ho hm]
    exact h.rewrite_unlinked ho hl (fun hok => Offtake.linkOk_unlinked hok hl rfl rfl rfl rfl rfl
      (fun c => absurd c (by simp [Offtake.resolved])) fun _ => ⟨m, rfl, resolveMode_permitted hm⟩) rfl
  | none =>
    have hfailed : (s.putOfftake i (some (o.unresolved a))).serviceOk :=
      h.rewrite_unlinked ho hl (fun hok => Offtake.linkOk_unlinked hok hl rfl rfl rfl rfl rfl (fun _ => rfl)
        fun c => absurd c (by simp [Offtake.unresolved])) rfl
    rw [State.listenAdvert_unresolved ho hm]
    split
    · exact hfailed
    · exact hfailed.raise _ _

/-- A record that has just become linked joins supply. -/
theorem bindAndJoin (h : s.serviceOk) {i : Nat} {o o' : Offtake} (ho : s.offtake i = some o) (hl : o.linked = false)
    (hl' : o'.linked = true) (hmode : ∃ m, o'.mode = some m ∧ modeIn m o'.permitted = true)
    (hsupply : o'.supply = o.supply) (hgrant : o'.grant = o.grant) (hretiring : o'.retiring = o.retiring) :
    ((s.putOfftake i (some o')).joinSupply i).serviceOk := by
  obtain ⟨_, hgrant0, hlive, _⟩ := (h.1 i o ho).supplyOk.unlinked hl
  have hput : (s.putOfftake i (some o')).serviceOk := by
    refine h.rewrite_unlinked ho hl (fun _ => Offtake.linkOk_iff.mpr ⟨fun c => ?_, fun _ => hmode, ?_⟩) hsupply
    · rcases c with c | c <;> simp [Offtake.linked, c, LinkState.linked] at hl'
    · exact ⟨fun _ => hl', fun _ => hgrant.trans hgrant0, fun _ => hl', fun c => absurd c (by simp [hretiring, hlive]),
        fun _ => hl'⟩
  exact hput.joinSupply (State.offtake_putOfftake_self ho o') hl' (hretiring.trans hlive)

theorem confirmAdvert (h : s.serviceOk) {i : Nat} {o : Offtake} (ho : s.offtake i = some o) (hl : o.link = .confirm)
    (a : AdvertData) : (s.confirmAdvert i o a).serviceOk := by
  have hunlinked : o.linked = false := by rw [Offtake.linked, hl]; rfl
  have hmode := (h.1 i o ho).2.1 (.inl hl)
  unfold State.confirmAdvert
  repeat' split
  · exact h.bindAndJoin ho hunlinked rfl hmode rfl rfl rfl
  · exact h.rewrite_same ho rfl
  · exact h.rewrite_same ho rfl
  · have hback : (s.putOfftake i (some o.differed)).serviceOk :=
      h.rewrite_unlinked ho hunlinked (fun hok => Offtake.linkOk_unlinked hok hunlinked rfl rfl rfl rfl rfl (fun _ => rfl)
        fun c => absurd c (by simp [Offtake.differed])) rfl
    exact hback.listenAdvert (State.offtake_putOfftake_self ho _) rfl a

theorem boundAdvert (h : s.serviceOk) {i : Nat} {o : Offtake} (ho : s.offtake i = some o) (a : AdvertData) :
    (s.boundAdvert i a).serviceOk := by
  have hleft := h.leaveLinked i
  unfold State.boundAdvert
  dsimp only
  cases hr : o.retiring with
  | true =>
    have hgone := State.leaveLinked_retiring ho hr
    rwa [State.modOfftake_none hgone, State.listenAdvert_none hgone]
  | false =>
    obtain ⟨x, hx, hactive, hlive, hack⟩ : ∃ x, (s.leaveLinked i).offtake i = some x ∧ x.supply ≠ .active
        ∧ x.retiring = false ∧ x.ackGrant = 0 := by
      refine ⟨_, State.leaveLinked_self ho hr, ?_, hr, rfl⟩
      by_cases hs : o.supply = .active <;> simp [hs]
    have hunqueued : ∀ e ∈ (s.leaveLinked i).setpointQueue, e.slot ≠ i := by
      rw [State.leaveLinked_setpointQueue ho]
      simp
    have hback : ((s.leaveLinked i).putOfftake i (some x.backToListen)).serviceOk := by
      refine hleft.rewrite hx (fun hok => ?_) (fun _ => .inr hunqueued) Iff.rfl
      have hgrant := hok.supplyOk.grant_zero hactive
      exact Offtake.linkOk_iff.mpr ⟨fun _ => rfl,
        fun c => absurd c (by simp [Offtake.backToListen, Offtake.linked, LinkState.linked]),
        fun c => absurd c hactive, fun _ => hgrant,
        fun c => absurd c (by simp [Offtake.backToListen, Offtake.withMode, hlive]), hok.supplyOk.retiring_supply, fun c => absurd hack c⟩
    rw [State.modOfftake_eq hx]
    exact hback.listenAdvert (State.offtake_putOfftake_self hx _) rfl a

theorem takeAdvert (t : State) (i : Nat) (a : AdvertData) (h : t.serviceOk) : (t.takeAdvert i a).serviceOk := by
  unfold State.takeAdvert
  split
  · exact h
  · next o ho =>
    split
    · next hl => exact h.listenAdvert ho (by rw [Offtake.linked, hl]; rfl) _
    · next hl => exact h.confirmAdvert ho hl _
    · exact h.boundAdvert ho _
    · exact h.boundAdvert ho _
    · exact h

theorem takeStatus (t : State) (i : Nat) (c : CallData) (h : t.serviceOk) : (t.takeStatus i c).serviceOk := by
  unfold State.takeStatus
  split
  · exact h.touch i (Offtake.called c)
  · exact h

theorem listenLegacy (h : s.serviceOk) {i : Nat} {o : Offtake} (ho : s.offtake i = some o) (hl : o.link = .listen)
    (c : CallData) : (s.listenLegacy i o c).serviceOk := by
  have hunlinked : o.linked = false := by rw [Offtake.linked, hl]; rfl
  have hmode := (h.1 i o ho).1 (.inr hl)
  unfold State.listenLegacy
  dsimp only
  repeat' split
  · exact h.rewrite_same ho rfl
  · next hpermitted => exact h.bindAndJoin ho hunlinked rfl ⟨_, rfl, hpermitted⟩ rfl rfl rfl
  · exact h.rewrite_same ho rfl
  · refine raise (h.rewrite_same ho ?_) _ _
    rfl

theorem takeLegacy (t : State) (i : Nat) (c : CallData) (h : t.serviceOk) : (t.takeLegacy i c).serviceOk := by
  unfold State.takeLegacy
  split
  · exact h
  · next o ho =>
    split
    · next hl => exact h.listenLegacy ho hl c
    · exact h.touch i (Offtake.called c)
    all_goals exact h

end State.serviceOk

end Sys2Proof.Machine
end

section
/-! ## Metering, curtailment and the pass keep the laws of service -/

namespace Sys2Proof.Machine

open Sys2Proof

/-! ### What leaves the service of records as it is -/

@[simp] theorem State.serviceView_setPort (s : State) (p : PortId) (q : Port) :
    (s.setPort p q).serviceView = s.serviceView := by cases p <;> rfl

@[simp] theorem State.serviceView_raise (s : State) (k : NoticeKind) (n : Nat) :
    (s.raise k n).serviceView = s.serviceView := rfl

@[simp] theorem State.serviceView_modAccount (s : State) (n : Nat) (f : Account → Account) :
    (s.modAccount n f).serviceView = s.serviceView := by
  unfold State.modAccount
  split <;> rfl

@[simp] theorem State.serviceView_bindCount (s : State) (n : Option Nat) : (s.bindCount n).serviceView = s.serviceView := by
  cases n with
  | none => rfl
  | some k => exact s.serviceView_modAccount k _

@[simp] theorem State.serviceView_unbindCount (s : State) (n : Option Nat) :
    (s.unbindCount n).serviceView = s.serviceView := by
  cases n with
  | none => rfl
  | some k => exact s.serviceView_modAccount k _

@[simp] theorem State.serviceView_setExport (s : State) (n : Option Nat) :
    (s.setExport n).serviceView = s.serviceView := by
  unfold State.setExport
  split
  · rfl
  · exact (State.serviceView_bindCount _ _).trans ((State.serviceView_unbindCount _ _).trans rfl)

@[simp] theorem State.serviceView_repriceBand (s : State) (n : Nat) (b : Band) :
    (s.repriceBand n b).serviceView = s.serviceView := by
  unfold State.repriceBand
  dsimp only
  repeat' split
  all_goals simp

@[simp] theorem State.serviceView_markEstimated (s : State) (n : Nat) (est : Bool) :
    (s.markEstimated n est).serviceView = s.serviceView := s.serviceView_modAccount n _

@[simp] theorem State.serviceView_carry (s : State) (n amount : Nat) : (s.carry n amount).serviceView = s.serviceView := by
  unfold State.carry State.raiseCarry
  dsimp only
  repeat' split
  all_goals simp

@[simp] theorem State.serviceView_feedAccount (s : State) (n : Nat) : (s.feedAccount n).serviceView = s.serviceView := by
  unfold State.feedAccount State.feedExport State.feedRecords
  dsimp only
  repeat' split
  all_goals simp

@[simp] theorem State.serviceView_judgeReserve (s : State) (g : Grade) :
    (s.judgeReserve g).serviceView = s.serviceView := by
  unfold State.judgeReserve
  dsimp only
  split <;> rfl

@[simp] theorem State.serviceView_takeSample (s : State) (d : SampleData) :
    (s.takeSample d).serviceView = s.serviceView := by
  unfold State.takeSample
  dsimp only
  repeat' split
  all_goals rfl

@[simp] theorem State.serviceView_ageExpiry (s : State) (c : Nat) : (s.ageExpiry c).serviceView = s.serviceView := by
  unfold State.ageExpiry
  dsimp only
  repeat' split
  all_goals rfl

@[simp] theorem State.serviceView_staleExpiry (s : State) (c : Nat) : (s.staleExpiry c).serviceView = s.serviceView := by
  unfold State.staleExpiry
  repeat' split
  all_goals rfl

/-- What each step of a fold keeps, the fold keeps. -/
theorem State.serviceOk.foldl {α : Type} {f : State → α → State} (hf : ∀ t a, t.serviceOk → (f t a).serviceOk)
    (l : List α) {s : State} (h : s.serviceOk) : (l.foldl f s).serviceOk := by
  induction l generalizing s with
  | nil => exact h
  | cons a l ih => exact ih (hf s a h)

/-! ### The draw monitor (R55 to R59) -/

namespace State.serviceOk

variable {s : State}

/-- A record that is cut leaves every list (R57). -/
theorem cutRecord (h : s.serviceOk) (i : Nat) : (s.cutRecord i).serviceOk := by
  have hserves := State.serviceOk_iff.mp h
  have hwithdrawn : (s.withdraw i .cut).Serves (s.listed.filter (· ≠ i)) := by
    refine hserves.withdraw i (by simp) (fun _ _ _ => by simp) (hserves.lists.filter i (fun j hj => ?_) ?_)
    · rw [State.offtake_withdraw, if_neg hj.symm]
    · rintro ⟨o, ho, hs⟩
      rw [State.offtake_withdraw, if_pos rfl, Option.map_eq_some_iff] at ho
      obtain ⟨x, _, rfl⟩ := ho
      cases hs
  have htouched := hwithdrawn.touch i fun o => { o with overdrawTimer := 0, idleTimer := 0 }
  unfold State.cutRecord
  refine raise ?_ .cut i
  rw [State.serviceOk_iff, State.listed_unlist, State.listed_of_lists (s := s) (by rw [State.modOfftake_stack, State.withdraw_frame])
    (by rw [State.modOfftake_readmission, State.withdraw_frame])]
  exact htouched.same rfl rfl rfl

/-- A CUT record is released: freed, or HELD or locked out and on its way into QUIET (R59). -/
theorem releaseIdle (h : s.serviceOk) {i : Nat} (hcut : ∀ o, s.offtake i = some o → o.supply = .cut) :
    (s.releaseIdle i).serviceOk := by
  unfold State.releaseIdle
  split
  · next o ho =>
    have hs := hcut o ho
    split
    · have hserves := State.serviceOk_iff.mp h
      exact of_serves (hserves.free (hserves.not_listed ho (by simp [hs]))) (by rw [State.free_frame])
        (by rw [State.free_frame])
    · refine enterQuiet ?_ i
      have hreleased : ∀ (n : Nat) (st : Supply), st = .lockout ∨ st = .held →
          (s.putOfftake i (some { o with idleTimer := 0, overdrawCount := n, supply := st })).serviceOk := by
        intro n st hst
        refine h.rewrite ho (fun hok => ?_) (fun hl => .inl hl) ?_
        · obtain ⟨hnone, hsome, hsupply⟩ := Offtake.linkOk_iff.mp hok
          have hgrant := hsupply.grant_zero (by simp [hs])
          have hother : st ≠ .active ∧ st ≠ .shed := by rcases hst with rfl | rfl <;> simp
          exact Offtake.linkOk_iff.mpr ⟨hnone, hsome, fun c => absurd c hother.1, fun _ => hgrant,
            hsupply.retiring_linked, fun _ => hother, hsupply.ack_linked⟩
        · rcases hst with rfl | rfl <;> simp [hs]
      rw [State.modOfftake_eq ho]
      split
      · exact (hreleased _ _ (by simp)).raise _ _
      · exact hreleased _ _ (by simp)
  · exact h

theorem superviseDraw (h : s.serviceOk) (i : Nat) (o : Offtake) : (s.superviseDraw i o).serviceOk := by
  unfold State.superviseDraw
  dsimp only
  repeat' split
  · exact h.touch i _
  · exact h.touch i _
  · exact (h.touch i _).cutRecord i
  · exact h.touch i _

theorem superviseIdle (h : s.serviceOk) {i : Nat} {o : Offtake} (ho : s.offtake i = some o) (hcut : o.supply = .cut) :
    (s.superviseIdle i o).serviceOk := by
  have hcleared := h.touch i fun o => { o with overdrawTimer := 0 }
  unfold State.superviseIdle
  dsimp only
  repeat' split
  · exact hcleared
  · exact hcleared
  · exact hcleared.touch i _
  · refine (hcleared.touch i _).releaseIdle fun x hx => ?_
    simp only [State.offtake_modOfftake, if_true, ho, Option.map_some, Option.some.injEq] at hx
    rw [← hx]
    exact hcut
  · exact hcleared.touch i _

theorem supervise (t : State) (i : Nat) (h : t.serviceOk) : (t.supervise i).serviceOk := by
  unfold State.supervise
  split
  · exact h
  · next o ho =>
    split
    · exact h.superviseDraw i o
    · exact h.superviseDraw i o
    · next hcut => exact h.superviseIdle ho hcut
    · exact h.touch i _
    · exact h.touch i _

theorem meteringTick (h : s.serviceOk) : s.meteringTick.serviceOk := by
  have hmeasured : s.measure.serviceOk := h.touchAll s.measured rfl rfl rfl rfl rfl
  have hfed := foldl (f := State.feedAccount) (fun t n ht => ht.view (State.serviceView_feedAccount t n))
    s.measure.accountNumbers hmeasured
  have hsupervised := foldl supervise slotNumbers hfed
  unfold State.meteringTick
  dsimp only
  generalize slotNumbers.foldl State.supervise _ = u at hsupervised ⊢
  exact hsupervised.view rfl

theorem cutSlot (h : s.serviceOk) (i : Nat) : (s.cutSlot i).serviceOk := by
  unfold State.cutSlot
  repeat' split
  · exact h.cutRecord i
  · exact h
  · exact h

theorem idleSlot (h : s.serviceOk) (i : Nat) : (s.idleSlot i).serviceOk := by
  unfold State.idleSlot
  split
  · next o ho =>
    split
    · next hcut =>
      refine h.releaseIdle fun x hx => ?_
      rw [ho] at hx
      cases hx
      exact hcut
    · exact h
  · exact h

end State.serviceOk

/-! ### Sheds and the curtailment stack (R141, R142, R147, R151) -/

namespace State.Serves

variable {s : State} {L : List Nat}

/-- A record that is shed waits to be listed (R141). -/
theorem shed (h : s.Serves L) {i : Nat} (hi : s.isActive i = true) : (s.shed i).Serves (i :: L) := by
  obtain ⟨o, ho, hactive⟩ := State.isActive_iff.mp hi
  refine h.withdraw i (by simp) (fun x hx hr => ?_) (h.lists.cons i (fun j hj => ?_) ?_ ?_)
  · obtain rfl : o = x := Option.some.inj (ho.symm.trans hx)
    exact absurd hactive ((h.records i o ho).supplyOk.retiring_supply hr).1
  · rw [State.offtake_withdraw, if_neg hj.symm]
  · simp [State.shedIn, ho, hactive]
  · exact ⟨_, State.withdraw_self ho .shed, rfl⟩

theorem shedEach (is : List Nat) : ∀ {s : State} {L : List Nat}, s.Serves L →
    (s.shedEach is).1.Serves ((s.shedEach is).2 ++ L) := by
  induction is with
  | nil => intro s L h; exact h
  | cons i is ih =>
    intro s L h
    unfold State.shedEach
    split
    · next hi => exact (ih (h.shed hi)).perm List.perm_middle.symm
    · exact ih h

theorem shedAt (h : s.Serves L) (level : Nat) (is : List Nat) :
    (s.shedAt level is).Serves ((s.shedEach is).2 ++ s.sweptSlots level (s.shedEach is).2 ++ L) := by
  have hswept := shedEach (s.sweptSlots level (s.shedEach is).2) (shedEach is h)
  rw [shedEach_swept] at hswept
  refine hswept.perm ?_
  rw [List.append_assoc]
  exact List.perm_append_comm_assoc _ _ _

end State.Serves

theorem insertByClass_perm (prio : Nat → Nat) (i : Nat) (js : List Nat) : (insertByClass prio i js).Perm (i :: js) := by
  induction js with
  | nil => exact List.Perm.refl _
  | cons j js ih =>
    unfold insertByClass
    split
    · exact List.Perm.refl _
    · exact (ih.cons j).trans (List.Perm.swap i j js)

theorem sortByClass_perm (prio : Nat → Nat) (is : List Nat) : (sortByClass prio is).Perm is := by
  induction is with
  | nil => exact List.Perm.refl _
  | cons i is ih => exact (insertByClass_perm prio i _).trans (ih.cons i)

/-- The slots that a pop takes from the top's list: those still held out, and those that wait for readmission. -/
theorem split_perm (p : Nat → Bool) (is : List Nat) : (is.filter (fun i => !p i) ++ is.filter p).Perm is :=
  List.perm_append_comm.trans (List.filter_append_perm p is)

/-- A pop hands the top's slots on and loses none (R147). -/
theorem State.listed_pop_perm (s : State) : s.pop.listed.Perm s.listed := by
  unfold State.pop
  split
  · exact List.Perm.refl _
  · next c below hstack =>
    have hsorted := sortByClass_perm s.prioOf c.shedList
    cases below with
    | nil =>
      have hall : (sortByClass s.prioOf c.shedList).filter (fun i => admits 0 (s.prioOf i))
          = sortByClass s.prioOf c.shedList := List.filter_eq_self.mpr fun _ _ => rfl
      simp only [State.listed, State.raise, hall, hstack, List.flatMap_nil, List.nil_append, List.flatMap_cons,
        List.append_nil]
      exact List.perm_append_comm.trans (hsorted.append_right _)
    | cons d ds =>
      have hsplit := (split_perm (fun i => admits d.level (s.prioOf i)) (sortByClass s.prioOf c.shedList)).trans hsorted
      simp only [State.listed, State.raise, hstack, List.flatMap_cons, List.append_assoc]
      refine List.Perm.trans ?_ (hsplit.append_right _)
      simp only [List.append_assoc]
      refine (List.perm_append_comm_assoc _ _ _).trans (List.Perm.append_left _ ?_)
      refine List.Perm.trans ?_ (List.perm_append_comm_assoc _ _ _)
      refine List.Perm.append_left _ ?_
      exact (List.Perm.of_eq (List.append_assoc _ _ _).symm).trans List.perm_append_comm

namespace State.serviceOk

variable {s : State}

theorem push (h : s.serviceOk) (level : Nat) (origin : Origin) (cause : Cause) (lead : List Nat) :
    (s.push level origin cause lead).serviceOk := by
  have hshed := (State.serviceOk_iff.mp h).shedAt level lead
  rw [State.push_eq, State.serviceOk_iff]
  refine State.Serves.perm (hshed.same rfl rfl rfl) ?_
  have hqueue := split_perm (fun i => admits level (s.prioOf i)) s.readmission
  simp only [State.listed, State.raise, List.flatMap_cons, List.append_assoc]
  refine List.Perm.append_left _ (List.Perm.append_left _ ?_)
  exact (List.perm_append_comm_assoc _ _ _).trans (List.Perm.append_left _ hqueue)

theorem pop (h : s.serviceOk) : s.pop.serviceOk := by
  rw [State.serviceOk_iff] at h ⊢
  exact (h.same (by rw [State.pop_frame]) (by rw [State.pop_frame]) (by rw [State.pop_frame])).perm s.listed_pop_perm

theorem recover (h : s.serviceOk) : s.recover.serviceOk := by
  unfold State.recover
  split
  · exact h.pop
  · exact h

/-- Readmission takes the heads of the queue `q`, the other lists standing (R151, R152). -/
theorem readmitFrom (q : List Nat) : ∀ {s : State}, s.Serves (s.stack.flatMap (·.shedList) ++ q) →
    (s.readmitFrom q).serviceOk := by
  induction q with
  | nil =>
    intro s h
    exact State.serviceOk_iff.mpr (h.same rfl rfl rfl)
  | cons i rest ih =>
    intro s h
    have hwaiting := h.perm (List.perm_middle (a := i)).symm
    unfold State.readmitFrom
    split
    · obtain ⟨o, ho, hs⟩ := (hwaiting.lists.2 i).mp (by simp)
      have hsupply := (hwaiting.records i o ho).supplyOk
      have hlive : o.retiring = false := by
        by_contra c
        exact (hsupply.retiring_supply (by simpa using c)).2 hs
      have hput : (s.putOfftake i (some o.readmitted)).Serves (s.stack.flatMap (·.shedList) ++ rest) := by
        refine hwaiting.put ho ?_ (fun hl => .inl hl) (hwaiting.lists.uncons
          (fun j hj => State.offtake_putOfftake_ne s _ hj) ?_)
        · obtain ⟨hnone, hsome, _⟩ := Offtake.linkOk_iff.mp (hwaiting.records i o ho)
          have hgrant := hsupply.grant_zero (by simp [hs])
          refine Offtake.linkOk_iff.mpr ⟨hnone, hsome, fun c => ?_, fun _ => hgrant,
            fun c => absurd c (by simp [Offtake.readmitted, hlive]),
            fun c => absurd c (by simp [Offtake.readmitted, hlive]), hsupply.ack_linked⟩
          by_contra hl
          simp [Offtake.readmitted, Offtake.linked] at c hl
          simp [c] at hl
        · rintro ⟨x, hx, hshed⟩
          rw [State.offtake_putOfftake_self ho] at hx
          cases hx
          unfold Offtake.readmitted at hshed
          dsimp only at hshed
          split at hshed <;> cases hshed
      rw [State.modOfftake_eq ho, State.serviceOk_iff]
      exact hput.same rfl rfl rfl
    · next hout =>
      refine ih ((hwaiting.same (by simp) (by simp) (by simp)).perm ?_)
      have hsome := State.stack_ne_nil (by simpa using hout)
      rw [State.appendTop_eq]
      cases hstack : s.stack with
      | nil => exact absurd hstack hsome
      | cons c below =>
        simp only [appendedTop, List.flatMap_cons, List.append_assoc, List.singleton_append]
        exact List.perm_middle

theorem beginPass (h : s.serviceOk) : s.beginPass.serviceOk := by
  unfold State.beginPass
  split
  · exact h
  · have hread : s.readmit.serviceOk := readmitFrom s.readmission (State.serviceOk_iff.mp h)
    exact (foldl (f := State.judgeReserve) (fun t g ht => ht.view (State.serviceView_judgeReserve t g))
      [.tg, .og, .vg] hread).view rfl

end State.serviceOk

/-! ### The completion of a pass (R118 to R120, R143 to R146) -/

/-- The classes of a pass are 0 to 3 (R116, R128), so each member of a shed set is observed at a level of at least 1. -/
def ShedMember.classed (ms : List ShedMember) : Prop := ∀ m ∈ ms, m.prio ≤ 3

theorem ShedMember.classed_append {ms : List ShedMember} {c : Nat} {heat : Bool} {shares : List Share}
    (h : ShedMember.classed ms) (hc : c ≤ 3) : ShedMember.classed (ms ++ shedOf c heat shares) := by
  intro m hm
  rcases List.mem_append.mp hm with hm | hm
  · exact h m hm
  · obtain ⟨x, _, rfl⟩ := List.mem_map.mp hm
    exact hc

theorem Stages.gasClass_classed {v : View} {st : Stages} {c : Nat} (h : ShedMember.classed st.shed) (hc : c ≤ 3) :
    ShedMember.classed (st.gasClass v c).shed := by
  have hbound : ∀ (st : Stages) (g : Grade), ShedMember.classed st.shed → ShedMember.classed (st.gradeBound v c g).shed :=
    fun st g h => ShedMember.classed_append h hc
  exact ShedMember.classed_append (hbound _ .vg (hbound _ .og (hbound st .tg h))) hc

theorem View.result_shed_classed (v : View) : ShedMember.classed v.result.shed := by
  have hgas : ShedMember.classed v.gasStages.shed :=
    List.foldlRecOn [0, 1, 2, 3] (Stages.gasClass v) (motive := fun st => ShedMember.classed st.shed)
      (fun m hm => absurd hm (by simp)) fun st h c hc => Stages.gasClass_classed h (by simp at hc; omega)
  have hheat : ShedMember.classed (v.heatStages (v.heatPool v.gasStages.shares)).shed :=
    List.foldlRecOn [0, 1, 2, 3] (HeatStages.heatClass v) (motive := fun st => ShedMember.classed st.shed)
      (fun m hm => absurd hm (by simp)) fun st h c hc => ShedMember.classed_append h (by simp at hc; omega)
  intro m hm
  exact (List.mem_append.mp hm).elim (hgas m) (hheat m)

theorem le_foldl_max (l : List Nat) : ∀ top, top ≤ l.foldl max top ∧ ∀ x ∈ l, x ≤ l.foldl max top := by
  induction l with
  | nil => intro top; simp
  | cons y l ih =>
    intro top
    obtain ⟨htop, hrest⟩ := ih (max top y)
    rw [List.foldl_cons]
    exact ⟨by omega, fun x hx => by
      rcases List.mem_cons.mp hx with rfl | hx
      · omega
      · exact hrest x hx⟩

theorem observedLevel_pos {ms : List ShedMember} (h : ShedMember.classed ms) (hsome : ms ≠ []) : 0 < observedLevel ms := by
  obtain ⟨m, hm⟩ := List.exists_mem_of_ne_nil ms hsome
  have hle := (le_foldl_max (ms.map fun m => 4 - m.prio) 0).2 _ (List.mem_map_of_mem hm)
  have := h m hm
  rw [observedLevel]
  omega

theorem State.serviceView_judgeTimer (s : State) (level interval : Nat) :
    (s.judgeTimer level interval).serviceView = s.serviceView := rfl

theorem State.serviceView_figuresWritten (s : State) (p : Pass) :
    (s.figuresWritten p).serviceView = (s.grantsWritten p).serviceView := by
  have hexchange : (s.grantsWritten p).exchange = s.exchange := by rw [State.grantsWritten_frame]
  have hstack : (s.grantsWritten p).stack = s.stack := by rw [State.grantsWritten_frame]
  have hreadmission : (s.grantsWritten p).readmission = s.readmission := by rw [State.grantsWritten_frame]
  rw [State.figuresWritten_frame]
  simp only [State.serviceView, hexchange, hstack, hreadmission]

namespace State.serviceOk

variable {s : State}

/-- A grant is written to an ACTIVE record, which is linked (R118). -/
theorem writeGrant (r : PassResult) (t : State) (e : PassEntry) (h : t.serviceOk) : (t.writeGrant r e).serviceOk := by
  unfold State.writeGrant
  split
  · exact h
  · next hwrites =>
    obtain ⟨o, ho, hactive⟩ := State.isActive_iff.mp (show t.isActive e.slot = true by simp at hwrites; exact hwrites.2)
    rw [State.modOfftake_eq ho]
    have hgranted : (t.putOfftake e.slot (some (o.granted r e.slot))).serviceOk := by
      refine h.rewrite ho (fun hok => ?_) (fun hl => .inl hl) Iff.rfl
      obtain ⟨hnone, hsome, hsupply⟩ := Offtake.linkOk_iff.mp hok
      exact Offtake.linkOk_iff.mpr ⟨hnone, hsome, hsupply.active_linked, fun c => absurd hactive c,
        hsupply.retiring_linked, hsupply.retiring_supply, hsupply.ack_linked⟩
    exact of_serves ((State.serviceOk_iff.mp hgranted).handGrant e.slot) (by simp) (by simp)

/-- The sheds of an outcome are listed: there is a top context whenever one of them is not pushed with its own. -/
theorem takeSheds (h : s.serviceOk) {ms : List ShedMember} (hclassed : ShedMember.classed ms) :
    (s.takeSheds ms).serviceOk := by
  by_cases habove : s.level < observedLevel ms
  · rw [State.takeSheds_above habove]
    exact h.push _ _ _ _
  · have hshed := State.Serves.shedEach (ms.map (·.slot)) (State.serviceOk_iff.mp h)
    rw [State.takeSheds_within habove]
    cases hms : ms with
    | nil => exact h.view (by simp [State.shedEach, appendedTop_nil])
    | cons m rest =>
      have hstack : s.stack ≠ [] := by
        intro hempty
        have := observedLevel_pos hclassed (by simp [hms])
        simp [State.level, hempty] at habove
        omega
      rw [← hms, State.serviceOk_iff]
      refine State.Serves.perm (hshed.same rfl rfl rfl) ?_
      exact State.listed_perm_appendedTop (s := s) _ rfl (by rw [shedEach_frame]) hstack

theorem completePass (h : s.serviceOk) : s.completePass.serviceOk := by
  cases hp : s.pass with
  | none => rwa [State.completePass_none hp]
  | some p =>
    have hwritten : (s.grantsWritten p).serviceOk := foldl (writeGrant p.view.result) p.table h
    have hfigures := hwritten.view (s.serviceView_figuresWritten p)
    have hclassed : ShedMember.classed p.shedMembers := fun m hm =>
      p.view.result_shed_classed m (List.mem_filter.mp hm).1
    have hsheds := hfigures.takeSheds hclassed
    have houtcome : ((s.figuresWritten p).takeOutcome p.shedMembers p.view.interval).serviceOk := by
      unfold State.takeOutcome
      exact (hsheds.view (State.serviceView_judgeTimer _ _ _)).recover
    rw [State.completePass_some hp]
    generalize (s.figuresWritten p).takeOutcome p.shedMembers p.view.interval = u at houtcome
    exact houtcome.view rfl

end State.serviceOk

end Sys2Proof.Machine
end

section
/-! ## Every step keeps the laws of service -/

namespace Sys2Proof.Machine

open Sys2Proof

/-! ### Requests that leave the service of records as it is -/

/-- Beside the requests that write records, POP_CURTAIL alone changes what the laws of service read. -/
theorem replyOf_serviceView (p : PortId) {r : Request} (h : writesRecords r = false) (hpop : r ≠ .popCurtail) (s : State) :
    (replyOf p r s).state.serviceView = s.serviceView := by
  cases r <;> simp only [writesRecords, reduceCtorEq] at h <;> dsimp only [replyOf]
  case popCurtail => exact absurd rfl hpop
  case findOfftake t => unfold reqFindOfftake; split <;> rfl
  case readOfftake i => unfold reqReadOfftake; split <;> rfl
  case setChannel b => unfold reqSetChannel; repeat' split
                       all_goals rfl
  case readChannel c => unfold reqReadChannel; split <;> rfl
  case setGrade b => unfold reqSetGrade; repeat' split
                     all_goals rfl
  case readGrade g => unfold reqReadGrade; split <;> rfl
  case setWindow b => unfold reqSetWindow; dsimp only; repeat' split
                      all_goals rfl
  case clearWindow w => unfold reqClearWindow; repeat' split
                        all_goals rfl
  case readWindow w => unfold reqReadWindow; split <;> rfl
  case readPlant => rfl
  case setCommitment v => unfold reqSetCommitment; split <;> rfl
  case readBalance => rfl
  case readCurtail => rfl
  case openAccount n k key => unfold reqOpenAccount; repeat' split
                              all_goals rfl
  case amendAccount n key => unfold reqAmendAccount; repeat' split
                             all_goals simp
  case readAccount n => unfold reqReadAccount; split <;> rfl
  case retireAccount n => unfold reqRetireAccount State.closeEntry; repeat' split
                          all_goals rfl
  case setExportAccount n => unfold reqSetExportAccount; repeat' split
                             all_goals simp
  case closePeriod n => unfold reqClosePeriod; repeat' split
                        all_goals simp
  case takeStatement n => unfold reqTakeStatement; repeat' split
                          all_goals simp
  case reprice n => unfold reqReprice; dsimp only; repeat' split
                    all_goals simp [State.refuse, State.accept]
  case writeTariff b => unfold reqWriteTariff; repeat' split
                        all_goals rfl
  case invalidateTariff i => unfold reqInvalidateTariff; repeat' split
                             all_goals rfl
  case readTariff i => unfold reqReadTariff; split <;> rfl
  case probeTariff m key => unfold reqProbeTariff; repeat' split
                            all_goals rfl
  case setSeason n => unfold reqSetSeason; repeat' split
                      all_goals rfl
  case setBand b => unfold reqSetBand; repeat' split
                    all_goals rfl
  case readNotices => unfold reqReadNotices; dsimp only; split <;> rfl
  case clearNotice c => unfold reqClearNotice; repeat' split
                        all_goals rfl
  case setRouting port add drop => unfold reqSetRouting; repeat' split
                                   all_goals rfl
  case setNoticeMode m => unfold reqSetNoticeMode; repeat' split
                          all_goals rfl

/-! ### Requests that write a record -/

namespace State.serviceOk

variable {s : State}

/-- A new record is in QUIET and HELD, with nothing granted (R13). -/
theorem create (h : s.serviceOk) {i : Nat} (hi : s.lowestVacant = some i) (b : CreateBody) (c : OffClass) :
    (s.putOfftake i (some (createdRecord b c))).serviceOk := by
  have hserves := State.serviceOk_iff.mp h
  have hlt : i < 24 := mem_slotNumbers.mp (List.mem_of_find?_eq_some hi)
  have hvacant : s.offtake i = none := by simpa using List.find?_some hi
  have hself : (s.putOfftake i (some (createdRecord b c))).offtake i = some (createdRecord b c) := by
    rw [State.offtake_putOfftake, if_pos ⟨rfl, hlt⟩]
  have hothers : ∀ j, j ≠ i → (s.putOfftake i (some (createdRecord b c))).offtake j = s.offtake j :=
    fun j hj => State.offtake_putOfftake_ne s _ hj
  refine of_serves (s := s) ⟨State.everyRecord_of_slot i hserves.records hothers fun x hx => ?_,
    hserves.queue.record i rfl rfl hothers (.inr (hserves.queue.unqueued ?_)),
    hserves.lists.record i hothers (iff_of_false ?_ ?_)⟩ rfl rfl
  · rw [hself] at hx
    cases hx
    refine Offtake.linkOk_iff.mpr ⟨fun _ => rfl, fun c => ?_, fun c => ?_, fun _ => rfl, fun c => ?_, fun c => ?_,
      fun c => absurd rfl c⟩
    · rcases c with c | c <;> cases c
    all_goals cases c
  · rintro ⟨o, ho, _⟩
    rw [hvacant] at ho
    cases ho
  · rintro ⟨o, ho, hs⟩
    rw [hself] at ho
    cases ho
    cases hs
  · rintro ⟨o, ho, _⟩
    rw [hvacant] at ho
    cases ho

theorem reqCreateOfftake (h : s.serviceOk) (p : PortId) (b : CreateBody) : (reqCreateOfftake p b s).state.serviceOk := by
  unfold Machine.reqCreateOfftake
  repeat' split
  iterate 7 · exact h
  next i hi => exact h.create hi b _

end State.serviceOk

/-- An amendment writes the permitted modes and no other field that the laws of service read (R16). -/
theorem Offtake.rebound_amended_linkFields (b : AmendBody) (o : Offtake) :
    (o.rebound (amended b o)).linkFields = { o with permitted := (amended b o).permitted }.linkFields := by
  unfold Offtake.rebound
  split <;> rfl

theorem Offtake.SupplyOk.permit {o : Offtake} (h : o.SupplyOk) (permitted : BitVec 6) :
    ({ o with permitted := permitted } : Offtake).SupplyOk :=
  ⟨h.active_linked, h.grant_zero, h.retiring_linked, h.retiring_supply, h.ack_linked⟩

theorem Offtake.SupplyOk.congr {o o' : Offtake} (h : o.SupplyOk) (hfields : o'.linkFields = o.linkFields) : o'.SupplyOk := by
  simp only [Offtake.linkFields, Prod.mk.injEq] at hfields
  obtain ⟨hlink, _, _, hsupply, hgrant, hretiring, hack⟩ := hfields
  constructor <;> simp only [Offtake.linked, hlink, hsupply, hgrant, hretiring, hack]
  · exact h.active_linked
  · exact h.grant_zero
  · exact h.retiring_linked
  · exact h.retiring_supply
  · exact h.ack_linked

namespace State.serviceOk

variable {s : State}

/-- An amended record keeps its law, or has lost its mode and enters QUIET (R16). -/
theorem amend (h : s.serviceOk) {b : AmendBody} {o : Offtake} (ho : s.offtake b.slot = some o) :
    (if o.quietedBy (amended b o) then (s.putOfftake b.slot (some (o.rebound (amended b o)))).enterQuiet b.slot
      else s.putOfftake b.slot (some (o.rebound (amended b o)))).serviceOk := by
  have hserves := State.serviceOk_iff.mp h
  have hok := Offtake.linkOk_iff.mp (hserves.records b.slot o ho)
  have hfields := o.rebound_amended_linkFields b
  have hsupplyOk : (o.rebound (amended b o)).SupplyOk := (hok.2.2.permit _).congr hfields
  obtain ⟨hlink, hsupply⟩ : (o.rebound (amended b o)).link = o.link ∧ (o.rebound (amended b o)).supply = o.supply := by
    simp only [Offtake.linkFields, Prod.mk.injEq] at hfields
    exact ⟨hfields.1, hfields.2.2.2.1⟩
  have hself := State.offtake_putOfftake_self ho (o.rebound (amended b o))
  have hothers : ∀ j, j ≠ b.slot → (s.putOfftake b.slot (some (o.rebound (amended b o)))).offtake j = s.offtake j :=
    fun j hj => State.offtake_putOfftake_ne s _ hj
  split
  · have hqueue : (s.putOfftake b.slot (some (o.rebound (amended b o)))).QueueLawful :=
      hserves.queue.put ho fun hl => .inl (by rwa [Offtake.linked, hlink])
    have hlists : (s.putOfftake b.slot (some (o.rebound (amended b o)))).Lists s.listed :=
      hserves.lists.record b.slot hothers (by simp [State.shedIn, hself, ho, hsupply])
    refine of_serves (s := s) (State.Serves.enterQuiet_of_supplyOk (fun j x hj hx => ?_) (fun x hx => ?_) hqueue hlists)
      (by rw [State.enterQuiet_frame]; rfl) (by rw [State.enterQuiet_frame]; rfl)
    · exact hserves.records j x (hothers j hj ▸ hx)
    · rw [hself] at hx
      cases hx
      exact hsupplyOk
  · next hstays =>
    refine h.rewrite ho (fun _ => Offtake.linkOk_congr hfields (Offtake.linkOk_iff.mpr
      ⟨hok.1, fun hc => ?_, hok.2.2.permit _⟩)) (fun hl => .inl (by rw [Offtake.linked, hlink]; exact hl))
      (by rw [hsupply])
    obtain ⟨m, hm, _⟩ := hok.2.1 hc
    refine ⟨m, hm, ?_⟩
    simp only [Offtake.quietedBy, hm, Option.any_some, Bool.or_eq_true, not_or] at hstays
    simpa using hstays.2

theorem reqAmendOfftake (h : s.serviceOk) (p : PortId) (b : AmendBody) : (reqAmendOfftake p b s).state.serviceOk := by
  unfold Machine.reqAmendOfftake
  split
  · exact h
  · next o hfind =>
    have hamended := h.amend (State.findRecord_ok hfind).1
    dsimp only
    split
    · exact h
    split
    · exact h
    split
    · exact h
    split
    · exact h
    split
    · exact h
    · exact hamended

/-- A retired record is out of the lists and of supply; if it is not linked it does not stay (R19). -/
theorem retire (h : s.serviceOk) {i : Nat} {o : Offtake} (ho : s.offtake i = some o) :
    (o.linked = true → (s.retire i o).serviceOk) ∧ ((s.retire i o).free i).serviceOk := by
  have hserves := State.serviceOk_iff.mp h
  have hself : (s.retire i o).offtake i = some { o.zeroGrant with retiring := true, supply := o.supply.atRetirement } := by
    rw [State.offtake_retire ho, if_pos rfl]
  have hothers : ∀ j, j ≠ i → (s.retire i o).offtake j = s.offtake j := fun j hj => by
    rw [State.offtake_retire ho, if_neg hj.symm]
  have hsupply : o.supply.atRetirement ≠ .active ∧ o.supply.atRetirement ≠ .shed := by
    cases o.supply <;> simp [Supply.atRetirement]
  have hqueue : (s.retire i o).QueueLawful := by
    have hmarked : (s.modOfftake i fun o => { o with retiring := true }).QueueLawful := by
      rw [State.modOfftake_eq ho]
      exact hserves.queue.put ho .inl
    exact (hmarked.withdraw i o.supply.atRetirement).congr rfl (fun _ => Iff.rfl) fun _ _ hl => hl
  have hlists : (s.retire i o).Lists (s.listed.filter (· ≠ i)) :=
    hserves.lists.filter i hothers (by simp [State.shedIn, hself, hsupply.2])
  refine ⟨fun hl => State.serviceOk_iff.mpr ?_, ?_⟩
  · rw [State.listed_retire]
    refine ⟨State.everyRecord_of_slot i hserves.records hothers fun x hx => ?_, hqueue, hlists⟩
    rw [hself] at hx
    cases hx
    obtain ⟨hnone, hsome, hsupplyOk⟩ := Offtake.linkOk_iff.mp (hserves.records i o ho)
    exact Offtake.linkOk_iff.mpr ⟨hnone, hsome, fun c => absurd c hsupply.1, fun _ => rfl, fun _ => hl,
      fun _ => hsupply, hsupplyOk.ack_linked⟩
  · have hgone : ((s.retire i o).free i).offtake i = none := by rw [State.offtake_free, if_pos rfl]
    have hkept : ∀ j, j ≠ i → ((s.retire i o).free i).offtake j = (s.retire i o).offtake j := fun j hj => by
      rw [State.offtake_free, if_neg hj.symm]
    have hfreed : ((s.retire i o).free i).Serves (s.retire i o).listed := by
      rw [State.listed_retire]
      refine ⟨State.everyRecord_of_slot i hserves.records (fun j hj => (hkept j hj).trans (hothers j hj)) ?_,
        hqueue.free i, hlists.record i hkept (iff_of_false ?_ ?_)⟩
      · simp [hgone]
      · simp [State.shedIn, hgone]
      · simp [State.shedIn, hself, hsupply.2]
    exact of_serves hfreed (by rw [State.free_frame]) (by rw [State.free_frame])

theorem reqRetireOfftake (h : s.serviceOk) (p : PortId) (i : Nat) (t : Tag) :
    (reqRetireOfftake p i t s).state.serviceOk := by
  unfold Machine.reqRetireOfftake
  repeat' split
  · exact h
  · exact h
  · exact h
  · next o hfind _ hwaits => exact (h.retire (State.findRecord_ok hfind).1).1 (Bool.and_eq_true_iff.mp hwaits).1
  · next o hfind _ _ => exact (h.retire (State.findRecord_ok hfind).1).2

theorem reqRenegotiate (h : s.serviceOk) (p : PortId) (i : Nat) (t : Tag) : (reqRenegotiate p i t s).state.serviceOk := by
  unfold Machine.reqRenegotiate
  repeat' split
  · exact h
  · exact h
  · exact h
  · exact h.enterQuiet i

theorem reqRelease (h : s.serviceOk) (p : PortId) (i : Nat) (t : Tag) : (reqRelease p i t s).state.serviceOk := by
  unfold Machine.reqRelease
  repeat' split
  · exact h
  · exact h
  · exact h
  · exact h
  · next o hfind hlive hlocked =>
    have ho := (State.findRecord_ok hfind).1
    have hlockout : o.supply = .lockout := by simpa using hlocked
    refine enterQuiet ?_ i
    rw [State.modOfftake_eq ho]
    refine h.rewrite ho (fun hok => ?_) (fun hl => .inl hl) (by simp [hlockout])
    obtain ⟨hnone, hsome, hsupply⟩ := Offtake.linkOk_iff.mp hok
    have hgrant := hsupply.grant_zero (by simp [hlockout])
    exact Offtake.linkOk_iff.mpr ⟨hnone, hsome, fun c => absurd c (by simp), fun _ => hgrant, hsupply.retiring_linked,
      fun c => absurd c hlive, hsupply.ack_linked⟩

theorem reqSetPlant (h : s.serviceOk) (p : PortId) (b : PlantBody) : (reqSetPlant p b s).state.serviceOk := by
  have hlimited : ∀ limit (o : Offtake), (o.limitedTo limit).linkFields = o.linkFields := by
    intro limit o
    unfold Offtake.limitedTo
    split <;> rfl
  unfold Machine.reqSetPlant
  split
  · exact h
  · split
    · exact h
    · dsimp only
      split
      · exact h
      · split
        · exact h
        · split
          · exact h.touchAll _ rfl rfl rfl rfl rfl (hlimited _)
          · exact h.view rfl

theorem reqPushCurtail (h : s.serviceOk) (p : PortId) (level : Nat) : (reqPushCurtail p level s).state.serviceOk := by
  unfold Machine.reqPushCurtail
  repeat' split
  · exact h
  · exact h
  · exact h
  · exact h.push _ _ _ _

theorem reqPopCurtail (h : s.serviceOk) (p : PortId) : (reqPopCurtail p s).state.serviceOk := by
  unfold Machine.reqPopCurtail
  repeat' split
  · exact h
  · exact h
  · exact h
  · exact h.pop

theorem reqBindAccount (h : s.serviceOk) (p : PortId) (i : Nat) (t : Tag) (n : Nat) :
    (reqBindAccount p i t n s).state.serviceOk := by
  unfold Machine.reqBindAccount
  repeat' split
  iterate 6 · exact h
  exact (h.touch i fun o => { o with account := some n }).view (by simp)

theorem reqUnbindAccount (h : s.serviceOk) (p : PortId) (i : Nat) (t : Tag) :
    (reqUnbindAccount p i t s).state.serviceOk := by
  unfold Machine.reqUnbindAccount
  repeat' split
  · exact h
  · exact h
  · exact h
  · exact (h.touch i fun o => { o with account := none }).view (by simp)

end State.serviceOk

/-- A part with no queue, no exchange and no list, whose records keep their law and are not SHED. -/
theorem State.serviceOk_of_empty {s : State} (hrecords : ∀ i o, s.offtake i = some o → o.linkOk ∧ o.supply ≠ .shed)
    (hqueue : s.setpointQueue = []) (hexchange : s.exchange = none) (hstack : s.stack = [])
    (hreadmission : s.readmission = []) : s.serviceOk := by
  refine ⟨fun i o ho => (hrecords i o ho).1, ⟨?_, ?_, ?_⟩,
    ⟨?_, fun i hi => absurd hi (State.not_exchanging hexchange i)⟩,
    ?_, fun i => ?_⟩
  · simp [hqueue]
  · simp [hqueue]
  · simp [hqueue]
  · simp [hqueue]
  · simp [State.listed, hstack, hreadmission]
  · simp only [State.listed, hstack, hreadmission, List.flatMap_nil, List.append_nil, List.not_mem_nil, false_iff]
    rintro ⟨o, ho, hs⟩
    exact (hrecords i o ho).2 hs

/-- RESTART leaves records in QUIET and out of supply, and no retiring one (R23). -/
theorem Offtake.restarted_linkOk {o : Offtake} (hlive : o.retiring = false) :
    o.restarted.linkOk ∧ o.restarted.supply ≠ .shed := by
  have hsupply : o.restarted.supply ≠ .active ∧ o.restarted.supply ≠ .shed := by
    unfold Offtake.restarted
    cases o.supply <;> simp
  refine ⟨Offtake.linkOk_iff.mpr ⟨fun _ => rfl, fun c => ?_, fun c => absurd c hsupply.1, fun _ => rfl,
    fun c => absurd (hlive.symm.trans c) (by simp), fun _ => hsupply, fun c => absurd rfl c⟩, hsupply.2⟩
  rcases c with c | c <;> cases c

theorem State.restarted_serviceOk (s : State) : s.restarted.serviceOk := by
  have hfields : s.restarted.setpointQueue = [] ∧ s.restarted.exchange = none ∧ s.restarted.stack = []
      ∧ s.restarted.readmission = [] := by
    rw [State.restarted_frame]
    exact ⟨rfl, rfl, rfl, rfl⟩
  obtain ⟨hqueue, hexchange, hstack, hreadmission⟩ := hfields
  refine State.serviceOk_of_empty (fun i x hx => ?_) hqueue hexchange hstack hreadmission
  rw [State.offtake_restarted] at hx
  obtain ⟨o, _, hafter⟩ := Option.bind_eq_some_iff.mp hx
  unfold Offtake.afterRestart at hafter
  split at hafter
  · cases hafter
  · next hlive =>
    cases hafter
    exact Offtake.restarted_linkOk (by simpa using hlive)

/-! ### Every command -/

/-- Every request keeps the laws of service. -/
theorem State.serviceOk.request {s : State} (h : s.serviceOk) (p : PortId) (r : Request) :
    (replyOf p r s).state.serviceOk := by
  cases hw : writesRecords r with
  | false =>
    by_cases hpop : r = .popCurtail
    · subst hpop
      exact h.reqPopCurtail p
    · exact h.view (replyOf_serviceView p hw hpop s)
  | true =>
    cases r <;> simp only [writesRecords, Bool.false_eq_true] at hw <;> dsimp only [replyOf]
    case createOfftake b => exact h.reqCreateOfftake p b
    case amendOfftake b => exact h.reqAmendOfftake p b
    case retireOfftake i t => exact h.reqRetireOfftake p i t
    case renegotiate i t => exact h.reqRenegotiate p i t
    case release i t => exact h.reqRelease p i t
    case setPlant b => exact h.reqSetPlant p b
    case pushCurtail level => exact h.reqPushCurtail p level
    case bindAccount i t n => exact h.reqBindAccount p i t n
    case unbindAccount i t => exact h.reqUnbindAccount p i t
    case restart =>
      unfold reqRestart
      split
      · exact h
      · exact s.restarted_serviceOk

/-- Every event keeps the laws of service. -/
theorem State.serviceOk.event {s : State} (h : s.serviceOk) {c : Instr} {f : State → State} (hf : eventOf c = some f) :
    (f s).serviceOk := by
  cases c <;> simp only [eventOf, Option.some.injEq, reduceCtorEq] at hf <;> subst hf
  case writeFrame p x => exact h.view (by simp)
  case readAnswer p x => exact h.view (by simp)
  case sampleMessage bytes =>
    dsimp only
    split
    · exact h.view (by simp)
    · exact h
  case ageExpiry c => exact h.view (by simp)
  case staleTimerExpiry c => exact h.view (by simp)
  case quietHoldExpiry i => exact h.quietExpiry i
  case silenceExpiry i => exact h.silenceExpiry i
  case poll => exact h.beginPoll
  case pollTimeout => exact h.pollTimedOut
  case advert m => exact h.takeReply _ _ _ takeAdvert
  case status m => exact h.takeReply _ _ _ takeStatus
  case legacy m => exact h.takeReply _ _ _ takeLegacy
  case setpoint => exact h.beginSetpoint
  case setpointAck m => exact h.takeAck m
  case failedAttempt => exact h.failAttempt
  case meteringTick => exact h.meteringTick
  case cut i => exact h.cutSlot i
  case idleRelease i => exact h.idleSlot i
  case passBegin => exact h.beginPass
  case passCompletion => exact h.completePass
  case recoveryHoldExpiry => exact h.recover

theorem exec_keeps_serviceOk : ∀ (c : Instr) (s t : State), s.serviceOk → exec c s = .next t → t.serviceOk := by
  refine exec_keeps (P := State.serviceOk) (fun s hs => hs.view rfl) (fun s m n _ => ?_)
    (fun p r s q _ _ hs => (hs.request p r).view (by simp)) (fun c f s hf _ hs => hs.event hf)
  refine State.serviceOk_of_empty (fun i o ho => ?_) rfl rfl rfl rfl
  have hvacant : ({ State.released m n with pending := s.pending } : State).offtake i = none := by
    simp only [State.offtake, State.released, Vector.getElem?_replicate]
    split <;> rfl
  rw [hvacant] at ho
  cases ho

/-- A millisecond moves timers, which the laws of service do not read. -/
theorem State.serviceOk.elapse {s : State} (h : s.serviceOk) : s.elapse.serviceOk := by
  refine h.touchAll Offtake.elapse rfl rfl rfl rfl rfl fun o => ?_
  unfold Offtake.elapse
  split <;> rfl

/-- Settles O52: the requests (`State.serviceOk.request`), the events (`State.serviceOk.event`) and the clock each keep
the laws together. -/
theorem serviceStaysConsistent : Obligations.ServiceStaysConsistent :=
  step_keeps exec_keeps_serviceOk (fun _ hs => hs.elapse) fun _ _ hs => hs.view rfl

end Sys2Proof.Machine
end

section
/-! ## Unconfirmed grants stay queued (R47, R54)

Each operation on a slot is confined to that slot: it moves no other record, and takes no other slot's entry out of the
setpoint queue (`State.confinedTo`). What is left to show is that it serves the slot itself (`State.delivers`): the
record is not linked any more, its grant has been handed on, or nothing that the law reads of it has changed. -/

namespace Sys2Proof.Machine

open Sys2Proof

/-- The slot has an entry in the setpoint queue. -/
def State.queued (s : State) (i : Nat) : Prop := ∃ e ∈ s.setpointQueue, e.slot = i

/-- The law of the setpoint queue for one slot (R47). -/
def State.delivers (s : State) (i : Nat) : Prop :=
  ∀ o, s.offtake i = some o → o.linked = true → o.grant ≠ o.ackGrant → s.queued i

theorem State.deliveryOk_iff {s : State} : s.deliveryOk ↔ ∀ i, s.delivers i := Iff.rfl

/-- From `s` to `t`, no record but that of slot `i` changes, and no other slot loses its entry. -/
def State.confinedTo (i : Nat) (s t : State) : Prop :=
  ∀ j, j ≠ i → t.offtake j = s.offtake j ∧ (s.queued j → t.queued j)

/-- What the law of the queue reads of a record. -/
def Offtake.deliveryFields (o : Offtake) : Bool × Nat × Nat := (o.linked, o.grant, o.ackGrant)

theorem Offtake.deliveryFields_of_linkFields {o o' : Offtake} (h : o'.linkFields = o.linkFields) :
    o'.deliveryFields = o.deliveryFields := by
  simp only [Offtake.linkFields, Prod.mk.injEq] at h
  obtain ⟨hlink, _, _, _, hgrant, _, hack⟩ := h
  simp only [Offtake.deliveryFields, Offtake.linked, hlink, hgrant, hack]

/-- Every record rewritten. -/
theorem State.offtake_of_map {s t : State} {f : Offtake → Offtake} (h : t.slots = s.slots.map (Option.map f)) (j : Nat) :
    t.offtake j = (s.offtake j).map f := by
  unfold State.offtake
  rw [h, Vector.getElem?_map]
  cases s.slots[j]? <;> rfl

theorem State.queued_iff_mem {s : State} {i : Nat} : s.queued i ↔ i ∈ s.setpointQueue.map (·.slot) := by
  simp [State.queued]

theorem State.queued_of_queue {s t : State} (h : t.setpointQueue = s.setpointQueue) (j : Nat) :
    t.queued j ↔ s.queued j := by rw [State.queued, h, State.queued]

/-! ### The queue after a grant is handed over -/

/-- A slot whose grant waits to be confirmed, or that has an entry already, has one after its grant is handed over. -/
theorem queueAfterGrant_entry {i g a : Nat} {q : List SetpointEntry} (h : g ≠ a ∨ ∃ e ∈ q, e.slot = i) :
    ∃ e ∈ queueAfterGrant i g a q, e.slot = i := by
  unfold queueAfterGrant
  cases hfind : q.find? (·.slot = i) with
  | none =>
    have hnone : ∀ x ∈ q, x.slot ≠ i := by simpa using List.find?_eq_none.mp hfind
    have hwaits : g ≠ a := h.resolve_right fun ⟨e, he, hslot⟩ => hnone e he hslot
    dsimp only
    rw [if_neg hwaits]
    split
    · exact ⟨_, (insertClose_perm _ q).mem_iff.mpr (List.mem_cons_self ..), rfl⟩
    · exact ⟨⟨i, false, 0, false⟩, by simp, rfl⟩
  | some e =>
    have hslot : e.slot = i := by simpa using List.find?_some hfind
    dsimp only
    split
    · exact ⟨_, (insertClose_perm _ _).mem_iff.mpr (List.mem_cons_self ..), hslot⟩
    · exact ⟨e, List.mem_of_find?_eq_some hfind, hslot⟩

/-- No other slot loses its entry when a grant is handed over. -/
theorem queueAfterGrant_keeps {i j g a : Nat} {q : List SetpointEntry} (hj : j ≠ i) (h : ∃ e ∈ q, e.slot = j) :
    ∃ e ∈ queueAfterGrant i g a q, e.slot = j := by
  obtain ⟨e, he, rfl⟩ := h
  have hkept : e ∈ (queueAfterGrant i g a q).filter (·.slot ≠ i) := by
    rw [queueAfterGrant_other]
    exact List.mem_filter.mpr ⟨he, by simpa using hj⟩
  exact ⟨e, (List.mem_filter.mp hkept).1, rfl⟩

/-- A handed grant serves its slot (R47, R48). -/
theorem State.handGrant_delivers (s : State) (i : Nat) : (s.handGrant i).delivers i := by
  intro o ho hl hwaits
  rw [State.offtake_handGrant] at ho
  rw [State.handGrant, ho]
  dsimp only
  rw [if_pos hl]
  exact queueAfterGrant_entry (.inl hwaits)

theorem State.delivers_vacant {s : State} {i : Nat} (h : s.offtake i = none) : s.delivers i := by
  intro o ho
  rw [h] at ho
  cases ho

theorem State.delivers_unlinked {s : State} {i : Nat} {o : Offtake} (h : s.offtake i = some o) (hl : o.linked = false) :
    s.delivers i := by
  intro x hx hlinked
  obtain rfl := Option.some.inj (h.symm.trans hx)
  rw [hl] at hlinked
  cases hlinked

/-! ### Operations confined to a slot -/

namespace State.confinedTo

variable {s t u : State} {i : Nat}

theorem of_slots (h : t.slots = s.slots) (hqueue : t.setpointQueue = s.setpointQueue) : State.confinedTo i s t :=
  fun j _ => ⟨State.offtake_of_slots h j, (State.queued_of_queue hqueue j).mpr⟩

theorem trans (h : State.confinedTo i s t) (h' : State.confinedTo i t u) : State.confinedTo i s u := fun j hj =>
  ⟨(h' j hj).1.trans (h j hj).1, fun hq => (h' j hj).2 ((h j hj).2 hq)⟩

/-- The record of the slot changes, and perhaps its entry goes. -/
theorem unqueue (hothers : ∀ j, j ≠ i → t.offtake j = s.offtake j)
    (hqueue : t.setpointQueue = s.setpointQueue.filter (·.slot ≠ i)) : State.confinedTo i s t := by
  refine fun j hj => ⟨hothers j hj, ?_⟩
  rintro ⟨e, he, rfl⟩
  exact ⟨e, by rw [hqueue]; exact List.mem_filter.mpr ⟨he, by simpa using hj⟩, rfl⟩

theorem record (hothers : ∀ j, j ≠ i → t.offtake j = s.offtake j) (hqueue : t.setpointQueue = s.setpointQueue) :
    State.confinedTo i s t := fun j hj => ⟨hothers j hj, (State.queued_of_queue hqueue j).mpr⟩

theorem putOfftake (s : State) (i : Nat) (o : Option Offtake) : State.confinedTo i s (s.putOfftake i o) :=
  record (fun _ hj => State.offtake_putOfftake_ne s o hj) rfl

theorem modOfftake (s : State) (i : Nat) (f : Offtake → Offtake) : State.confinedTo i s (s.modOfftake i f) :=
  record (fun j hj => by rw [State.offtake_modOfftake, if_neg hj.symm]) (by simp)

theorem dropEntry (s : State) (i : Nat) : State.confinedTo i s (s.dropEntry i) := unqueue (fun _ _ => rfl) rfl

theorem handGrant (s : State) (i : Nat) : State.confinedTo i s (s.handGrant i) := by
  refine fun j hj => ⟨s.offtake_handGrant i j, fun hq => ?_⟩
  unfold State.handGrant
  repeat' split
  · exact queueAfterGrant_keeps hj hq
  · exact hq
  · exact hq

theorem withdraw (s : State) (i : Nat) (st : Supply) : State.confinedTo i s (s.withdraw i st) :=
  (modOfftake s i _).trans ((of_slots rfl rfl).trans (handGrant _ i))

theorem free (s : State) (i : Nat) : State.confinedTo i s (s.free i) := by
  cases ho : s.offtake i with
  | none =>
    rw [State.free, ho]
    exact of_slots rfl rfl
  | some o =>
    exact unqueue (fun j hj => by rw [State.offtake_free, if_neg hj.symm]) (State.free_setpointQueue ho)

theorem leaveLinked (s : State) (i : Nat) : State.confinedTo i s (s.leaveLinked i) := by
  cases ho : s.offtake i with
  | none =>
    rw [State.leaveLinked_vacant ho]
    exact of_slots rfl rfl
  | some o =>
    exact unqueue (fun j hj => State.offtake_leaveLinked_ne s hj.symm) (State.leaveLinked_setpointQueue ho)

theorem enterQuiet (s : State) (i : Nat) : State.confinedTo i s (s.enterQuiet i) := by
  unfold State.enterQuiet State.unlink
  refine trans ?_ (modOfftake _ i _)
  repeat' split
  · exact leaveLinked s i
  · exact of_slots rfl rfl
  · exact of_slots rfl rfl

theorem listenAdvert (s : State) (i : Nat) (a : AdvertData) : State.confinedTo i s (s.listenAdvert i a) := by
  cases ho : s.offtake i with
  | none =>
    rw [State.listenAdvert_none ho]
    exact of_slots rfl rfl
  | some o =>
    cases hm : resolveMode o a with
    | some m =>
      rw [State.listenAdvert_resolved ho hm]
      exact putOfftake s i _
    | none =>
      rw [State.listenAdvert_unresolved ho hm]
      split
      · exact putOfftake s i _
      · exact (putOfftake s i _).trans (of_slots rfl rfl)

end State.confinedTo

/-! ### What the operations leave of the slot itself -/

theorem State.free_delivers (s : State) (i : Nat) : (s.free i).delivers i :=
  State.delivers_vacant (by rw [State.offtake_free, if_pos rfl])

/-- A record in QUIET is not linked (R30). -/
theorem State.enterQuiet_delivers (s : State) (i : Nat) : (s.enterQuiet i).delivers i := by
  cases ho : s.offtake i with
  | none =>
    rw [State.enterQuiet_vacant ho]
    exact State.delivers_vacant ho
  | some o =>
    have hquiet := State.offtake_enterQuiet ho
    split at hquiet
    · exact State.delivers_vacant hquiet
    · exact State.delivers_unlinked hquiet rfl

/-- A record that has taken an advert in LISTEN is in LISTEN or CONFIRM (R34). -/
theorem State.listenAdvert_delivers (s : State) (i : Nat) (a : AdvertData) : (s.listenAdvert i a).delivers i := by
  cases ho : s.offtake i with
  | none =>
    rw [State.listenAdvert_none ho]
    exact State.delivers_vacant ho
  | some o =>
    cases hm : resolveMode o a with
    | some m =>
      rw [State.listenAdvert_resolved ho hm]
      exact State.delivers_unlinked (State.offtake_putOfftake_self ho _) rfl
    | none =>
      rw [State.listenAdvert_unresolved ho hm]
      split <;> exact State.delivers_unlinked (State.offtake_putOfftake_self ho _) rfl

end Sys2Proof.Machine
end

section
/-! ### The operations keep the law of the queue -/

namespace Sys2Proof.Machine

open Sys2Proof

namespace State.deliveryOk

variable {s t : State}

/-- An operation confined to a slot keeps the law if it serves that slot. -/
theorem confined {i : Nat} (h : s.deliveryOk) (hconfined : State.confinedTo i s t) (hself : t.delivers i) :
    t.deliveryOk := by
  intro j o ho hl hwaits
  by_cases hj : j = i
  · subst hj
    exact hself o ho hl hwaits
  · obtain ⟨hrecord, hqueued⟩ := hconfined j hj
    exact hqueued (h j o (hrecord ▸ ho) hl hwaits)

/-- What the law reads of each record, and the slots queued, stay. -/
theorem congr (h : s.deliveryOk)
    (hrecords : ∀ j, (t.offtake j).map Offtake.deliveryFields = (s.offtake j).map Offtake.deliveryFields)
    (hqueue : t.setpointQueue.map (·.slot) = s.setpointQueue.map (·.slot)) : t.deliveryOk := by
  intro j o ho hl hwaits
  obtain ⟨x, hx, hfields⟩ : ∃ x, s.offtake j = some x ∧ x.deliveryFields = o.deliveryFields := by
    simpa [ho] using (hrecords j).symm
  simp only [Offtake.deliveryFields, Prod.mk.injEq] at hfields
  obtain ⟨hlink, hgrant, hack⟩ := hfields
  have hqueued : s.queued j := h j x hx (hlink.trans hl) (by rwa [hgrant, hack])
  exact State.queued_iff_mem.mpr (hqueue ▸ State.queued_iff_mem.mp hqueued)

theorem same (h : s.deliveryOk) (hslots : t.slots = s.slots) (hqueue : t.setpointQueue = s.setpointQueue) :
    t.deliveryOk := h.congr (fun j => by rw [State.offtake_of_slots hslots]) (by rw [hqueue])

theorem view (h : s.deliveryOk) (hview : t.serviceView = s.serviceView) : t.deliveryOk := by
  simp only [State.serviceView, Prod.mk.injEq] at hview
  obtain ⟨hslots, hqueue, _⟩ := hview
  exact h.same hslots hqueue

/-- A record is rewritten in fields that the law does not read. -/
theorem touch (h : s.deliveryOk) (i : Nat) (f : Offtake → Offtake)
    (hf : ∀ o, (f o).deliveryFields = o.deliveryFields := by exact fun _ => rfl) : (s.modOfftake i f).deliveryOk := by
  refine h.congr (fun j => ?_) (by simp)
  rw [State.offtake_modOfftake]
  split
  · rw [Option.map_map]
    congr 1
    exact funext hf
  · rfl

/-- Every record is rewritten in fields that the law does not read. -/
theorem touchAll (h : s.deliveryOk) (f : Offtake → Offtake) (hslots : t.slots = s.slots.map (Option.map f))
    (hqueue : t.setpointQueue = s.setpointQueue)
    (hf : ∀ o, (f o).deliveryFields = o.deliveryFields := by exact fun _ => rfl) : t.deliveryOk := by
  refine h.congr (fun j => ?_) (by rw [hqueue])
  rw [State.offtake_of_map hslots, Option.map_map]
  congr 1
  exact funext hf

theorem put (h : s.deliveryOk) (i : Nat) (o' : Offtake)
    (hself : o'.linked = true → o'.grant ≠ o'.ackGrant → s.queued i) : (s.putOfftake i (some o')).deliveryOk := by
  refine h.confined (State.confinedTo.putOfftake s i _) fun x hx hl hwaits => ?_
  rw [State.offtake_putOfftake] at hx
  split at hx
  · cases hx
    exact hself hl hwaits
  · exact h i x hx hl hwaits

theorem put_unlinked (h : s.deliveryOk) (i : Nat) {o' : Offtake} (hl : o'.linked = false) :
    (s.putOfftake i (some o')).deliveryOk := h.put i o' fun c => absurd c (by simp [hl])

theorem put_same (h : s.deliveryOk) {i : Nat} {o o' : Offtake} (ho : s.offtake i = some o)
    (hfields : o'.deliveryFields = o.deliveryFields) : (s.putOfftake i (some o')).deliveryOk := by
  simp only [Offtake.deliveryFields, Prod.mk.injEq] at hfields
  obtain ⟨hlink, hgrant, hack⟩ := hfields
  exact h.put i o' fun hl hwaits => h i o ho (hlink ▸ hl) (hgrant ▸ hack ▸ hwaits)

theorem withdraw (h : s.deliveryOk) (i : Nat) (st : Supply) : (s.withdraw i st).deliveryOk :=
  h.confined (.withdraw s i st) (State.handGrant_delivers _ i)

theorem free (h : s.deliveryOk) (i : Nat) : (s.free i).deliveryOk := h.confined (.free s i) (s.free_delivers i)

theorem enterQuiet (h : s.deliveryOk) (i : Nat) : (s.enterQuiet i).deliveryOk :=
  h.confined (.enterQuiet s i) (s.enterQuiet_delivers i)

theorem linkLoss (h : s.deliveryOk) (i : Nat) : (s.linkLoss i).deliveryOk := (h.enterQuiet i).same rfl rfl

theorem joinSupply (h : s.deliveryOk) (i : Nat) : (s.joinSupply i).deliveryOk := by
  unfold State.joinSupply
  repeat' split
  · exact h.touch i _
  · exact (h.touch i fun o => { o with supply := .shed }).same (by simp) (by simp)
  · exact h
  · exact h

theorem foldl {α : Type} {f : State → α → State} (hf : ∀ t a, t.deliveryOk → (f t a).deliveryOk) (l : List α)
    {s : State} (h : s.deliveryOk) : (l.foldl f s).deliveryOk :=
  List.foldlRecOn l f h fun t ht a _ => hf t a ht

/-! ### The offtake link -/

theorem quietExpiry (h : s.deliveryOk) (i : Nat) : (s.quietExpiry i).deliveryOk := by
  unfold State.quietExpiry
  repeat' split
  · exact h
  · next o ho _ =>
    rw [State.modOfftake_eq ho]
    exact h.put_unlinked i rfl
  · exact h

theorem silenceExpiry (h : s.deliveryOk) (i : Nat) : (s.silenceExpiry i).deliveryOk := by
  unfold State.silenceExpiry
  repeat' split
  · exact h
  · exact h
  · exact h.touch i _
  all_goals exact h.linkLoss i

theorem beginPoll (h : s.deliveryOk) : s.beginPoll.deliveryOk := by
  unfold State.beginPoll
  repeat' split
  all_goals exact h.same rfl rfl

theorem pollTimedOut (h : s.deliveryOk) : s.pollTimedOut.deliveryOk := by
  unfold State.pollTimedOut
  split <;> exact h.same rfl rfl

/-- The head of the queue is marked, and keeps its slot (R50). -/
theorem beginSetpoint (h : s.deliveryOk) : s.beginSetpoint.deliveryOk := by
  unfold State.beginSetpoint
  repeat' split
  · exact h
  · exact h
  · exact h
  · next hqueue _ _ _ => exact h.congr (fun _ => rfl) (by rw [hqueue]; rfl)

/-- A failed attempt is counted in its entry, or loses the link (R53). -/
theorem failAttempt (h : s.deliveryOk) : s.failAttempt.deliveryOk := by
  unfold State.failAttempt
  split
  · next i _ _ _ =>
    dsimp only
    split
    · exact linkLoss (s := s.setpointEnded) (h.same rfl rfl) i
    · refine h.congr (fun _ => rfl) ?_
      dsimp only [State.setpointEnded]
      rw [List.map_map]
      refine List.map_congr_left fun e _ => ?_
      show (if e.slot = i then _ else _ : SetpointEntry).slot = e.slot
      split <;> rfl
  all_goals exact h.same rfl rfl

/-- After a valid acknowledgement the record is freed or its grant is handed on (R52). -/
theorem acknowledge (h : s.deliveryOk) (i v : Nat) : (s.acknowledge i v).deliveryOk := by
  have hended : s.setpointEnded.deliveryOk := h.same rfl rfl
  have hconfined : State.confinedTo i s.setpointEnded
      ((s.setpointEnded.modOfftake i fun o => { o with ackGrant := v }).dropEntry i) :=
    (State.confinedTo.modOfftake _ i _).trans (.dropEntry _ i)
  unfold State.acknowledge
  split
  · exact hended
  · dsimp only
    split
    · exact hended.confined (hconfined.trans (.free _ i)) (State.free_delivers _ i)
    · exact hended.confined (hconfined.trans (.handGrant _ i)) (State.handGrant_delivers _ i)

theorem takeAck (h : s.deliveryOk) (m : LinkMsg) : (s.takeAck m).deliveryOk := by
  unfold State.takeAck
  repeat' split
  · exact h.acknowledge _ _
  · exact h.failAttempt
  all_goals exact h.same rfl rfl

theorem takeReply {α : Type} (h : s.deliveryOk) (hs : s.serviceOk) (addr : Byte) (data : Option α)
    (f : State → Nat → α → State) (hf : ∀ t i d, t.deliveryOk → t.serviceOk → (f t i d).deliveryOk) :
    (s.takeReply addr data f).deliveryOk := by
  unfold State.takeReply
  split
  · next hpoll =>
    have hended : s.pollEnded.deliveryOk := h.same rfl rfl
    split
    · exact hf _ _ _ hended (hs.pollEnded hpoll)
    · exact hended
    · exact hended
  · exact h.failAttempt
  · exact h

/-- A record that has just become linked has nothing granted and nothing acknowledged (R42). -/
theorem bindAndJoin (h : s.deliveryOk) (hs : s.serviceOk) {i : Nat} {o o' : Offtake} (ho : s.offtake i = some o)
    (hl : o.linked = false) (hgrant : o'.grant = o.grant) (hack : o'.ackGrant = o.ackGrant) :
    ((s.putOfftake i (some o')).joinSupply i).deliveryOk := by
  obtain ⟨_, hgrant0, _, hack0⟩ := (hs.1 i o ho).supplyOk.unlinked hl
  exact (h.put i o' fun _ hwaits => absurd (by rw [hgrant, hack, hgrant0, hack0]) hwaits).joinSupply i

theorem confirmAdvert (h : s.deliveryOk) (hs : s.serviceOk) {i : Nat} {o : Offtake} (ho : s.offtake i = some o)
    (hl : o.link = .confirm) (a : AdvertData) : (s.confirmAdvert i o a).deliveryOk := by
  have hunlinked : o.linked = false := by rw [Offtake.linked, hl]; rfl
  unfold State.confirmAdvert
  repeat' split
  · exact h.bindAndJoin hs ho hunlinked rfl rfl
  · exact h.put_same ho rfl
  · exact h.put_same ho rfl
  · exact h.confined ((State.confinedTo.putOfftake s i _).trans (.listenAdvert _ i a)) (State.listenAdvert_delivers _ i a)

theorem takeAdvert (t : State) (i : Nat) (a : AdvertData) (h : t.deliveryOk) (hs : t.serviceOk) :
    (t.takeAdvert i a).deliveryOk := by
  have hbound : (t.boundAdvert i (storedAdvert a)).deliveryOk :=
    h.confined ((State.confinedTo.leaveLinked t i).trans ((State.confinedTo.modOfftake _ i _).trans (.listenAdvert _ i _)))
      (State.listenAdvert_delivers _ i _)
  unfold State.takeAdvert
  split
  · exact h
  · next o ho =>
    split
    · exact h.confined (.listenAdvert t i _) (t.listenAdvert_delivers i _)
    · next hl => exact h.confirmAdvert hs ho hl _
    · exact hbound
    · exact hbound
    · exact h

theorem takeStatus (t : State) (i : Nat) (c : CallData) (h : t.deliveryOk) : (t.takeStatus i c).deliveryOk := by
  unfold State.takeStatus
  split
  · exact h.touch i (Offtake.called c)
  · exact h

theorem listenLegacy (h : s.deliveryOk) (hs : s.serviceOk) {i : Nat} {o : Offtake} (ho : s.offtake i = some o)
    (hl : o.link = .listen) (c : CallData) : (s.listenLegacy i o c).deliveryOk := by
  have hunlinked : o.linked = false := by rw [Offtake.linked, hl]; rfl
  unfold State.listenLegacy
  dsimp only
  repeat' split
  · exact h.put_same ho rfl
  · exact h.bindAndJoin hs ho hunlinked rfl rfl
  · exact h.put_same ho rfl
  · exact (h.put_same ho (o' := { o with absent := false, silenceMs := 0, legacyRun := 0, noMode := true }) rfl).same rfl rfl

theorem takeLegacy (t : State) (i : Nat) (c : CallData) (h : t.deliveryOk) (hs : t.serviceOk) :
    (t.takeLegacy i c).deliveryOk := by
  unfold State.takeLegacy
  split
  · exact h
  · next o ho =>
    split
    · next hl => exact h.listenLegacy hs ho hl c
    · exact h.touch i (Offtake.called c)
    all_goals exact h

/-! ### The draw monitor (R55 to R59) -/

theorem cutRecord (h : s.deliveryOk) (i : Nat) : (s.cutRecord i).deliveryOk :=
  ((h.withdraw i .cut).touch i fun o => { o with overdrawTimer := 0, idleTimer := 0 }).same rfl rfl

theorem releaseIdle (h : s.deliveryOk) (i : Nat) : (s.releaseIdle i).deliveryOk := by
  unfold State.releaseIdle
  split
  · dsimp only
    split
    · exact h.free i
    · refine enterQuiet ?_ i
      split
      · exact same (h.touch i _) rfl rfl
      · exact h.touch i _
  · exact h

theorem superviseDraw (h : s.deliveryOk) (i : Nat) (o : Offtake) : (s.superviseDraw i o).deliveryOk := by
  unfold State.superviseDraw
  dsimp only
  repeat' split
  · exact h.touch i _
  · exact h.touch i _
  · exact (h.touch i _).cutRecord i
  · exact h.touch i _

theorem superviseIdle (h : s.deliveryOk) (i : Nat) (o : Offtake) : (s.superviseIdle i o).deliveryOk := by
  have hcleared := h.touch i fun o => { o with overdrawTimer := 0 }
  unfold State.superviseIdle
  dsimp only
  repeat' split
  · exact hcleared
  · exact hcleared
  · exact hcleared.touch i _
  · exact (hcleared.touch i _).releaseIdle i
  · exact hcleared.touch i _

theorem supervise (t : State) (i : Nat) (h : t.deliveryOk) : (t.supervise i).deliveryOk := by
  unfold State.supervise
  repeat' split
  · exact h
  · exact h.superviseDraw i _
  · exact h.superviseDraw i _
  · exact h.superviseIdle i _
  · exact h.touch i _
  · exact h.touch i _

theorem meteringTick (h : s.deliveryOk) : s.meteringTick.deliveryOk := by
  have hmeasured : s.measure.deliveryOk := h.touchAll s.measured rfl rfl
  have hfed := foldl (f := State.feedAccount) (fun t n ht => ht.view (State.serviceView_feedAccount t n))
    s.measure.accountNumbers hmeasured
  have hsupervised := foldl supervise slotNumbers hfed
  unfold State.meteringTick
  dsimp only
  generalize slotNumbers.foldl State.supervise _ = u at hsupervised ⊢
  exact hsupervised.same rfl rfl

theorem cutSlot (h : s.deliveryOk) (i : Nat) : (s.cutSlot i).deliveryOk := by
  unfold State.cutSlot
  repeat' split
  · exact h.cutRecord i
  · exact h
  · exact h

theorem idleSlot (h : s.deliveryOk) (i : Nat) : (s.idleSlot i).deliveryOk := by
  unfold State.idleSlot
  repeat' split
  · exact h.releaseIdle i
  · exact h
  · exact h

/-! ### Curtailment and the pass -/

theorem shedEach (is : List Nat) : ∀ {s : State}, s.deliveryOk → (s.shedEach is).1.deliveryOk := by
  induction is with
  | nil => intro s h; exact h
  | cons i is ih =>
    intro s h
    unfold State.shedEach
    split
    · exact ih (h.withdraw i .shed)
    · exact ih h

theorem push (h : s.deliveryOk) (level : Nat) (origin : Origin) (cause : Cause) (lead : List Nat) :
    (s.push level origin cause lead).deliveryOk := by
  rw [State.push_eq]
  exact same (s := s.shedAt level lead) (shedEach _ (shedEach _ h)) rfl rfl

theorem pop (h : s.deliveryOk) : s.pop.deliveryOk := h.same (by rw [State.pop_frame]) (by rw [State.pop_frame])

theorem recover (h : s.deliveryOk) : s.recover.deliveryOk :=
  h.same (by rw [State.recover_frame]) (by rw [State.recover_frame])

theorem readmitFrom (q : List Nat) : ∀ {s : State}, s.deliveryOk → (s.readmitFrom q).deliveryOk := by
  induction q with
  | nil => intro s h; exact h.same rfl rfl
  | cons i q ih =>
    intro s h
    unfold State.readmitFrom
    split
    · exact (h.touch i Offtake.readmitted).same rfl rfl
    · exact ih (h.same (by simp) (by simp))

theorem beginPass (h : s.deliveryOk) : s.beginPass.deliveryOk := by
  unfold State.beginPass
  split
  · exact h
  · exact (foldl (f := State.judgeReserve) (fun t g ht => ht.view (State.serviceView_judgeReserve t g))
      [.tg, .og, .vg] (readmitFrom s.readmission h)).same rfl rfl

theorem writeGrant (r : PassResult) (t : State) (e : PassEntry) (h : t.deliveryOk) : (t.writeGrant r e).deliveryOk := by
  unfold State.writeGrant
  split
  · exact h
  · exact h.confined ((State.confinedTo.modOfftake t e.slot _).trans (.handGrant _ e.slot))
      (State.handGrant_delivers _ e.slot)

theorem takeSheds (h : s.deliveryOk) (ms : List ShedMember) : (s.takeSheds ms).deliveryOk := by
  by_cases habove : s.level < observedLevel ms
  · rw [State.takeSheds_above habove]
    exact h.push _ _ _ _
  · rw [State.takeSheds_within habove]
    exact (shedEach (ms.map (·.slot)) h).same rfl rfl

theorem completePass (h : s.deliveryOk) : s.completePass.deliveryOk := by
  cases hp : s.pass with
  | none => rwa [State.completePass_none hp]
  | some p =>
    have hwritten : (s.grantsWritten p).deliveryOk := foldl (writeGrant p.view.result) p.table h
    have hsheds := (hwritten.view (s.serviceView_figuresWritten p)).takeSheds p.shedMembers
    have houtcome : ((s.figuresWritten p).takeOutcome p.shedMembers p.view.interval).deliveryOk :=
      (hsheds.view (State.serviceView_judgeTimer _ (observedLevel p.shedMembers) p.view.interval)).recover
    rw [State.completePass_some hp]
    generalize (s.figuresWritten p).takeOutcome p.shedMembers p.view.interval = u at houtcome
    exact houtcome.same rfl rfl

end State.deliveryOk

end Sys2Proof.Machine
end

section
/-! ### Every step keeps the law of the queue -/

namespace Sys2Proof.Machine

open Sys2Proof

namespace State.deliveryOk

variable {s : State}

/-- A part whose records are none of them linked. -/
theorem of_unlinked (h : ∀ i o, s.offtake i = some o → o.linked = false) : s.deliveryOk :=
  State.deliveryOk_iff.mpr fun i o ho => State.delivers_unlinked ho (h i o ho) o ho

theorem reqCreateOfftake (h : s.deliveryOk) (p : PortId) (b : CreateBody) : (reqCreateOfftake p b s).state.deliveryOk := by
  unfold Machine.reqCreateOfftake
  repeat' split
  iterate 7 · exact h
  exact h.put_unlinked _ rfl

/-- An amendment writes nothing that the law reads, or the record enters QUIET (R16). -/
theorem reqAmendOfftake (h : s.deliveryOk) (p : PortId) (b : AmendBody) : (reqAmendOfftake p b s).state.deliveryOk := by
  unfold Machine.reqAmendOfftake
  split
  · exact h
  · next o hfind =>
    have hput : (s.putOfftake b.slot (some (o.rebound (amended b o)))).deliveryOk :=
      h.put_same (State.findRecord_ok hfind).1
        (Offtake.deliveryFields_of_linkFields (o := { o with permitted := (amended b o).permitted })
          (o.rebound_amended_linkFields b))
    dsimp only
    repeat' split
    iterate 5 · exact h
    · exact hput.enterQuiet b.slot
    · exact hput

theorem retire (h : s.deliveryOk) (i : Nat) (o : Offtake) : (s.retire i o).deliveryOk :=
  ((h.touch i fun o => { o with retiring := true }).withdraw i o.supply.atRetirement).same rfl rfl

theorem reqRetireOfftake (h : s.deliveryOk) (p : PortId) (i : Nat) (t : Tag) :
    (reqRetireOfftake p i t s).state.deliveryOk := by
  unfold Machine.reqRetireOfftake
  repeat' split
  · exact h
  · exact h
  · exact h
  · exact h.retire i _
  · exact (h.retire i _).free i

theorem reqRenegotiate (h : s.deliveryOk) (p : PortId) (i : Nat) (t : Tag) :
    (reqRenegotiate p i t s).state.deliveryOk := by
  unfold Machine.reqRenegotiate
  repeat' split
  · exact h
  · exact h
  · exact h
  · exact h.enterQuiet i

theorem reqRelease (h : s.deliveryOk) (p : PortId) (i : Nat) (t : Tag) : (reqRelease p i t s).state.deliveryOk := by
  unfold Machine.reqRelease
  repeat' split
  iterate 4 · exact h
  exact enterQuiet (h.touch i _) i

theorem reqSetPlant (h : s.deliveryOk) (p : PortId) (b : PlantBody) : (reqSetPlant p b s).state.deliveryOk := by
  have hlimited : ∀ limit (o : Offtake), (o.limitedTo limit).deliveryFields = o.deliveryFields := by
    intro limit o
    unfold Offtake.limitedTo
    split <;> rfl
  unfold Machine.reqSetPlant
  dsimp only
  repeat' split
  iterate 4 · exact h
  · exact h.touchAll _ rfl rfl (hlimited _)
  · exact h.same rfl rfl

theorem reqPushCurtail (h : s.deliveryOk) (p : PortId) (level : Nat) : (reqPushCurtail p level s).state.deliveryOk := by
  unfold Machine.reqPushCurtail
  repeat' split
  iterate 3 · exact h
  exact h.push _ _ _ _

theorem reqPopCurtail (h : s.deliveryOk) (p : PortId) : (reqPopCurtail p s).state.deliveryOk := by
  unfold Machine.reqPopCurtail
  repeat' split
  iterate 3 · exact h
  exact h.pop

theorem reqBindAccount (h : s.deliveryOk) (p : PortId) (i : Nat) (t : Tag) (n : Nat) :
    (reqBindAccount p i t n s).state.deliveryOk := by
  unfold Machine.reqBindAccount
  repeat' split
  iterate 6 · exact h
  exact (h.touch i fun o => { o with account := some n }).view (by simp)

theorem reqUnbindAccount (h : s.deliveryOk) (p : PortId) (i : Nat) (t : Tag) :
    (reqUnbindAccount p i t s).state.deliveryOk := by
  unfold Machine.reqUnbindAccount
  repeat' split
  iterate 3 · exact h
  exact (h.touch i fun o => { o with account := none }).view (by simp)

/-- RESTART leaves no record linked (R23). -/
theorem restarted (s : State) : s.restarted.deliveryOk := by
  refine of_unlinked fun i x hx => ?_
  rw [State.offtake_restarted] at hx
  obtain ⟨o, _, hafter⟩ := Option.bind_eq_some_iff.mp hx
  unfold Offtake.afterRestart at hafter
  split at hafter
  · cases hafter
  · cases hafter
    rfl

/-- Every request keeps the law of the queue. -/
theorem request (h : s.deliveryOk) (p : PortId) (r : Request) : (replyOf p r s).state.deliveryOk := by
  cases hw : writesRecords r with
  | false =>
    by_cases hpop : r = .popCurtail
    · subst hpop
      exact h.reqPopCurtail p
    · exact h.view (replyOf_serviceView p hw hpop s)
  | true =>
    cases r <;> simp only [writesRecords, Bool.false_eq_true] at hw <;> dsimp only [replyOf]
    case createOfftake b => exact h.reqCreateOfftake p b
    case amendOfftake b => exact h.reqAmendOfftake p b
    case retireOfftake i t => exact h.reqRetireOfftake p i t
    case renegotiate i t => exact h.reqRenegotiate p i t
    case release i t => exact h.reqRelease p i t
    case setPlant b => exact h.reqSetPlant p b
    case pushCurtail level => exact h.reqPushCurtail p level
    case bindAccount i t n => exact h.reqBindAccount p i t n
    case unbindAccount i t => exact h.reqUnbindAccount p i t
    case restart =>
      unfold reqRestart
      split
      · exact h
      · exact restarted s

/-- Every event keeps the law of the queue, in a part that keeps the laws of service. -/
theorem event (h : s.deliveryOk) (hs : s.serviceOk) {c : Instr} {f : State → State} (hf : eventOf c = some f) :
    (f s).deliveryOk := by
  cases c <;> simp only [eventOf, Option.some.injEq, reduceCtorEq] at hf <;> subst hf
  case writeFrame p x => exact h.view (by simp)
  case readAnswer p x => exact h.view (by simp)
  case sampleMessage bytes =>
    dsimp only
    split
    · exact h.view (by simp)
    · exact h
  case ageExpiry c => exact h.view (by simp)
  case staleTimerExpiry c => exact h.view (by simp)
  case quietHoldExpiry i => exact h.quietExpiry i
  case silenceExpiry i => exact h.silenceExpiry i
  case poll => exact h.beginPoll
  case pollTimeout => exact h.pollTimedOut
  case advert m => exact h.takeReply hs _ _ _ takeAdvert
  case status m => exact h.takeReply hs _ _ _ fun t i c ht _ => takeStatus t i c ht
  case legacy m => exact h.takeReply hs _ _ _ takeLegacy
  case setpoint => exact h.beginSetpoint
  case setpointAck m => exact h.takeAck m
  case failedAttempt => exact h.failAttempt
  case meteringTick => exact h.meteringTick
  case cut i => exact h.cutSlot i
  case idleRelease i => exact h.idleSlot i
  case passBegin => exact h.beginPass
  case passCompletion => exact h.completePass
  case recoveryHoldExpiry => exact h.recover

theorem elapse (h : s.deliveryOk) : s.elapse.deliveryOk := by
  refine h.touchAll Offtake.elapse rfl rfl fun o => ?_
  unfold Offtake.elapse
  split <;> rfl

end State.deliveryOk

/-- Every command keeps the law of the queue together with the laws of service, which it needs when a record binds. -/
theorem exec_keeps_deliveryOk : ∀ (c : Instr) (s t : State), s.serviceOk ∧ s.deliveryOk → exec c s = .next t →
    t.serviceOk ∧ t.deliveryOk := by
  refine exec_keeps (P := fun s => s.serviceOk ∧ s.deliveryOk) (fun s hs => ?_) (fun s m n hs => ?_)
    (fun p r s q _ _ hs => ?_) (fun c f s hf _ hs => ⟨hs.1.event hf, hs.2.event hs.1 hf⟩)
  · exact ⟨hs.1.view rfl, hs.2.view rfl⟩
  · refine ⟨exec_keeps_serviceOk (.resetRelease m n) s _ hs.1 rfl, State.deliveryOk.of_unlinked fun i o ho => ?_⟩
    have hvacant : ({ State.released m n with pending := s.pending } : State).offtake i = none := by
      simp only [State.offtake, State.released, Vector.getElem?_replicate]
      split <;> rfl
    rw [hvacant] at ho
    cases ho
  · exact ⟨(hs.1.request p r).view (by simp), (hs.2.request p r).view (by simp)⟩

/-- Settles O53: the operations on a slot leave it with an entry, unlinked, vacant or as the law found it. -/
theorem unconfirmedGrantsStayQueued : Obligations.UnconfirmedGrantsStayQueued := by
  intro s t hservice hdelivery hstep
  exact (step_keeps exec_keeps_deliveryOk (fun _ hs => ⟨hs.1.elapse, hs.2.elapse⟩)
    (fun _ _ hs => ⟨hs.1.view rfl, hs.2.view rfl⟩) s t ⟨hservice, hdelivery⟩ hstep).2

end Sys2Proof.Machine
end

section
/-! ## Where a grant enters the setpoint queue (R47, R48), and its delivery (R50 to R53) -/

namespace Sys2Proof.Machine

open Sys2Proof

/-! ### The queue after a grant -/

/-- A close goes between the closes and the other entries. -/
theorem insertClose_between {c : SetpointEntry} {closes rest : List SetpointEntry} (hcloses : ∀ e ∈ closes, e.close = true)
    (hrest : ∀ e ∈ rest, e.close = false) : insertClose c (closes ++ rest) = closes ++ c :: rest := by
  have htake : rest.takeWhile (·.close) = [] := by
    cases rest with
    | nil => rfl
    | cons e rest => exact List.takeWhile_cons_of_neg (by simp [hrest e])
  have hdrop : rest.dropWhile (·.close) = rest := by
    cases rest with
    | nil => rfl
    | cons e rest => exact List.dropWhile_cons_of_neg (by simp [hrest e])
  rw [insertClose, List.takeWhile_append_of_pos hcloses, List.dropWhile_append_of_pos hcloses, htake, hdrop,
    List.append_nil]

/-- A slot without an entry. -/
theorem queueAfterGrant_absent {i g a : Nat} {q : List SetpointEntry} (h : ∀ e ∈ q, e.slot ≠ i) :
    queueAfterGrant i g a q =
      if g = a then q else if g = 0 then insertClose ⟨i, true, 0, false⟩ q else q ++ [⟨i, false, 0, false⟩] := by
  have hfind : q.find? (·.slot = i) = none := List.find?_eq_none.mpr (by simpa using h)
  rw [queueAfterGrant, hfind]

/-- A slot whose first entry is `e`. -/
theorem queueAfterGrant_present {i g a : Nat} {e : SetpointEntry} {before rest : List SetpointEntry} (hslot : e.slot = i)
    (hbefore : ∀ x ∈ before, x.slot ≠ i) :
    queueAfterGrant i g a (before ++ e :: rest) =
      if e.close = false ∧ g = 0 then insertClose { e with close := true } ((before ++ e :: rest).filter (·.slot ≠ i))
      else before ++ e :: rest := by
  have hnone : before.find? (·.slot = i) = none := List.find?_eq_none.mpr (by simpa using hbefore)
  have hfind : (before ++ e :: rest).find? (·.slot = i) = some e := by
    rw [List.find?_append, hnone, List.find?_cons_of_pos (by simpa using hslot)]
    rfl
  rw [queueAfterGrant, hfind]
  simp

/-- Settles O47: by whether the slot has an entry, and of which kind. -/
theorem grantsEnterTheSetpointQueue : Obligations.GrantsEnterTheSetpointQueue := by
  intro i grant ack q
  refine ⟨fun hnone => ?_, ?_, ?_⟩
  · rw [queueAfterGrant_absent hnone]
    refine ⟨fun hsame => if_pos hsame, fun hwaits hsome => by rw [if_neg hwaits, if_neg hsome], ?_⟩
    rintro closes rest hwaits hzero rfl hcloses hrest
    rw [if_neg hwaits, if_pos hzero]
    exact insertClose_between hcloses hrest
  · rintro closes rest e after rfl hslot hcloses hrest hafter hordinary
    have hbefore : ∀ x ∈ closes ++ rest, x.slot ≠ i := fun x hx =>
      (List.mem_append.mp hx).elim (fun h => (hcloses x h).2) fun h => (hrest x h).2
    rw [queueAfterGrant_present hslot hbefore]
    refine ⟨fun hsome => if_neg fun c => hsome c.2, fun hzero => ?_⟩
    have hothers : (closes ++ rest ++ e :: after).filter (·.slot ≠ i) = closes ++ (rest ++ after) := by
      rw [List.filter_append, List.filter_cons_of_neg (by simpa using hslot),
        List.filter_eq_self.mpr fun x hx => by simpa using hbefore x hx,
        List.filter_eq_self.mpr fun x hx => by simpa using (hafter x hx).2, List.append_assoc]
    rw [if_pos ⟨hordinary, hzero⟩, hothers, insertClose_between (fun x hx => (hcloses x hx).1), List.append_assoc]
    · rfl
    · exact fun x hx => (List.mem_append.mp hx).elim (fun h => (hrest x h).1) fun h => (hafter x h).1
  · rintro before e after rfl hslot hbefore hclose
    rw [queueAfterGrant_present hslot hbefore, if_neg (by simp [hclose])]

/-! ### The setpoint exchange -/

/-- SETPOINT with the link given to the queue (R50). -/
theorem State.beginSetpoint_eq {s : State} {e : SetpointEntry} {rest : List SetpointEntry} {o : Offtake}
    (hidle : s.exchange = none) (hturn : s.afterPoll = true) (hqueue : s.setpointQueue = e :: rest)
    (ho : s.offtake e.slot = some o) :
    s.beginSetpoint = { s with
      setpointQueue := { e with inFlight := true } :: rest
      exchange := some (.setpoint e.slot o.addr o.grant false)
      replyMs := 0
      ltx := linkBytes .setpoint (BitVec.ofNat 8 o.addr)
        (beBytes 4 o.grant ++ beBytes 1 ((o.mode.map (·.bit)).getD (Config.absentCode .mode))) } := by
  simp [State.beginSetpoint, hidle, hturn, hqueue, ho]

/-- The part once the acknowledgement of the value `v` is written and the slot's entry is gone (R52). -/
def State.acknowledged (s : State) (i v : Nat) : State :=
  (s.afterSetpointExchange.modOfftake i fun o => { o with ackGrant := v }).dropEntry i

theorem State.acknowledge_eq {s : State} {i v : Nat} {o : Offtake} (ho : s.offtake i = some o) :
    s.acknowledge i v =
      if o.retiring = true ∧ v = 0 then (s.acknowledged i v).free i else (s.acknowledged i v).handGrant i := by
  simp only [State.acknowledge, ho, Bool.and_eq_true, decide_eq_true_eq]
  rfl

theorem State.acknowledged_eq {s : State} {i v : Nat} {o : Offtake} (ho : s.offtake i = some o) :
    s.acknowledged i v = { s.afterSetpointExchange.putOfftake i (some { o with ackGrant := v }) with
      setpointQueue := s.setpointQueue.filter (·.slot ≠ i) } := by
  rw [State.acknowledged, State.modOfftake_eq (s := s.afterSetpointExchange) ho]
  rfl

theorem State.offtake_acknowledged {s : State} {i v : Nat} {o : Offtake} (ho : s.offtake i = some o) :
    (s.acknowledged i v).offtake i = some { o with ackGrant := v } := by
  rw [State.acknowledged_eq ho]
  exact State.offtake_putOfftake_self (s := s.afterSetpointExchange) ho _

/-- The record is handed on with what it has acknowledged (R47, R52). -/
theorem State.handGrant_acknowledged {s : State} {i v : Nat} {o : Offtake} (ho : s.offtake i = some o) :
    (s.acknowledged i v).handGrant i =
      { s.afterSetpointExchange.putOfftake i (some { o with ackGrant := v }) with
        setpointQueue := if o.linked then
            queueAfterGrant i o.grant v (s.setpointQueue.filter (·.slot ≠ i))
          else s.setpointQueue.filter (·.slot ≠ i) } := by
  rw [State.handGrant, State.offtake_acknowledged ho, State.acknowledged_eq ho]
  cases hl : o.linked <;> simp only [Offtake.linked] at hl <;> simp [Offtake.linked, hl]

/-- The acknowledgement of a close frees a retiring record (R20, R52). -/
theorem State.free_acknowledged {s : State} {i v : Nat} {o : Offtake} (ho : s.offtake i = some o) :
    let t := (s.acknowledged i v).free i
    t.offtake i = none ∧ t.setpointQueue = s.setpointQueue.filter (·.slot ≠ i) ∧ t.exchange = none
      ∧ t.accounts = (s.unbindCount o.account).accounts ∧ ∀ j, j ≠ i → t.offtake j = s.offtake j := by
  have hself := State.offtake_acknowledged (v := v) ho
  have hput := State.acknowledged_eq (v := v) ho
  refine ⟨by rw [State.offtake_free, if_pos rfl], ?_, ?_, ?_, fun j hj => ?_⟩
  · rw [State.free_setpointQueue hself, hput]
    simp [List.filter_filter]
  · rw [State.free_exchange hself, hput]
    rfl
  · rw [State.free_accounts hself]
    exact State.unbindCount_congr (by rw [hput]; rfl) _
  · rw [State.offtake_free, if_neg hj.symm, hput]
    exact State.offtake_putOfftake_ne s.afterSetpointExchange _ hj

/-- A failed attempt of an exchange that is not abandoned (R53). -/
theorem State.failAttempt_eq {s : State} {i addr v : Nat} (hx : s.exchange = some (.setpoint i addr v false)) :
    s.failAttempt =
      if 2 ≤ s.attempts i then (s.afterSetpointExchange.enterQuiet i).raise .linkDown i
      else { s.afterSetpointExchange with
        setpointQueue := s.setpointQueue.map fun e =>
          if e.slot = i then { e with attempts := e.attempts + 1, inFlight := false } else e } := by
  rw [State.failAttempt, hx]
  rfl

/-- Settles O46: SETPOINT begins the exchange, SETPOINT_ACK acknowledges it or fails it, FAILED_ATTEMPT fails it. -/
theorem setpointExchangeCompletes : Obligations.SetpointExchangeCompletes := by
  intro s hrun
  refine ⟨fun e rest o hidle hturn hqueue ho => ?_, fun i addr v o hx ho => ?_⟩
  · have hbegun := State.beginSetpoint_eq hidle hturn hqueue ho
    refine ⟨s.beginSetpoint, exec_running rfl hrun, ?_, fun m hm => ?_⟩
    · rw [hbegun]
    · rw [hbegun, hm]
      rfl
  · have hfail : exec .failedAttempt s = .next s.failAttempt := exec_running rfl hrun
    refine ⟨fun m haddr hack => ?_, fun m hbad => ?_, fun hfew => ?_, fun hthird => ?_⟩
    · have hexec : exec (.setpointAck m) s = .next (s.acknowledge i v) := by
        rw [exec_running (f := (·.takeAck m)) rfl hrun, State.takeAck, hx]
        exact congrArg _ (if_pos ⟨haddr, hack⟩)
      rw [hexec, State.acknowledge_eq ho]
      refine ⟨fun hretiring hzero => ⟨(s.acknowledged i v).free i, ?_, State.free_acknowledged ho⟩, fun hstays => ?_⟩
      · rw [if_pos ⟨hretiring, hzero⟩]
      · rw [if_neg (by rcases hstays with h | h <;> simp [h]), State.handGrant_acknowledged ho]
    · have hnot : ¬ (m.addr.toNat = addr ∧ readAck m = some v) := fun c => hbad.elim (· c.1) (· c.2)
      rw [hfail, exec_running (f := (·.takeAck m)) rfl hrun, State.takeAck, hx]
      exact congrArg _ (if_neg hnot)
    · rw [hfail, State.failAttempt_eq hx, if_neg (Nat.not_le.mpr hfew)]
    · rw [hfail, State.failAttempt_eq hx, if_pos hthird]

end Sys2Proof.Machine
end

section
/-! ## CUT and IDLE_RELEASE (R57, R59) -/

namespace Sys2Proof.Machine

open Sys2Proof

/-- A record as a cut leaves it (R57). -/
def Offtake.afterCut (o : Offtake) : Offtake :=
  { o with supply := .cut, grant := 0, split := o.split.map fun _ => ⟨0, 0, 0⟩, overdrawTimer := 0, idleTimer := 0 }

theorem State.offtake_cutRecord (s : State) (i j : Nat) :
    (s.cutRecord i).offtake j = if i = j then (s.offtake j).map Offtake.afterCut else s.offtake j := by
  simp only [State.cutRecord, State.offtake_raise, State.offtake_unlist, State.offtake_modOfftake,
    State.offtake_withdraw]
  split
  · rw [Option.map_map]
    rfl
  · rfl

theorem State.cutRecord_setpointQueue {s : State} {i : Nat} {o : Offtake} (ho : s.offtake i = some o) :
    (s.cutRecord i).setpointQueue =
      if o.linked then queueAfterGrant i 0 o.ackGrant s.setpointQueue else s.setpointQueue := by
  rw [← State.withdraw_setpointQueue ho .cut]
  simp [State.cutRecord]

theorem State.cutRecord_pass (s : State) (i : Nat) : (s.cutRecord i).pass = (s.voidEntry i).pass := by
  simp [State.cutRecord, State.withdraw_pass]

theorem State.cutRecord_notices (s : State) (i : Nat) : (s.cutRecord i).notices = (s.raise .cut i).notices := by
  unfold State.cutRecord
  rw [State.withdraw_frame]
  simp [State.raise]

theorem State.listed_cutRecord (s : State) (i : Nat) : (s.cutRecord i).listed = s.listed.filter (· ≠ i) := by
  have hlists : ((s.withdraw i .cut).modOfftake i fun o => { o with overdrawTimer := 0, idleTimer := 0 }).listed
      = s.listed := by
    refine State.listed_of_lists ?_ ?_
    · rw [State.modOfftake_stack, State.withdraw_frame]
    · rw [State.modOfftake_readmission, State.withdraw_frame]
  rw [← hlists, ← State.listed_unlist]
  rfl

/-- The idle release of a record that stays (R59). -/
theorem State.releaseIdle_eq {s : State} {i : Nat} {o : Offtake} (ho : s.offtake i = some o) (hlive : o.retiring = false) :
    s.releaseIdle i =
      if s.plant.lockoutLimit ≤ o.overdrawCount + 1 then
        ((s.putOfftake i (some { o with
          idleTimer := 0, overdrawCount := o.overdrawCount + 1, supply := .lockout })).raise .lockout i).enterQuiet i
      else (s.putOfftake i (some { o with
        idleTimer := 0, overdrawCount := o.overdrawCount + 1, supply := .held })).enterQuiet i := by
  rw [State.releaseIdle, ho]
  dsimp only
  rw [if_neg (by simp [hlive]), State.modOfftake_eq ho]
  by_cases hreached : s.plant.lockoutLimit ≤ o.overdrawCount + 1 <;> simp [hreached]

theorem State.releaseIdle_retiring {s : State} {i : Nat} {o : Offtake} (ho : s.offtake i = some o)
    (hretiring : o.retiring = true) : s.releaseIdle i = s.free i := by
  rw [State.releaseIdle, ho]
  exact if_pos hretiring

/-- Settles O49: the two commands are `cutRecord` and `releaseIdle` on the records they speak of. -/
theorem cutAndIdleReleaseComplete : Obligations.CutAndIdleReleaseComplete := by
  intro s i o hrun ho
  have hrelease : o.supply = .cut → exec (.idleRelease i) s = .next (s.releaseIdle i) := fun hcut => by
    rw [exec_running (f := (·.idleSlot i)) rfl hrun, State.idleSlot, ho]
    exact congrArg _ (if_pos hcut)
  refine ⟨fun hsupplied => ⟨s.cutRecord i, ?_, ?_, fun j hj => ?_, s.listed_cutRecord i, fun ps hps => ?_,
    State.cutRecord_setpointQueue ho, s.cutRecord_notices i, s.cutRecord_frame i⟩, fun hcut hretiring => ?_,
    fun hcut hlive hbelow => ?_, fun hcut hlive hreached => ?_⟩
  · rw [exec_running (f := (·.cutSlot i)) rfl hrun, State.cutSlot, ho]
    exact congrArg _ (if_pos hsupplied)
  · rw [State.offtake_cutRecord, if_pos rfl, ho]
    rfl
  · rw [State.offtake_cutRecord, if_neg hj.symm]
  · rw [State.cutRecord_pass] at hps
    exact State.void_of_voidEntry hps
  · rw [hrelease hcut, State.releaseIdle_retiring ho hretiring]
  · rw [hrelease hcut, State.releaseIdle_eq ho hlive, if_neg (Nat.not_le.mpr hbelow)]
  · rw [hrelease hcut, State.releaseIdle_eq ho hlive, if_pos hreached]

end Sys2Proof.Machine
end

section
/-! ## PUSH_CURTAIL and POP_CURTAIL (R142, R148, R149) -/

namespace Sys2Proof.Machine

open Sys2Proof

/-- The sheds void their entries in the pass in flight (R109). -/
theorem pass_shedEach (is : List Nat) : ∀ s : State,
    (s.shedEach is).1.pass = s.pass.map fun ps => { ps with
      table := ps.table.map fun e => if e.slot ∈ (s.shedEach is).2 then { e with void := true } else e } := by
  induction is with
  | nil =>
    intro s
    simp [State.shedEach]
  | cons i is ih =>
    intro s
    unfold State.shedEach
    split
    · dsimp only
      rw [ih, State.shed, State.withdraw_pass, State.voidEntry, Option.map_map]
      congr 1
      funext ps
      simp only [Function.comp_apply, List.map_map]
      congr 1
      refine List.map_congr_left fun e _ => ?_
      by_cases hi : e.slot = i <;> simp [hi]
    · exact ih s

/-- The slots that a push without a lead sweeps. -/
theorem State.sweptSlots_nil (s : State) (level : Nat) :
    s.sweptSlots level [] =
      slotNumbers.filter fun i => (s.offtake i).any fun o => o.supply = .active && !admits level o.prio := by
  simp [State.sweptSlots]

theorem State.mem_sweptSlots_nil {s : State} {level i : Nat} {o : Offtake} (ho : s.offtake i = some o) :
    i ∈ s.sweptSlots level [] ↔ o.supply = .active ∧ admits level o.prio = false := by
  simp [State.sweptSlots_nil, mem_slotNumbers, State.offtake_lt ho, ho]

/-- What a push without a lead leaves of a record (R142). -/
theorem State.offtake_push {s : State} {level : Nat} {origin : Origin} {cause : Cause} (i : Nat) :
    (s.push level origin cause []).offtake i = (s.offtake i).map fun o =>
      if o.supply = .active ∧ admits level o.prio = false then o.afterShed else o := by
  rw [State.push_eq, State.offtake_raise]
  refine (s.offtake_shedAt level [] i).trans ?_
  cases ho : s.offtake i with
  | none => simp
  | some o =>
    simp only [State.shedEach, List.nil_append, State.mem_sweptSlots_nil ho, Option.map_some]
    split <;> rfl

/-- A push hands the grants it zeroes on in the order of its sheds (R47, R48, R142). -/
theorem State.setpointQueue_push (s : State) (level : Nat) (origin : Origin) (cause : Cause) :
    (s.push level origin cause []).setpointQueue =
      (s.sweptSlots level []).foldl (fun queue i => match s.offtake i with
        | some o => if o.linked then queueAfterGrant i 0 o.ackGrant queue else queue
        | none => queue) s.setpointQueue := by
  have hqueue : (s.push level origin cause []).setpointQueue = (s.shedAt level []).setpointQueue := by
    rw [State.push_eq]
    rfl
  rw [hqueue, State.setpointQueue_shedAt]
  refine List.foldl_ext _ _ _ fun queue i hi => ?_
  unfold State.handed
  cases ho : s.offtake i with
  | none => rfl
  | some o => simp [((State.mem_sweptSlots_nil ho).mp hi).1]

theorem State.pass_push (s : State) (level : Nat) (origin : Origin) (cause : Cause) :
    (s.push level origin cause []).pass = s.pass.map fun ps => { ps with
      table := ps.table.map fun e => if e.slot ∈ s.sweptSlots level [] then { e with void := true } else e } := by
  have hpass : (s.push level origin cause []).pass = (s.shedAt level []).pass := by
    rw [State.push_eq]
    rfl
  have hswept := shedEach_swept s level []
  simp only [State.shedEach] at hswept
  rw [hpass, State.shedAt]
  simp only [State.shedEach]
  rw [pass_shedEach, hswept]

theorem reqPushCurtail_checked {p : PortId} {level : Nat} {s : State} (hright : s.hasRight p .operate = true)
    (habove : s.level < level) (htop : level ≤ 4) :
    reqPushCurtail p level s = (s.push level .manual .operator []).accept := by
  rw [reqPushCurtail, if_neg (by simp [hright]), if_neg (by omega), if_neg (Nat.not_le.mpr habove)]

theorem reqPopCurtail_checked {p : PortId} {s : State} {c : Context} {below : List Context}
    (hright : s.hasRight p .operate = true) (hstack : s.stack = c :: below) (hmanual : c.origin = .manual) :
    reqPopCurtail p s = s.pop.accept := by
  simp [reqPopCurtail, hright, hstack, hmanual]

/-- Settles O25: an accepted push is `push` without a lead, an accepted pop is `pop`. -/
theorem pushAndPopComplete : Obligations.PushAndPopComplete := by
  intro p s q hright
  refine ⟨fun level htakes habove htop => ?_, fun c below htakes hstack hmanual => ?_⟩
  · have hlists : (s.push level .manual .operator []).stack = ⟨level, .manual, .operator,
        s.sweptSlots level [] ++ s.readmission.filter fun i => !admits level (s.prioOf i)⟩ :: s.stack
        ∧ (s.push level .manual .operator []).readmission = s.readmission.filter fun i => admits level (s.prioOf i) := by
      rw [State.push_eq]
      exact ⟨rfl, rfl⟩
    rw [← State.sweptSlots_nil]
    refine ⟨s.push level .manual .operator [], _, ?_, hlists.1, by rw [State.push_frame], rfl, hlists.2,
      fun i x hx hactive => ?_, fun i o ho => ?_, by rw [State.push_frame], s.setpointQueue_push level _ _,
      s.pass_push level _ _, ?_⟩
    · exact exec_reply htakes (reqPushCurtail_checked hright habove htop)
    · rw [State.offtake_push, Option.map_eq_some_iff] at hx
      obtain ⟨o, ho, hafter⟩ := hx
      split at hafter
      · subst hafter
        cases hactive
      · next hkept =>
        subst hafter
        exact ⟨by simpa [hactive] using hkept, ho⟩
    · rw [State.offtake_push, ho]
      rfl
    · rw [State.push_frame]
  · exact exec_reply htakes (reqPopCurtail_checked hright hstack hmanual)

end Sys2Proof.Machine
end

section
/-! ## The draw monitor at a tick (R55 to R59)

What a tick does to a slot is said once, as a judgement of its record alone (`State.judge`) and its carrying out
(`State.carryOut`): the judgement reads the channels and the plant record, which no carrying out writes, so the slots are
judged independently of one another. -/

namespace Sys2Proof.Machine

open Sys2Proof

/-- The judgement of a record at a tick: it stays as given, or is cut, or its tenth idle second releases it. -/
inductive Judgement where
  | stays (o : Offtake)
  | cuts (o : Offtake)
  | releases (o : Offtake)

/-- R55, R56: the judgement of a supervised record. -/
def State.judgeDraw (s : State) (o : Offtake) : Judgement :=
  if s.bindingsNormal o = false then .stays { o with idleTimer := 0 }
  else if s.overdraws o = false then .stays { o with overdrawTimer := 0, idleTimer := 0 }
  else if s.plant.overdrawLimit ≤ o.overdrawTimer + 1 then
    .cuts { o with overdrawTimer := o.overdrawTimer + 1, idleTimer := 0 }
  else .stays { o with overdrawTimer := o.overdrawTimer + 1, idleTimer := 0 }

/-- R58: the judgement of a CUT record whose first channel is `ch`. -/
def Offtake.judgeIdle (o : Offtake) (ch : Option Channel) : Judgement :=
  match ch with
  | none => .stays { o with overdrawTimer := 0 }
  | some c =>
    if c.condition ≠ .normal then .stays { o with overdrawTimer := 0 }
    else if c.flowIdle = false then .stays { o with overdrawTimer := 0, idleTimer := 0 }
    else if 10 ≤ o.idleTimer + 1 then .releases { o with overdrawTimer := 0, idleTimer := o.idleTimer + 1 }
    else .stays { o with overdrawTimer := 0, idleTimer := o.idleTimer + 1 }

/-- R55: a record is judged by its supply state. -/
def State.judge (s : State) (o : Offtake) : Judgement :=
  match o.supply with
  | .active => s.judgeDraw o
  | .shed => s.judgeDraw o
  | .cut => o.judgeIdle s.channels[o.bind1]?
  | .held => .stays { o with overdrawTimer := 0, idleTimer := 0 }
  | .lockout => .stays { o with overdrawTimer := 0, idleTimer := 0 }

/-- The judgement carried out in its slot. -/
def State.carryOut (s : State) (i : Nat) : Judgement → State
  | .stays o => s.putOfftake i (some o)
  | .cuts o => (s.putOfftake i (some o)).cutRecord i
  | .releases o => (s.putOfftake i (some o)).releaseIdle i

theorem State.putOfftake_putOfftake (s : State) (i : Nat) (o o' : Option Offtake) :
    (s.putOfftake i o).putOfftake i o' = s.putOfftake i o' := by
  simp [State.putOfftake, Vector.setIfInBounds_setIfInBounds]

theorem State.modOfftake_putOfftake {s : State} {i : Nat} {o o' : Offtake} (ho : s.offtake i = some o)
    (f : Offtake → Offtake) : (s.putOfftake i (some o')).modOfftake i f = s.putOfftake i (some (f o')) := by
  rw [State.modOfftake_eq (State.offtake_putOfftake_self ho o'), State.putOfftake_putOfftake]

theorem State.superviseDraw_eq {s : State} {i : Nat} {o : Offtake} (ho : s.offtake i = some o) :
    s.superviseDraw i o = s.carryOut i (s.judgeDraw o) := by
  unfold State.superviseDraw State.judgeDraw
  simp only [State.modOfftake_eq ho, Bool.not_eq_true']
  repeat' split
  all_goals rfl

theorem State.superviseIdle_eq {s : State} {i : Nat} {o : Offtake} (ho : s.offtake i = some o) :
    s.superviseIdle i o = s.carryOut i (o.judgeIdle s.channels[o.bind1]?) := by
  unfold State.superviseIdle
  simp only [State.modOfftake_eq ho, State.modOfftake_putOfftake ho, State.putOfftake_channels, Bool.not_eq_true']
  cases s.channels[o.bind1]? with
  | none => rfl
  | some c =>
    unfold Offtake.judgeIdle
    dsimp only [Config.idleSeconds]
    repeat' split
    all_goals rfl

theorem State.judge_supplied {s : State} {o : Offtake} (h : o.supply = .active ∨ o.supply = .shed) :
    s.judge o = s.judgeDraw o := by
  rcases h with h | h <;> simp only [State.judge, h]

theorem State.judge_cut {s : State} {o : Offtake} (h : o.supply = .cut) :
    s.judge o = o.judgeIdle s.channels[o.bind1]? := by
  simp only [State.judge, h]

theorem State.judge_out {s : State} {o : Offtake} (h : o.supply = .held ∨ o.supply = .lockout) :
    s.judge o = .stays { o with overdrawTimer := 0, idleTimer := 0 } := by
  rcases h with h | h <;> simp only [State.judge, h]

/-- The draw monitor carries out the judgement of the slot's record. -/
theorem State.supervise_eq {s : State} {i : Nat} {o : Offtake} (ho : s.offtake i = some o) :
    s.supervise i = s.carryOut i (s.judge o) := by
  rw [State.supervise, ho]
  dsimp only
  split
  · next hs => rw [State.judge_supplied (.inl hs), State.superviseDraw_eq ho]
  · next hs => rw [State.judge_supplied (.inr hs), State.superviseDraw_eq ho]
  · next hs => rw [State.judge_cut hs, State.superviseIdle_eq ho]
  · next hs => rw [State.judge_out (.inl hs), State.modOfftake_eq ho, State.carryOut]
  · next hs => rw [State.judge_out (.inr hs), State.modOfftake_eq ho, State.carryOut]

theorem State.supervise_vacant {s : State} {i : Nat} (ho : s.offtake i = none) : s.supervise i = s := by
  rw [State.supervise, ho]

/-! ### What carrying a judgement out does -/

/-- A CUT record charged with its overdraw, HELD or locked out (R59). -/
def Offtake.charged (limit : Nat) (o : Offtake) : Offtake :=
  { o with
    idleTimer := 0
    overdrawCount := o.overdrawCount + 1
    supply := if limit ≤ o.overdrawCount + 1 then .lockout else .held }

/-- The part with the slot's record `o` charged, and its lockout noted (R59). -/
def State.chargedAt (s : State) (i : Nat) (o : Offtake) : State :=
  { s.putOfftake i (some (o.charged s.plant.lockoutLimit)) with
    notices := if s.plant.lockoutLimit ≤ o.overdrawCount + 1 then (s.raise .lockout i).notices else s.notices }

theorem State.offtake_chargedAt {s : State} {i : Nat} {o : Offtake} (ho : s.offtake i = some o) (x : Offtake) (j : Nat) :
    (s.chargedAt i x).offtake j = if i = j then some (x.charged s.plant.lockoutLimit) else s.offtake j := by
  have hput : (s.chargedAt i x).offtake j = (s.putOfftake i (some (x.charged s.plant.lockoutLimit))).offtake j := rfl
  rw [hput, State.offtake_putOfftake]
  simp [State.offtake_lt ho]

/-- The idle release of a record that stays: it is charged, noted if it is locked out, and enters QUIET (R59). -/
theorem State.releaseIdle_live {s : State} {i : Nat} {o : Offtake} (ho : s.offtake i = some o)
    (hlive : o.retiring = false) : s.releaseIdle i = (s.chargedAt i o).enterQuiet i := by
  rw [State.releaseIdle_eq ho hlive, State.chargedAt, Offtake.charged]
  by_cases hlock : s.plant.lockoutLimit ≤ o.overdrawCount + 1
  · simp only [if_pos hlock]
    rfl
  · simp only [if_neg hlock]
    rfl

/-- The record after its judgement, under a lockout limit. -/
def Judgement.record (limit : Nat) : Judgement → Option Offtake
  | .stays o => some o
  | .cuts o => some o.afterCut
  | .releases o => if o.retiring then none else some (o.charged limit).quietedFrom

/-- The judgement raises a notice of the kind. -/
def Judgement.raises (limit : Nat) (k : NoticeKind) : Judgement → Bool
  | .stays _ => false
  | .cuts _ => decide (k = .cut)
  | .releases o => decide (k = .lockout) && !o.retiring && decide (limit ≤ o.overdrawCount + 1)

/-- The judgement frees a record that names the account. -/
def Judgement.freesNaming (n : Nat) : Judgement → Bool
  | .stays _ => false
  | .cuts _ => false
  | .releases o => o.retiring && decide (o.account = some n)

theorem State.offtake_releaseIdle {s : State} {i : Nat} {o : Offtake} (ho : s.offtake i = some o) (j : Nat) :
    (s.releaseIdle i).offtake j =
      if i = j then (Judgement.releases o).record s.plant.lockoutLimit else s.offtake j := by
  cases hr : o.retiring with
  | true => simp [State.releaseIdle_retiring ho hr, State.offtake_free, Judgement.record, hr]
  | false =>
    have hcharged := State.offtake_chargedAt ho o
    rw [State.releaseIdle_live ho hr]
    by_cases hij : i = j
    · subst hij
      have hself : (s.chargedAt i o).offtake i = some (o.charged s.plant.lockoutLimit) := by rw [hcharged, if_pos rfl]
      rw [State.offtake_enterQuiet hself, if_pos rfl]
      simp [Judgement.record, Offtake.charged, hr]
    · rw [State.offtake_enterQuiet_ne _ hij, hcharged, if_neg hij, if_neg hij]

theorem State.offtake_carryOut {s : State} {i : Nat} {o : Offtake} (ho : s.offtake i = some o) (v : Judgement) (j : Nat) :
    (s.carryOut i v).offtake j = if i = j then v.record s.plant.lockoutLimit else s.offtake j := by
  have hput : ∀ o', (s.putOfftake i (some o')).offtake j = if i = j then some o' else s.offtake j := by
    intro o'
    rw [State.offtake_putOfftake]
    simp [State.offtake_lt ho]
  cases v with
  | stays o' => exact hput o'
  | cuts o' =>
    rw [State.carryOut, State.offtake_cutRecord, hput]
    split <;> rfl
  | releases o' =>
    rw [State.carryOut, State.offtake_releaseIdle (State.offtake_putOfftake_self ho o'), hput]
    split <;> rfl

theorem State.carryOut_frame (s : State) (i : Nat) (v : Judgement) :
    s.carryOut i v = { s with
      slots := (s.carryOut i v).slots
      setpointQueue := (s.carryOut i v).setpointQueue
      exchange := (s.carryOut i v).exchange
      pass := (s.carryOut i v).pass
      stack := (s.carryOut i v).stack
      readmission := (s.carryOut i v).readmission
      accounts := (s.carryOut i v).accounts
      notices := (s.carryOut i v).notices } := by
  cases v with
  | stays o => rfl
  | cuts o =>
    simp only [State.carryOut]
    rw [State.cutRecord_frame]
    ext1 <;> simp
  | releases o =>
    simp only [State.carryOut]
    rw [State.releaseIdle_frame]
    ext1 <;> simp

theorem State.notice_releaseIdle {s : State} {i : Nat} {o : Offtake} (ho : s.offtake i = some o) (k : NoticeKind) :
    (s.releaseIdle i).notice k =
      if (Judgement.releases o).raises s.plant.lockoutLimit k then (s.notice k).raise i else s.notice k := by
  cases hr : o.retiring with
  | true =>
    rw [State.releaseIdle_retiring ho hr, State.notice_of_notices (s.free_notices i)]
    simp [Judgement.raises, hr]
  | false =>
    rw [State.releaseIdle_live ho hr, State.notice_of_notices (State.enterQuiet_notices _ i)]
    simp only [Judgement.raises, hr, Bool.not_false, Bool.and_true, Bool.and_eq_true, decide_eq_true_eq]
    by_cases hlock : s.plant.lockoutLimit ≤ o.overdrawCount + 1
    · have hnoted : (s.chargedAt i o).notices = (s.raise .lockout i).notices := if_pos hlock
      simp only [hlock, and_true]
      rw [State.notice_of_notices hnoted, State.notice_raise]
    · have hkept : (s.chargedAt i o).notices = s.notices := if_neg hlock
      simp only [hlock, and_false, if_false]
      exact State.notice_of_notices hkept k

theorem State.notice_carryOut {s : State} {i : Nat} {o : Offtake} (ho : s.offtake i = some o) (v : Judgement)
    (k : NoticeKind) :
    (s.carryOut i v).notice k = if v.raises s.plant.lockoutLimit k then (s.notice k).raise i else s.notice k := by
  cases v with
  | stays o' => rfl
  | cuts o' =>
    rw [State.carryOut, State.notice_of_notices (State.cutRecord_notices _ i), State.notice_raise]
    simp only [Judgement.raises, decide_eq_true_eq]
    rfl
  | releases o' => exact State.notice_releaseIdle (State.offtake_putOfftake_self ho o') k

/-- Freeing a record lowers the bound count of the account that it names (R21, R167). -/
theorem State.accountAt_free {s : State} {i : Nat} {o : Offtake} (hs : s.numbersDistinct) (ho : s.offtake i = some o)
    (e : Nat) :
    (s.free i).accountAt e = (s.accountAt e).map fun a =>
      { a with boundCount := a.boundCount - if o.account = some a.number then 1 else 0 } := by
  have haccounts : (s.free i).accountAt e = (s.unbindCount o.account).accountAt e := by
    rw [State.accountAt, State.free_accounts ho, State.accountAt]
  rw [haccounts]
  cases o.account with
  | none => simp [State.unbindCount]
  | some n =>
    rw [State.unbindCount, State.accountAt_modAccount hs]
    congr 1
    funext a
    by_cases ha : a.number = n
    · simp [ha]
    · simp [ha, Ne.symm ha]

theorem State.carryOut_accounts {s : State} {i : Nat} {o : Offtake} (ho : s.offtake i = some o) {v : Judgement}
    (hlive : ∀ o', v = .releases o' → o'.retiring = false) : (s.carryOut i v).accounts = s.accounts := by
  cases v with
  | stays o' => rfl
  | cuts o' => rw [State.carryOut, State.cutRecord_frame]; rfl
  | releases o' =>
    have hput := State.offtake_putOfftake_self ho o'
    have hr := hlive o' rfl
    have hcharged := State.offtake_chargedAt hput o' i
    rw [if_pos rfl] at hcharged
    rw [State.carryOut, State.releaseIdle_live hput hr, State.enterQuiet_accounts hcharged]
    simp only [Offtake.charged, hr, Bool.false_eq_true, and_false, if_false]
    rfl

theorem State.accountAt_carryOut {s : State} {i : Nat} {o : Offtake} (hs : s.numbersDistinct) (ho : s.offtake i = some o)
    (v : Judgement) (e : Nat) :
    (s.carryOut i v).accountAt e = (s.accountAt e).map fun a =>
      { a with boundCount := a.boundCount - if v.freesNaming a.number then 1 else 0 } := by
  have hkept : (∀ n, v.freesNaming n = false) → (∀ o', v = .releases o' → o'.retiring = false) →
      (s.carryOut i v).accountAt e = (s.accountAt e).map fun a =>
        { a with boundCount := a.boundCount - if v.freesNaming a.number then 1 else 0 } := by
    intro h hlive
    rw [State.accountAt, State.carryOut_accounts ho hlive, State.accountAt]
    simp [h]
  cases v with
  | stays o' => exact hkept (fun _ => rfl) (by simp)
  | cuts o' => exact hkept (fun _ => rfl) (by simp)
  | releases o' =>
    cases hr : o'.retiring with
    | false =>
      refine hkept (fun n => by simp [Judgement.freesNaming, hr]) fun x hx => ?_
      cases hx
      exact hr
    | true =>
      have hput := State.offtake_putOfftake_self ho o'
      rw [State.carryOut, State.releaseIdle_retiring hput hr, State.accountAt_free (s := s.putOfftake i (some o')) hs hput]
      simp only [Judgement.freesNaming, hr, Bool.true_and, decide_eq_true_eq]
      rfl

/-! ### Every slot in its order -/

theorem State.supervise_frame (s : State) (i : Nat) :
    s.supervise i = { s with
      slots := (s.supervise i).slots
      setpointQueue := (s.supervise i).setpointQueue
      exchange := (s.supervise i).exchange
      pass := (s.supervise i).pass
      stack := (s.supervise i).stack
      readmission := (s.supervise i).readmission
      accounts := (s.supervise i).accounts
      notices := (s.supervise i).notices } := by
  cases ho : s.offtake i with
  | none => rw [State.supervise_vacant ho]
  | some o =>
    rw [State.supervise_eq ho]
    exact s.carryOut_frame i _

theorem supervise_slots_frame (is : List Nat) : ∀ s : State,
    is.foldl State.supervise s = { s with
      slots := (is.foldl State.supervise s).slots
      setpointQueue := (is.foldl State.supervise s).setpointQueue
      exchange := (is.foldl State.supervise s).exchange
      pass := (is.foldl State.supervise s).pass
      stack := (is.foldl State.supervise s).stack
      readmission := (is.foldl State.supervise s).readmission
      accounts := (is.foldl State.supervise s).accounts
      notices := (is.foldl State.supervise s).notices } := by
  induction is with
  | nil => intro s; rfl
  | cons i is ih => intro s; rw [List.foldl_cons, ih, State.supervise_frame]

theorem State.judge_supervise (s : State) (i : Nat) : (s.supervise i).judge = s.judge := by
  rw [State.supervise_frame]
  rfl

theorem State.plant_supervise (s : State) (i : Nat) : (s.supervise i).plant = s.plant := by
  rw [State.supervise_frame]

theorem State.offtake_supervise (s : State) (i j : Nat) :
    (s.supervise i).offtake j =
      if i = j then (s.offtake j).bind fun o => (s.judge o).record s.plant.lockoutLimit else s.offtake j := by
  cases ho : s.offtake i with
  | none =>
    rw [State.supervise_vacant ho]
    split
    · next hij => rw [← hij, ho]; rfl
    · rfl
  | some o =>
    rw [State.supervise_eq ho, State.offtake_carryOut ho]
    split
    · next hij => rw [← hij, ho]; rfl
    · rfl

theorem offtake_supervise_slots (is : List Nat) (hnodup : is.Nodup) (j : Nat) : ∀ s : State,
    (is.foldl State.supervise s).offtake j =
      if j ∈ is then (s.offtake j).bind fun o => (s.judge o).record s.plant.lockoutLimit else s.offtake j := by
  induction is with
  | nil => intro s; simp
  | cons i is ih =>
    intro s
    obtain ⟨hi, his⟩ := List.nodup_cons.mp hnodup
    rw [List.foldl_cons, ih his, State.judge_supervise, State.plant_supervise, State.offtake_supervise]
    by_cases hij : i = j
    · subst hij
      simp [hi]
    · simp [hij, Ne.symm hij]

/-- The judgement of the slot's record raises a notice of the kind. -/
def State.tickRaises (s : State) (k : NoticeKind) (i : Nat) : Bool :=
  (s.offtake i).any fun o => (s.judge o).raises s.plant.lockoutLimit k

/-- The judgement of the slot's record frees it, and it names the account. -/
def State.tickFrees (s : State) (n i : Nat) : Bool := (s.offtake i).any fun o => (s.judge o).freesNaming n

theorem State.notice_supervise (s : State) (i : Nat) (k : NoticeKind) :
    (s.supervise i).notice k = if s.tickRaises k i then (s.notice k).raise i else s.notice k := by
  unfold State.tickRaises
  cases ho : s.offtake i with
  | none =>
    rw [State.supervise_vacant ho]
    rfl
  | some o =>
    rw [State.supervise_eq ho]
    exact State.notice_carryOut ho _ k

theorem State.tickRaises_supervise {s : State} {i j : Nat} (h : i ≠ j) (k : NoticeKind) :
    (s.supervise i).tickRaises k j = s.tickRaises k j := by
  rw [State.tickRaises, State.judge_supervise, State.plant_supervise, State.offtake_supervise, if_neg h,
    State.tickRaises]

theorem State.tickFrees_supervise {s : State} {i j : Nat} (h : i ≠ j) (n : Nat) :
    (s.supervise i).tickFrees n j = s.tickFrees n j := by
  rw [State.tickFrees, State.judge_supervise, State.offtake_supervise, if_neg h, State.tickFrees]

/-- The notices of a kind are raised in slot order. -/
theorem notice_supervise_slots (k : NoticeKind) (is : List Nat) (hnodup : is.Nodup) : ∀ s : State,
    (is.foldl State.supervise s).notice k =
      (is.filter (s.tickRaises k)).foldl (fun e i => e.raise i) (s.notice k) := by
  induction is with
  | nil => intro s; rfl
  | cons i is ih =>
    intro s
    obtain ⟨hi, his⟩ := List.nodup_cons.mp hnodup
    have hrest : is.filter ((s.supervise i).tickRaises k) = is.filter (s.tickRaises k) :=
      List.filter_congr fun j hj => State.tickRaises_supervise (by rintro rfl; exact hi hj) k
    rw [List.foldl_cons, ih his, hrest, State.notice_supervise, List.filter_cons]
    split <;> rfl

theorem State.accountAt_supervise {s : State} (hs : s.numbersDistinct) (i e : Nat) :
    (s.supervise i).accountAt e = (s.accountAt e).map fun a =>
      { a with boundCount := a.boundCount - if s.tickFrees a.number i then 1 else 0 } := by
  unfold State.tickFrees
  cases ho : s.offtake i with
  | none =>
    rw [State.supervise_vacant ho]
    simp
  | some o =>
    rw [State.supervise_eq ho]
    exact State.accountAt_carryOut hs ho _ e

/-- Each account's bound count falls by the records freed that name it, and nothing else of an account moves. -/
theorem accountAt_supervise_slots (is : List Nat) (hnodup : is.Nodup) (e : Nat) : ∀ s : State, s.numbersDistinct →
    (is.foldl State.supervise s).accountAt e = (s.accountAt e).map fun a =>
      { a with boundCount := a.boundCount - is.countP (s.tickFrees a.number) } := by
  induction is with
  | nil =>
    intro s _
    simp
  | cons i is ih =>
    intro s hs
    obtain ⟨hi, his⟩ := List.nodup_cons.mp hnodup
    have hslot := State.accountAt_supervise hs i
    have hrest : ∀ n, is.countP ((s.supervise i).tickFrees n) = is.countP (s.tickFrees n) := fun n =>
      List.countP_congr fun j hj => by rw [State.tickFrees_supervise (s := s) (i := i) fun hij => hi (hij.symm ▸ hj)]
    rw [List.foldl_cons, ih his _ (State.numbersDistinct_of_map hs hslot fun _ => rfl), hslot, Option.map_map]
    congr 1
    funext a
    simp [hrest, List.countP_cons, Nat.sub_sub, Nat.add_comm]

end Sys2Proof.Machine
end

section
/-! ## The accounts at a tick (R172, R174)

What a tick feeds an account is a function of that account alone (`State.fed`): it reads the records, the channels, the
plant and the tariff, and the feeding of an account writes none of them. -/

namespace Sys2Proof.Machine

open Sys2Proof

/-! ### One account rewritten -/

/-- From `s` to `t` the account with the number is rewritten by `f`, and no other account changes. -/
def State.rewritesAccount (n : Nat) (f : Account → Account) (s t : State) : Prop :=
  ∀ e, t.accountAt e = (s.accountAt e).map fun a => if a.number = n then f a else a

namespace State.rewritesAccount

variable {s t u : State} {n : Nat} {f g : Account → Account}

theorem distinct (h : State.rewritesAccount n f s t) (hs : s.numbersDistinct) (hf : ∀ a, (f a).number = a.number) :
    t.numbersDistinct := State.numbersDistinct_of_map hs h fun a => by split <;> simp [hf]

theorem trans (h : State.rewritesAccount n f s t) (h' : State.rewritesAccount n g t u)
    (hf : ∀ a, (f a).number = a.number) : State.rewritesAccount n (fun a => g (f a)) s u := by
  intro e
  rw [h' e, h e, Option.map_map]
  congr 1
  funext a
  by_cases ha : a.number = n <;> simp [ha, hf]

/-- Nothing changes, and the function leaves the account that has the number. -/
theorem same (h : t.accounts = s.accounts) (hf : ∀ e a, s.accountAt e = some a → a.number = n → f a = a) :
    State.rewritesAccount n f s t := by
  intro e
  rw [State.accountAt, h, ← State.accountAt]
  cases ha : s.accountAt e with
  | none => rfl
  | some a =>
    by_cases hn : a.number = n
    · simp [hn, hf e a ha hn]
    · simp [hn]

/-- Only what the function does to the account that has the number matters. -/
theorem congr (h : State.rewritesAccount n f s t) (hfg : ∀ e a, s.accountAt e = some a → a.number = n → f a = g a) :
    State.rewritesAccount n g s t := by
  intro e
  rw [h e]
  cases ha : s.accountAt e with
  | none => rfl
  | some a =>
    by_cases hn : a.number = n
    · simp [hn, hfg e a ha hn]
    · simp [hn]

theorem accounts (h : State.rewritesAccount n f s t) (hu : u.accounts = t.accounts) : State.rewritesAccount n f s u :=
  fun e => by rw [State.accountAt, hu, ← State.accountAt, h e]

end State.rewritesAccount

/-! ### The carry (R172, R173) -/

/-- An account that has taken in a figure, estimated or not (R162). -/
def Account.marked (estimated : Bool) (a : Account) : Account :=
  { a with flags := { a.flags with estimated := a.flags.estimated || estimated } }

/-- An account that has taken in `amount` kW·s: what the carry makes of it. -/
def State.carried (s : State) (amount : Nat) (a : Account) : Account :=
  if (a.residue + amount) / 3600 = 0 then { a with residue := (a.residue + amount) % 3600 }
  else ({ a with residue := (a.residue + amount) % 3600 } : Account).counted s.band ((a.residue + amount) / 3600)
    (s.lookup a.kind.medium a.key s.band)

theorem Account.counted_frame (a : Account) (b : Band) (n : Nat) (ans : PriceAnswer) :
    a.counted b n ans = { a with
      primary := (a.counted b n ans).primary
      secondary := (a.counted b n ans).secondary
      flags := (a.counted b n ans).flags } := by
  unfold Account.counted
  dsimp only
  split <;> cases b <;> rfl

/-- A carry writes the residue, the figures of the bands and the flags. -/
theorem State.carried_frame (s : State) (amount : Nat) (a : Account) :
    s.carried amount a = { a with
      residue := (s.carried amount a).residue
      primary := (s.carried amount a).primary
      secondary := (s.carried amount a).secondary
      flags := (s.carried amount a).flags } := by
  unfold State.carried
  split
  · rfl
  · rw [Account.counted_frame]

theorem State.raiseCarry_accounts (s : State) (n : Nat) (ans : PriceAnswer) :
    (s.raiseCarry n ans).accounts = s.accounts := by
  unfold State.raiseCarry
  dsimp only
  repeat' split
  all_goals rfl

/-- With distinct numbers an account is found by its number. -/
theorem State.account_of_accountAt {s : State} (hs : s.numbersDistinct) {e : Nat} {a : Account}
    (ha : s.accountAt e = some a) : s.account a.number = some a := by
  cases hentry : s.accountEntry a.number with
  | none => exact absurd rfl (State.accountEntry_none.mp hentry e a ha)
  | some k =>
    obtain ⟨b, hb, hnumber⟩ := State.accountEntry_spec hentry
    have hke : k = e := by
      by_contra hne
      exact hs k e b a hb ha hne hnumber
    rw [State.account_of_entry hentry, hke, ha]

theorem State.modAccount_rewrites {s : State} (hs : s.numbersDistinct) (n : Nat) (f : Account → Account) :
    State.rewritesAccount n f s (s.modAccount n f) := fun e => State.accountAt_modAccount hs n e f

theorem State.carry_rewrites {s : State} (hs : s.numbersDistinct) (n amount : Nat) :
    State.rewritesAccount n (s.carried amount) s (s.carry n amount) := by
  cases hfound : s.account n with
  | none =>
    have hsame : s.carry n amount = s := by rw [State.carry, hfound]
    rw [hsame]
    refine .same rfl fun e a ha hn => ?_
    rw [← hn, State.account_of_accountAt hs ha] at hfound
    cases hfound
  | some a =>
    have honly : ∀ e b, s.accountAt e = some b → b.number = n → b = a := fun e b hb hn =>
      Option.some.inj ((State.account_of_accountAt hs hb).symm.trans (hn ▸ hfound))
    have hresidue := State.modAccount_rewrites hs n fun b => { b with residue := (a.residue + amount) % 3600 }
    have hdistinct := hresidue.distinct hs fun _ => rfl
    rw [State.carry, hfound]
    dsimp only
    by_cases hwhole : (a.residue + amount) / 3600 = 0
    · rw [if_pos hwhole]
      refine hresidue.congr fun e b hb hn => ?_
      rw [honly e b hb hn, State.carried, if_pos hwhole]
    · rw [if_neg hwhole]
      refine State.rewritesAccount.accounts ?_ (State.raiseCarry_accounts _ n _)
      refine (hresidue.trans (State.modAccount_rewrites hdistinct n _) fun _ => rfl).congr fun e b hb hn => ?_
      rw [honly e b hb hn, State.carried, if_neg hwhole]
      simp [State.lookup, State.matchSet]

/-- What the carry into one account alone makes of it. -/
theorem State.accountAt_carry_withAccount {s : State} (hs : s.numbersDistinct) {e : Nat} {a : Account}
    (ha : s.accountAt e = some a) (estimated : Bool) (amount : Nat) :
    ((s.withAccount e (some (a.marked estimated))).carry a.number amount).accountAt e =
      some (s.carried amount (a.marked estimated)) := by
  have hentry : ∀ k, (s.withAccount e (some (a.marked estimated))).accountAt k =
      if e = k then some (a.marked estimated) else s.accountAt k := by
    intro k
    simp only [State.accountAt, State.withAccount, Vector.getElem?_setIfInBounds]
    by_cases hek : e = k
    · subst hek
      simp [State.accountAt_lt ha]
    · simp [hek]
  have hdistinct : (s.withAccount e (some (a.marked estimated))).numbersDistinct := by
    refine State.numbersDistinct_of_map (s := s) (t := s.withAccount e (some (a.marked estimated)))
      (f := fun b => if b.number = a.number then a.marked estimated else b) hs (fun k => ?_) fun b => ?_
    · rw [hentry]
      by_cases hek : e = k
      · subst hek
        simp [ha]
      · cases hb : s.accountAt k with
        | none => simp [hek]
        | some b => simp [hek, hs k e b a hb ha (Ne.symm hek)]
    · split
      · next hb => exact hb.symm
      · rfl
  rw [State.carry_rewrites hdistinct, hentry, if_pos rfl]
  exact congrArg some (if_pos rfl)

/-! ### The deviations of the EXPORT account (R174) -/

/-- The EXPORT account with its shortfall and its surplus added, each if there is one. -/
def Account.deviated (below above : Nat) (a : Account) : Account :=
  let b := if 0 < below then a.addShortfall below else a
  if 0 < above then b.addSurplus above else b

theorem Account.addShortfall_frame (d : Nat) (a : Account) :
    a.addShortfall d = { a with
      shortfall := (a.addShortfall d).shortfall
      shortfallResidue := (a.addShortfall d).shortfallResidue
      flags := { a.flags with saturated := (a.addShortfall d).flags.saturated } } := by
  unfold Account.addShortfall
  split <;> simp [AccountFlags.with]

theorem Account.addSurplus_frame (d : Nat) (a : Account) :
    a.addSurplus d = { a with
      surplus := (a.addSurplus d).surplus
      surplusResidue := (a.addSurplus d).surplusResidue
      flags := { a.flags with saturated := (a.addSurplus d).flags.saturated } } := by
  unfold Account.addSurplus
  split <;> simp [AccountFlags.with]

theorem Account.deviated_frame (below above : Nat) (a : Account) :
    a.deviated below above = { a with
      shortfall := (a.deviated below above).shortfall
      surplus := (a.deviated below above).surplus
      shortfallResidue := (a.deviated below above).shortfallResidue
      surplusResidue := (a.deviated below above).surplusResidue
      flags := { a.flags with saturated := (a.deviated below above).flags.saturated } } := by
  unfold Account.deviated
  dsimp only
  split <;> split
  · rw [Account.addSurplus_frame, Account.addShortfall_frame]
  · rw [Account.addSurplus_frame]
  · rw [Account.addShortfall_frame]
  · rfl

/-- The shortfall and the surplus, their residues, and whether one of them reached its top. -/
theorem Account.deviated_figures {a : Account} {k r l u : Nat} (hk : a.shortfall = some k)
    (hr : a.shortfallResidue = some r) (hl : a.surplus = some l) (hu : a.surplusResidue = some u) (below above : Nat) :
    let b := a.deviated below above
    (below = 0 → b.shortfall = some k ∧ b.shortfallResidue = some r)
      ∧ (0 < below → b.shortfall = some (min Config.maxEnergy (k + (r + below) / 3600))
        ∧ b.shortfallResidue = some ((r + below) % 3600))
      ∧ (above = 0 → b.surplus = some l ∧ b.surplusResidue = some u)
      ∧ (0 < above → b.surplus = some (min Config.maxEnergy (l + (u + above) / 3600))
        ∧ b.surplusResidue = some ((u + above) % 3600))
      ∧ (b.flags.saturated = true ↔ a.flags.saturated = true
        ∨ (0 < below ∧ Config.maxEnergy < k + (r + below) / 3600)
        ∨ (0 < above ∧ Config.maxEnergy < l + (u + above) / 3600)) := by
  have hadd : 0 < below → a.addShortfall below = { a with
      shortfall := some (min Config.maxEnergy (k + (r + below) / 3600))
      shortfallResidue := some ((r + below) % 3600)
      flags := a.flags.with false false (decide (Config.maxEnergy < k + (r + below) / 3600)) } := by
    intro _
    simp [Account.addShortfall, hk, hr, satAdd, overflows]
  by_cases hbelow : 0 < below <;> by_cases habove : 0 < above
  · simp [Account.deviated, hbelow, habove, hadd, Account.addSurplus, hl, hu, satAdd, overflows, AccountFlags.with,
      Nat.ne_of_gt, or_assoc]
  · simp [Account.deviated, hbelow, habove, hadd, hl, hu, AccountFlags.with, Nat.ne_of_gt]
  · simp [Account.deviated, hbelow, habove, hk, hr, Account.addSurplus, hl, hu, satAdd, overflows, AccountFlags.with,
      Nat.ne_of_gt]
  · simp [Account.deviated, hbelow, habove, hk, hr, hl, hu]

end Sys2Proof.Machine
end

section
/-! ### One account fed -/

namespace Sys2Proof.Machine

open Sys2Proof

/-- The EXPORT account fed from channel `c` (R174). -/
def State.exportFed (s : State) (c : Nat) (a : Account) : Account :=
  (s.carried (s.effValue c).toNat (a.marked (decide (s.condition c ≠ .normal)))).deviated
    (s.plant.commitment - s.plant.exportTolerance - (s.effValue c).toNat)
    ((s.effValue c).toNat - s.plant.commitment - s.plant.exportTolerance)

/-- An account fed by the records that name it (R172). -/
def State.recordsFed (s : State) (a : Account) : Account :=
  if s.namedBy a.number = [] then a
  else s.carried ((s.namedBy a.number).map (·.delivered)).sum (a.marked ((s.namedBy a.number).any (·.estimated)))

/-- An account fed at a tick (R171, R172, R174). -/
def State.fed (s : State) (a : Account) : Account :=
  if s.plant.exportAccount = some a.number then
    match s.plant.exportChannel with
    | some c => s.exportFed c a
    | none => a
  else s.recordsFed a

theorem State.carried_number (s : State) (amount : Nat) (a : Account) : (s.carried amount a).number = a.number := by
  rw [State.carried_frame]

theorem Account.deviated_number (below above : Nat) (a : Account) : (a.deviated below above).number = a.number := by
  rw [Account.deviated_frame]

theorem State.fed_number (s : State) (a : Account) : (s.fed a).number = a.number := by
  unfold State.fed State.recordsFed State.exportFed
  repeat' split
  · exact (Account.deviated_number _ _ _).trans (s.carried_number _ _)
  · rfl
  · rfl
  · exact s.carried_number _ _

theorem State.carry_frame (s : State) (n amount : Nat) :
    s.carry n amount = { s with accounts := (s.carry n amount).accounts, notices := (s.carry n amount).notices } := by
  unfold State.carry State.raiseCarry
  dsimp only
  repeat' split
  all_goals ext1 <;> simp

theorem State.markEstimated_frame (s : State) (n : Nat) (est : Bool) :
    s.markEstimated n est = { s with accounts := (s.markEstimated n est).accounts } := by
  unfold State.markEstimated
  ext1 <;> simp

/-- The deviations added to the account with a number. -/
def State.deviate (s : State) (n below above : Nat) : State :=
  let s := if 0 < below then s.modAccount n (Account.addShortfall below) else s
  if 0 < above then s.modAccount n (Account.addSurplus above) else s

/-- Feeding an account leaves the part, or has the account take in one figure and its deviations. -/
theorem State.feedAccount_cases (s : State) (n : Nat) :
    s.feedAccount n = s ∨ ∃ est amount below above,
      s.feedAccount n = ((s.markEstimated n est).carry n amount).deviate n below above := by
  unfold State.feedAccount
  repeat' split
  · exact .inr ⟨_, _, _, _, rfl⟩
  · exact .inl rfl
  · unfold State.feedRecords
    split
    · exact .inl rfl
    · exact .inr ⟨_, _, 0, 0, rfl⟩

theorem State.deviate_frame (s : State) (n below above : Nat) :
    s.deviate n below above = { s with accounts := (s.deviate n below above).accounts } := by
  unfold State.deviate
  dsimp only
  repeat' split
  all_goals ext1 <;> simp

theorem State.feedAccount_frame (s : State) (n : Nat) :
    s.feedAccount n = { s with accounts := (s.feedAccount n).accounts, notices := (s.feedAccount n).notices } := by
  rcases s.feedAccount_cases n with h | ⟨est, amount, below, above, h⟩
  · rw [h]
  · rw [h, State.deviate_frame, State.carry_frame, State.markEstimated_frame]

theorem State.notice_raiseCarry (s : State) (n : Nat) (ans : PriceAnswer) {k : NoticeKind} (hmiss : k ≠ .tariffMiss)
    (hoverlap : k ≠ .tariffOverlap) : (s.raiseCarry n ans).notice k = s.notice k := by
  unfold State.raiseCarry
  dsimp only
  repeat' split
  all_goals simp [State.notice_raise, hmiss, hoverlap]

theorem State.notice_carry (s : State) (n amount : Nat) {k : NoticeKind} (hmiss : k ≠ .tariffMiss)
    (hoverlap : k ≠ .tariffOverlap) : (s.carry n amount).notice k = s.notice k := by
  unfold State.carry
  dsimp only
  repeat' split
  · rfl
  · exact State.notice_of_notices (by simp) k
  · rw [State.notice_raiseCarry _ n _ hmiss hoverlap]
    exact State.notice_of_notices (by simp) k

/-- Feeding an account notes a miss or an overlap of the tariff, and nothing else (R173). -/
theorem State.notice_feedAccount (s : State) (n : Nat) {k : NoticeKind} (hmiss : k ≠ .tariffMiss)
    (hoverlap : k ≠ .tariffOverlap) : (s.feedAccount n).notice k = s.notice k := by
  rcases s.feedAccount_cases n with h | ⟨est, amount, below, above, h⟩
  · rw [h]
  · rw [h, State.deviate_frame]
    refine (State.notice_carry (s.markEstimated n est) n amount hmiss hoverlap).trans ?_
    rw [State.markEstimated_frame]
    rfl

/-- The marking and the carry of a figure taken in. -/
theorem State.takeIn_rewrites {s : State} (hs : s.numbersDistinct) (n amount : Nat) (est : Bool) :
    State.rewritesAccount n (fun a => s.carried amount (a.marked est)) s ((s.markEstimated n est).carry n amount) := by
  have hmark := State.modAccount_rewrites hs n (Account.marked est)
  have hcarried : (s.markEstimated n est).carried = s.carried := by
    rw [State.markEstimated_frame]
    rfl
  have hcarry := State.carry_rewrites (s := s.markEstimated n est) (hmark.distinct hs fun _ => rfl) n amount
  rw [hcarried] at hcarry
  exact State.rewritesAccount.trans hmark hcarry fun _ => rfl

theorem State.deviate_rewrites {s : State} (hs : s.numbersDistinct) (n below above : Nat) :
    State.rewritesAccount n (Account.deviated below above) s (s.deviate n below above) := by
  have hadd : ∀ {t : State} (c : Prop) [Decidable c] (f : Account → Account), t.numbersDistinct →
      State.rewritesAccount n (fun a => if c then f a else a) t (if c then t.modAccount n f else t) := by
    intro t c _ f ht
    by_cases hc : c
    · simpa only [if_pos hc] using State.modAccount_rewrites ht n f
    · simpa only [if_neg hc] using State.rewritesAccount.same rfl fun _ _ _ _ => rfl
  have hnumber : ∀ a : Account, (if 0 < below then a.addShortfall below else a).number = a.number := by
    intro a
    split
    · rw [Account.addShortfall_frame]
    · rfl
  have hshortfall := hadd (t := s) (0 < below) (Account.addShortfall below) hs
  exact hshortfall.trans (hadd (0 < above) (Account.addSurplus above) (hshortfall.distinct hs hnumber)) hnumber

/-- Feeding an account is `State.fed` of that account. -/
theorem State.feedAccount_rewrites {s : State} (hs : s.numbersDistinct) (n : Nat) :
    State.rewritesAccount n s.fed s (s.feedAccount n) := by
  unfold State.feedAccount
  by_cases hexport : s.plant.exportAccount = some n
  · rw [if_pos hexport]
    cases hchannel : s.plant.exportChannel with
    | none =>
      refine .same rfl fun e a _ hn => ?_
      rw [State.fed, if_pos (hn ▸ hexport), hchannel]
    | some c =>
      have htaken := State.takeIn_rewrites hs n (s.effValue c).toNat (decide (s.condition c ≠ .normal))
      have hnumber : ∀ a : Account,
          (s.carried (s.effValue c).toNat (a.marked (decide (s.condition c ≠ .normal)))).number = a.number :=
        fun a => s.carried_number _ _
      refine (htaken.trans (State.deviate_rewrites (htaken.distinct hs hnumber) n _ _) hnumber).congr fun e a _ hn => ?_
      rw [State.fed, if_pos (hn ▸ hexport), hchannel]
      rfl
  · rw [if_neg hexport]
    unfold State.feedRecords
    cases hnamed : s.namedBy n with
    | nil =>
      refine .same rfl fun e a _ hn => ?_
      rw [State.fed, if_neg (hn ▸ hexport), State.recordsFed, if_pos (hn ▸ hnamed)]
    | cons o os =>
      refine (State.takeIn_rewrites hs n _ _).congr fun e a _ hn => ?_
      have hsome : s.namedBy a.number ≠ [] := by simp [hn, hnamed]
      rw [State.fed, if_neg (hn ▸ hexport), State.recordsFed, if_neg hsome, hn, hnamed]

/-! ### Every account in its order -/

theorem State.fed_feedAccount (s : State) (n : Nat) : (s.feedAccount n).fed = s.fed := by
  rw [State.feedAccount_frame]
  rfl

theorem accountAt_feedAccounts (ns : List Nat) (hnodup : ns.Nodup) (e : Nat) : ∀ s : State, s.numbersDistinct →
    (ns.foldl State.feedAccount s).accountAt e =
      (s.accountAt e).map fun a => if a.number ∈ ns then s.fed a else a := by
  induction ns with
  | nil =>
    intro s _
    simp
  | cons n ns ih =>
    intro s hs
    obtain ⟨hn, hns⟩ := List.nodup_cons.mp hnodup
    have hfed := State.feedAccount_rewrites hs n
    rw [List.foldl_cons, ih hns _ (hfed.distinct hs s.fed_number), State.fed_feedAccount, hfed e, Option.map_map]
    congr 1
    funext a
    by_cases ha : a.number = n
    · simp [ha, s.fed_number, hn]
    · simp [ha]

theorem feedAccounts_frame (ns : List Nat) : ∀ s : State,
    ns.foldl State.feedAccount s = { s with
      accounts := (ns.foldl State.feedAccount s).accounts, notices := (ns.foldl State.feedAccount s).notices } := by
  induction ns with
  | nil => intro s; rfl
  | cons n ns ih => intro s; rw [List.foldl_cons, ih, State.feedAccount_frame]

theorem notice_feedAccounts (ns : List Nat) {k : NoticeKind} (hmiss : k ≠ .tariffMiss) (hoverlap : k ≠ .tariffOverlap) :
    ∀ s : State, (ns.foldl State.feedAccount s).notice k = s.notice k := by
  induction ns with
  | nil => intro s; rfl
  | cons n ns ih => intro s; rw [List.foldl_cons, ih, State.notice_feedAccount s n hmiss hoverlap]

theorem State.accountNumbers_perm (s : State) :
    s.accountNumbers.Perm (s.accounts.toList.filterMap fun a => a.map (·.number)) := List.perm_insertionSort _ _

theorem State.mem_accountNumbers {s : State} {e : Nat} {a : Account} (ha : s.accountAt e = some a) :
    a.number ∈ s.accountNumbers :=
  s.accountNumbers_perm.mem_iff.mpr (List.mem_filterMap.mpr
    ⟨some a, State.mem_accounts.mpr ⟨e, Option.join_eq_some_iff.mp ha⟩, rfl⟩)

/-- Each account is fed once (R159). -/
theorem State.accountNumbers_nodup {s : State} (hs : s.numbersDistinct) : s.accountNumbers.Nodup := by
  refine s.accountNumbers_perm.nodup_iff.mpr (List.pairwise_filterMap.mpr (List.pairwise_iff_getElem.mpr ?_))
  intro i j hi hj hij x hx y hy
  obtain ⟨a, ha, rfl⟩ := Option.map_eq_some_iff.mp hx
  obtain ⟨b, hb, rfl⟩ := Option.map_eq_some_iff.mp hy
  have hat : ∀ (k : Nat) (hk : k < s.accounts.toList.length) (c : Account), s.accounts.toList[k] = some c →
      s.accountAt k = some c := by
    intro k hk c hc
    rw [Vector.getElem_toList] at hc
    have hlt : k < 32 := by simpa using hk
    simp [State.accountAt, Vector.getElem?_eq_getElem hlt, hc]
  exact hs i j a b (hat i hi a ha) (hat j hj b hb) (Nat.ne_of_lt hij)

end Sys2Proof.Machine
end

section
/-! ## METERING_TICK (R171) -/

namespace Sys2Proof.Machine

open Sys2Proof

/-! ### What is measured (R80) -/

theorem State.offtake_measure (s : State) (i : Nat) : s.measure.offtake i = (s.offtake i).map s.measured :=
  State.offtake_of_map rfl i

theorem State.namedBy_measure (s : State) (n : Nat) : s.measure.namedBy n = (s.namedBy n).map s.measured := by
  have hslots : slotNumbers.filterMap s.measure.offtake = (slotNumbers.filterMap s.offtake).map s.measured := by
    rw [List.map_filterMap]
    exact List.filterMap_congr fun i _ => s.offtake_measure i
  rw [State.namedBy, hslots, List.filter_map]
  rfl

/-- An account fed by the records as they are measured (R80, R172). -/
theorem State.recordsFed_measure (s : State) (a : Account) :
    s.measure.recordsFed a =
      if s.namedBy a.number = [] then a
      else s.carried ((s.namedBy a.number).map s.deliveredPower).sum
        (a.marked ((s.namedBy a.number).any fun o => !s.bindingsNormal o)) := by
  rw [State.recordsFed, State.namedBy_measure, List.map_map, List.any_map]
  simp only [List.map_eq_nil_iff]
  rfl

theorem State.fed_measure_records {s : State} {a : Account} (h : s.plant.exportAccount ≠ some a.number) :
    s.measure.fed a = s.measure.recordsFed a := if_neg h

theorem State.fed_measure_unmetered {s : State} {a : Account} (h : s.plant.exportAccount = some a.number)
    (hchannel : s.plant.exportChannel = none) : s.measure.fed a = a := by
  rw [State.fed, if_pos (show s.measure.plant.exportAccount = _ from h),
    show s.measure.plant.exportChannel = _ from hchannel]

theorem State.fed_measure_export {s : State} {a : Account} {c : Nat} (h : s.plant.exportAccount = some a.number)
    (hchannel : s.plant.exportChannel = some c) : s.measure.fed a = s.exportFed c a := by
  rw [State.fed, if_pos (show s.measure.plant.exportAccount = _ from h),
    show s.measure.plant.exportChannel = _ from hchannel]
  rfl

theorem State.carried_boundCount (s : State) (amount : Nat) (a : Account) :
    (s.carried amount a).boundCount = a.boundCount := by rw [State.carried_frame]

theorem State.fed_boundCount (s : State) (a : Account) : (s.fed a).boundCount = a.boundCount := by
  unfold State.fed State.recordsFed State.exportFed
  repeat' split
  · rw [Account.deviated_frame]
    exact s.carried_boundCount _ _
  · rfl
  · rfl
  · exact s.carried_boundCount _ _

/-! ### The part once its accounts are fed -/

/-- The part as the draw monitor meets it: measured, and every account fed (R171). -/
def State.metered (s : State) : State := s.accountNumbers.foldl State.feedAccount s.measure

theorem State.meteringTick_eq (s : State) :
    s.meteringTick = { slotNumbers.foldl State.supervise s.metered with tickMs := 0 } := rfl

theorem State.metered_frame (s : State) :
    s.metered = { s with
      slots := s.measure.slots, accounts := s.metered.accounts, notices := s.metered.notices } := by
  unfold State.metered
  rw [feedAccounts_frame]
  rfl

theorem State.offtake_metered (s : State) (i : Nat) : s.metered.offtake i = (s.offtake i).map s.measured := by
  rw [← State.offtake_measure]
  exact State.offtake_of_slots (by rw [State.metered_frame]) i

theorem State.judge_metered (s : State) : s.metered.judge = s.judge := by
  rw [State.metered_frame]
  rfl

theorem State.plant_metered (s : State) : s.metered.plant = s.plant := by rw [State.metered_frame]

theorem State.accountAt_metered {s : State} (hs : s.numbersDistinct) (e : Nat) :
    s.metered.accountAt e = (s.accountAt e).map s.measure.fed := by
  have hfed := accountAt_feedAccounts s.accountNumbers (State.accountNumbers_nodup hs) e s.measure hs
  rw [State.metered, hfed]
  show (s.accountAt e).map _ = _
  cases ha : s.accountAt e with
  | none => rfl
  | some a => simp [State.mem_accountNumbers ha]

/-! ### What the tick leaves -/

theorem State.offtake_meteringTick (s : State) (i : Nat) :
    s.meteringTick.offtake i =
      (s.offtake i).bind fun o => (s.judge (s.measured o)).record s.plant.lockoutLimit := by
  have hslots : s.meteringTick.slots = (slotNumbers.foldl State.supervise s.metered).slots := by
    rw [State.meteringTick_eq]
  rw [State.offtake_of_slots hslots, offtake_supervise_slots slotNumbers List.nodup_range, State.judge_metered,
    State.plant_metered, State.offtake_metered]
  cases ho : s.offtake i with
  | none => simp
  | some o => simp [mem_slotNumbers, State.offtake_lt ho]

theorem State.notice_meteringTick (s : State) {k : NoticeKind} (hmiss : k ≠ .tariffMiss) (hoverlap : k ≠ .tariffOverlap) :
    s.meteringTick.notice k = (slotNumbers.filter fun i => (s.offtake i).any fun o =>
      (s.judge (s.measured o)).raises s.plant.lockoutLimit k).foldl (fun e i => e.raise i) (s.notice k) := by
  have hnotices : s.meteringTick.notices = (slotNumbers.foldl State.supervise s.metered).notices := by
    rw [State.meteringTick_eq]
  have hraises : s.metered.tickRaises k = fun i => (s.offtake i).any fun o =>
      (s.judge (s.measured o)).raises s.plant.lockoutLimit k := by
    funext i
    rw [State.tickRaises, State.offtake_metered, State.judge_metered, State.plant_metered, Option.any_map]
  have hfed : s.metered.notice k = s.notice k := notice_feedAccounts s.accountNumbers hmiss hoverlap s.measure
  rw [State.notice_of_notices hnotices, notice_supervise_slots k slotNumbers List.nodup_range, hraises, hfed]

/-- An account is fed, and its bound count falls by the records freed that name it. -/
theorem State.accountAt_meteringTick {s : State} (hs : s.numbersDistinct) {e : Nat} {a : Account}
    (ha : s.accountAt e = some a) :
    s.meteringTick.accountAt e = some { s.measure.fed a with
      boundCount := a.boundCount - slotNumbers.countP (s.metered.tickFrees a.number) } := by
  have hdistinct : s.metered.numbersDistinct :=
    State.numbersDistinct_of_map hs (State.accountAt_metered hs) s.measure.fed_number
  have haccounts : s.meteringTick.accounts = (slotNumbers.foldl State.supervise s.metered).accounts := by
    rw [State.meteringTick_eq]
  rw [State.accountAt, haccounts, ← State.accountAt, accountAt_supervise_slots slotNumbers List.nodup_range e _ hdistinct,
    State.accountAt_metered hs, ha]
  simp only [Option.map_some, State.fed_number, State.fed_boundCount]

/-- A record that is released is the one judged, but for its timers. -/
theorem State.judge_releases {s : State} {o x : Offtake} (h : s.judge o = .releases x) :
    x = { o with overdrawTimer := 0, idleTimer := o.idleTimer + 1 } := by
  unfold State.judge State.judgeDraw Offtake.judgeIdle at h
  repeat' split at h
  all_goals cases h
  rfl

/-- No bound count falls when no record that names the account is retiring. -/
theorem State.no_tickFrees {s : State} {n : Nat} (h : ∀ o ∈ s.namedBy n, o.retiring = false) :
    slotNumbers.countP (s.metered.tickFrees n) = 0 := by
  rw [List.countP_eq_zero]
  intro i hi hfrees
  rw [State.tickFrees, State.offtake_metered, State.judge_metered, Option.any_map] at hfrees
  obtain ⟨o, ho, hfrees⟩ := (Option.any_eq_true ..).mp hfrees
  have hnames : o.account = some n ∧ o.retiring = true := by
    cases hjudged : s.judge (s.measured o) with
    | stays x => simp [hjudged, Judgement.freesNaming] at hfrees
    | cuts x => simp [hjudged, Judgement.freesNaming] at hfrees
    | releases x =>
      simp only [hjudged, Judgement.freesNaming, Bool.and_eq_true, decide_eq_true_eq] at hfrees
      rw [State.judge_releases hjudged] at hfrees
      exact ⟨hfrees.2, hfrees.1⟩
  have hlive := h o (List.mem_filter.mpr ⟨List.mem_filterMap.mpr ⟨i, hi, ho⟩, by simpa using hnames.1⟩)
  exact absurd (hnames.2.symm.trans hlive) (by simp)

end Sys2Proof.Machine
end

section
/-! ### The judgements of a tick, branch by branch -/

namespace Sys2Proof.Machine

open Sys2Proof

/-- The record over-draws the power it takes at this tick (R56, R80). -/
def State.drawsOver (s : State) (o : Offtake) : Bool :=
  decide (o.ackGrant * (1000 + s.plant.tolerance) / 1000 + s.plant.deadband < s.deliveredPower o)

/-- A supervised record judged by what is measured of it. -/
theorem State.judgeDraw_measured (s : State) (o : Offtake) :
    s.judgeDraw (s.measured o) =
      if s.bindingsNormal o = false then .stays { s.measured o with idleTimer := 0 }
      else if s.drawsOver o = false then .stays { s.measured o with overdrawTimer := 0, idleTimer := 0 }
      else if s.plant.overdrawLimit ≤ o.overdrawTimer + 1 then
        .cuts { s.measured o with overdrawTimer := o.overdrawTimer + 1, idleTimer := 0 }
      else .stays { s.measured o with overdrawTimer := o.overdrawTimer + 1, idleTimer := 0 } := rfl

/-! #### The record -/

theorem State.record_out {s : State} {o : Offtake} (h : o.supply = .held ∨ o.supply = .lockout) (limit : Nat) :
    (s.judge (s.measured o)).record limit = some { s.measured o with overdrawTimer := 0, idleTimer := 0 } := by
  rw [State.judge_out (o := s.measured o) h]
  rfl

theorem State.record_supplied {s : State} {o : Offtake} (h : o.supply = .active ∨ o.supply = .shed) (limit : Nat) :
    let after := (s.judge (s.measured o)).record limit
    (s.bindingsNormal o = false → after = some { s.measured o with idleTimer := 0 })
      ∧ (s.bindingsNormal o = true → s.drawsOver o = false →
        after = some { s.measured o with overdrawTimer := 0, idleTimer := 0 })
      ∧ (s.bindingsNormal o = true → s.drawsOver o = true → o.overdrawTimer + 1 < s.plant.overdrawLimit →
        after = some { s.measured o with overdrawTimer := o.overdrawTimer + 1, idleTimer := 0 })
      ∧ (s.bindingsNormal o = true → s.drawsOver o = true → s.plant.overdrawLimit ≤ o.overdrawTimer + 1 →
        after = some (s.measured o).afterCut) := by
  rw [State.judge_supplied (o := s.measured o) h, State.judgeDraw_measured]
  refine ⟨fun hbad => ?_, fun hgood hno => ?_, fun hgood hdraws hbelow => ?_, fun hgood hdraws hreached => ?_⟩
  · rw [if_pos hbad]
    rfl
  · rw [if_neg (by simp [hgood]), if_pos hno]
    rfl
  · rw [if_neg (by simp [hgood]), if_neg (by simp [hdraws]), if_neg (Nat.not_le.mpr hbelow)]
    rfl
  · rw [if_neg (by simp [hgood]), if_neg (by simp [hdraws]), if_pos hreached]
    rfl

/-- A record charged and in QUIET (R59, R30). -/
theorem Offtake.charged_quietedFrom (limit : Nat) (o : Offtake) :
    (o.charged limit).quietedFrom = { o with
      idleTimer := 0, overdrawCount := o.overdrawCount + 1
      supply := if limit ≤ o.overdrawCount + 1 then .lockout else .held
      ackGrant := if o.linked = true then 0 else o.ackGrant
      link := .quiet, quietMs := 0, mode := none, advert := none, split := none, call := 0, trip := false
      noMode := false, absent := false, legacy := false, confirmCount := 0, legacyRun := 0 } := by
  have hsupply : (o.charged limit).supply ≠ .active := by
    unfold Offtake.charged
    dsimp only
    split <;> simp
  have hnot : ¬ ((o.charged limit).linked = true ∧ (o.charged limit).supply = .active) := fun c => hsupply c.2
  rw [Offtake.quietedFrom, if_neg hnot, if_neg hnot]
  rfl

theorem State.record_cut {s : State} {o : Offtake} {ch : Channel} (h : o.supply = .cut)
    (hch : s.channels[o.bind1]? = some ch) (limit : Nat) :
    let after := (s.judge (s.measured o)).record limit
    (ch.condition ≠ .normal → after = some { s.measured o with overdrawTimer := 0 })
      ∧ (ch.condition = .normal → ch.flowIdle = false →
        after = some { s.measured o with overdrawTimer := 0, idleTimer := 0 })
      ∧ (ch.condition = .normal → ch.flowIdle = true → o.idleTimer + 1 < 10 →
        after = some { s.measured o with overdrawTimer := 0, idleTimer := o.idleTimer + 1 })
      ∧ (ch.condition = .normal → ch.flowIdle = true → 10 ≤ o.idleTimer + 1 →
        after = if o.retiring then none else
          some (Offtake.charged limit { s.measured o with overdrawTimer := 0, idleTimer := o.idleTimer + 1 }).quietedFrom) := by
  have hjudge : s.judge (s.measured o) = (s.measured o).judgeIdle (some ch) := by
    rw [State.judge_cut (o := s.measured o) h, ← hch]
    rfl
  have hidle : (s.measured o).idleTimer = o.idleTimer := rfl
  rw [hjudge]
  unfold Offtake.judgeIdle
  dsimp only
  rw [hidle]
  refine ⟨fun hbad => ?_, fun hgood hflows => ?_, fun hgood hstill hearly => ?_, fun hgood hstill htenth => ?_⟩
  · rw [if_pos hbad]
    rfl
  · rw [if_neg (by simp [hgood]), if_pos hflows]
    rfl
  · rw [if_neg (by simp [hgood]), if_neg (by simp [hstill]), if_neg (Nat.not_le.mpr hearly)]
    rfl
  · rw [if_neg (by simp [hgood]), if_neg (by simp [hstill]), if_pos htenth]
    rfl

/-! #### The notices -/

theorem Offtake.raises_judgeIdle_cut (o : Offtake) (ch : Option Channel) (limit : Nat) :
    (o.judgeIdle ch).raises limit .cut = false := by
  unfold Offtake.judgeIdle
  repeat' split
  all_goals rfl

theorem State.raises_judgeDraw_lockout (s : State) (o : Offtake) (limit : Nat) :
    (s.judgeDraw o).raises limit .lockout = false := by
  unfold State.judgeDraw
  repeat' split
  all_goals rfl

theorem State.raises_judgeDraw_cut (s : State) (o : Offtake) (limit : Nat) :
    (s.judgeDraw (s.measured o)).raises limit .cut =
      (s.bindingsNormal o && s.drawsOver o && decide (s.plant.overdrawLimit ≤ o.overdrawTimer + 1)) := by
  rw [State.judgeDraw_measured]
  cases s.bindingsNormal o with
  | false => rfl
  | true =>
    cases s.drawsOver o with
    | false => rfl
    | true =>
      by_cases hreached : s.plant.overdrawLimit ≤ o.overdrawTimer + 1 <;> simp [hreached, Judgement.raises]

theorem Offtake.raises_judgeIdle_lockout (o : Offtake) (ch : Option Channel) (limit : Nat) :
    (o.judgeIdle ch).raises limit .lockout =
      (!o.retiring && decide (10 ≤ o.idleTimer + 1) && decide (limit ≤ o.overdrawCount + 1)
        && ch.any fun c => decide (c.condition = .normal) && c.flowIdle) := by
  cases ch with
  | none => simp [Offtake.judgeIdle, Judgement.raises]
  | some c =>
    unfold Offtake.judgeIdle
    dsimp only
    by_cases hgood : c.condition = .normal
    · cases hflow : c.flowIdle with
      | false => simp [hgood, hflow, Judgement.raises]
      | true => by_cases htenth : 10 ≤ o.idleTimer + 1 <;> simp [hgood, hflow, htenth, Judgement.raises]
    · simp [hgood, Judgement.raises]

/-- Which slots note a cut (R57). -/
theorem State.raises_cut (s : State) (o : Offtake) (limit : Nat) :
    (s.judge (s.measured o)).raises limit .cut =
      ((decide (o.supply = .active) || decide (o.supply = .shed)) && s.bindingsNormal o && s.drawsOver o
        && decide (s.plant.overdrawLimit ≤ o.overdrawTimer + 1)) := by
  have hdraw := s.raises_judgeDraw_cut o limit
  cases hs : o.supply with
  | active => simp [State.judge_supplied (o := s.measured o) (.inl hs), hdraw]
  | shed => simp [State.judge_supplied (o := s.measured o) (.inr hs), hdraw]
  | cut => simp [State.judge_cut (o := s.measured o) hs, Offtake.raises_judgeIdle_cut]
  | held => simp [State.judge_out (o := s.measured o) (.inl hs), Judgement.raises]
  | lockout => simp [State.judge_out (o := s.measured o) (.inr hs), Judgement.raises]

/-- Which slots note a lockout (R59). -/
theorem State.raises_lockout (s : State) (o : Offtake) (limit : Nat) :
    (s.judge (s.measured o)).raises limit .lockout =
      (decide (o.supply = .cut) && !o.retiring && decide (10 ≤ o.idleTimer + 1)
        && decide (limit ≤ o.overdrawCount + 1)
        && (s.channels[o.bind1]?).any fun c => decide (c.condition = .normal) && c.flowIdle) := by
  have hidle := (s.measured o).raises_judgeIdle_lockout s.channels[o.bind1]? limit
  cases hs : o.supply with
  | active => simp [State.judge_supplied (o := s.measured o) (.inl hs), State.raises_judgeDraw_lockout]
  | shed => simp [State.judge_supplied (o := s.measured o) (.inr hs), State.raises_judgeDraw_lockout]
  | cut =>
    rw [State.judge_cut (o := s.measured o) hs]
    simp only [decide_true, Bool.true_and]
    exact hidle
  | held => simp [State.judge_out (o := s.measured o) (.inl hs), Judgement.raises]
  | lockout => simp [State.judge_out (o := s.measured o) (.inr hs), Judgement.raises]

theorem Judgement.raises_other (v : Judgement) (limit : Nat) {k : NoticeKind} (hcut : k ≠ .cut) (hlockout : k ≠ .lockout) :
    v.raises limit k = false := by cases v <;> simp [Judgement.raises, hcut, hlockout]

end Sys2Proof.Machine
end

section
/-! ### The whole tick -/

namespace Sys2Proof.Machine

open Sys2Proof

theorem State.meteringTick_frame (s : State) :
    s.meteringTick = { s with
      slots := s.meteringTick.slots, accounts := s.meteringTick.accounts, notices := s.meteringTick.notices
      setpointQueue := s.meteringTick.setpointQueue, exchange := s.meteringTick.exchange, pass := s.meteringTick.pass
      stack := s.meteringTick.stack, readmission := s.meteringTick.readmission, tickMs := 0 } := by
  rw [State.meteringTick_eq, supervise_slots_frame, State.metered_frame]

/-- Each cut and each lockout is noted once, in slot order, and beside the tariff's notices nothing else is. -/
theorem State.notices_meteringTick (s : State) :
    (s.meteringTick.notice .cut = (slotNumbers.filter fun i => (s.offtake i).any fun o =>
        (decide (o.supply = .active) || decide (o.supply = .shed)) && s.bindingsNormal o && s.drawsOver o
          && decide (s.plant.overdrawLimit ≤ o.overdrawTimer + 1)).foldl (fun e i => e.raise i) (s.notice .cut))
      ∧ (s.meteringTick.notice .lockout = (slotNumbers.filter fun i => (s.offtake i).any fun o =>
        decide (o.supply = .cut) && !o.retiring && decide (10 ≤ o.idleTimer + 1)
          && decide (s.plant.lockoutLimit ≤ o.overdrawCount + 1)
          && (s.channels[o.bind1]?).any fun c => decide (c.condition = .normal) && c.flowIdle).foldl
          (fun e i => e.raise i) (s.notice .lockout))
      ∧ ∀ k, k ≠ .cut → k ≠ .lockout → k ≠ .tariffMiss → k ≠ .tariffOverlap →
        s.meteringTick.notice k = s.notice k := by
  refine ⟨?_, ?_, fun k hcut hlockout hmiss hoverlap => ?_⟩
  · rw [State.notice_meteringTick s (by simp) (by simp)]
    simp only [State.raises_cut]
  · rw [State.notice_meteringTick s (by simp) (by simp)]
    simp only [State.raises_lockout]
  · rw [State.notice_meteringTick s hmiss hoverlap]
    simp [Judgement.raises_other _ _ hcut hlockout, Option.any_false]

/-- An account that the records feed (R172). -/
theorem State.fed_by_records {s : State} (hs : s.numbersDistinct) {e : Nat} {a : Account} (ha : s.accountAt e = some a)
    (hexport : s.plant.exportAccount ≠ some a.number) :
    (s.namedBy a.number = [] → s.measure.fed a = a)
      ∧ (s.namedBy a.number ≠ [] → some (s.measure.fed a) =
        ((s.withAccount e (some (a.marked ((s.namedBy a.number).any fun o => !s.bindingsNormal o)))).carry a.number
          ((s.namedBy a.number).map s.deliveredPower).sum).accountAt e) := by
  rw [State.fed_measure_records hexport, State.recordsFed_measure]
  refine ⟨fun hnone => if_pos hnone, fun hsome => ?_⟩
  rw [if_neg hsome, State.accountAt_carry_withAccount hs ha]

/-- Settles O48: each slot is judged (`State.judge`) and each account fed (`State.fed`) on its own. -/
theorem meteringTickCompletes : Obligations.MeteringTickCompletes := by
  intro s hrun
  obtain ⟨hcuts, hlocks, hothers⟩ := s.notices_meteringTick
  refine ⟨s.meteringTick, exec_running rfl hrun, s.meteringTick_frame, ⟨hcuts, hlocks⟩, hothers,
    fun i => ⟨fun hnone => ?_, fun o ho => ?_⟩⟩
  · rw [State.offtake_meteringTick, hnone]
    rfl
  have hrecord : s.meteringTick.offtake i = (s.judge (s.measured o)).record s.plant.lockoutLimit := by
    rw [State.offtake_meteringTick, ho]
    rfl
  rw [hrecord]
  refine ⟨fun hout => State.record_out hout _, fun hsupplied => ?_, fun ch hcut hch => ?_, fun hs e a ha => ?_⟩
  · obtain ⟨hfrozen, hwithin, htimed, hreached⟩ := State.record_supplied hsupplied s.plant.lockoutLimit
    exact ⟨hfrozen, fun hgood hno => hwithin hgood (decide_eq_false hno),
      fun hgood hdraws => htimed hgood (decide_eq_true hdraws),
      fun hgood hdraws => hreached hgood (decide_eq_true hdraws)⟩
  · obtain ⟨hfrozen, hflows, hwaits, hreleased⟩ := State.record_cut hcut hch s.plant.lockoutLimit
    refine ⟨hfrozen, hflows, hwaits, fun hgood hstill htenth => ⟨fun hretiring => ?_, fun hlive => ?_⟩⟩
    · rw [hreleased hgood hstill htenth, if_pos hretiring]
    · rw [hreleased hgood hstill htenth, if_neg (by simp [hlive]), Offtake.charged_quietedFrom]
      rfl
  · refine ⟨_, State.accountAt_meteringTick hs ha, Nat.sub_le _ _, fun hlive => ?_, fun hexport => ?_,
      fun hexport => ⟨fun hnone => ?_, fun c hc => ?_⟩⟩
    · rw [State.no_tickFrees hlive]
      rfl
    · obtain ⟨hidle, hfed⟩ := State.fed_by_records hs ha hexport
      refine ⟨fun hnone => ?_, fun hsome => ?_⟩
      · rw [hidle hnone]
      · refine Eq.trans ?_ (hfed hsome)
        rw [← s.measure.fed_boundCount a]
    · rw [State.fed_measure_unmetered hexport hnone]
    · rw [State.fed_measure_export hexport hc, State.exportFed]
      have hframe := s.carried_frame (s.effValue c).toNat (a.marked (decide (s.condition c ≠ .normal)))
      refine ⟨_, State.accountAt_carry_withAccount hs ha _ _, ?_, fun k r l u hk hr hl hu => ?_⟩
      · rw [Account.deviated_frame]
      · refine Account.deviated_figures ?_ ?_ ?_ ?_ _ _
        · rw [hframe]; exact hk
        · rw [hframe]; exact hr
        · rw [hframe]; exact hl
        · rw [hframe]; exact hu

end Sys2Proof.Machine
end

section
/-! ## Link replies and sample messages on the wire (section 11.4, R64, R211, R212) -/

namespace Sys2Proof

/-! ### Figures in bytes -/

/-- What the bytes of a figure add to the bytes read before them. -/
theorem foldl_beBytes (w v : Nat) : ∀ acc : Nat,
    (beBytes w v).foldl (fun acc b => acc * 256 + b.toNat) acc = acc * 256 ^ w + v % 256 ^ w := by
  induction w with
  | zero => simp [beBytes, Nat.mod_one]
  | succ w ih =>
    intro acc
    rw [beBytes, List.foldl_cons, ih, BitVec.toNat_ofNat, Nat.mod_pow_succ (x := v) (b := 256)]
    ring

theorem beNat_beBytes {w v : Nat} (h : v < 256 ^ w) : beNat (beBytes w v) = v := by
  rw [beNat, foldl_beBytes, Nat.mod_eq_of_lt h, Nat.zero_mul, Nat.zero_add]

theorem unsignedOf_lt (w : Nat) (v : Int) : unsignedOf w v < 256 ^ w := by
  have hpos : (0 : Int) < 256 ^ w := by positivity
  rw [unsignedOf, Int.toNat_lt (Int.emod_nonneg v hpos.ne')]
  exact_mod_cast Int.emod_lt_of_pos v hpos

/-- A signed figure that `w` bytes can hold is read back from its two's complement. -/
theorem signedOf_unsignedOf {w : Nat} {v : Int} (hlow : -(256 ^ w) ≤ 2 * v) (hhigh : 2 * v < 256 ^ w) :
    signedOf w (unsignedOf w v) = v := by
  have hnat : ((256 ^ w : Nat) : Int) = 256 ^ w := by push_cast; rfl
  rcases Int.le_total 0 v with hv | hv
  · have hmod : v % 256 ^ w = v := Int.emod_eq_of_lt hv (by omega)
    rw [unsignedOf, hmod, signedOf, if_pos (by omega)]
    omega
  · rcases hv.eq_or_lt with rfl | hneg
    · simp [unsignedOf, signedOf]
    have hmod : v % 256 ^ w = v + 256 ^ w := by
      rw [← Int.add_emod_right, Int.emod_eq_of_lt (by omega) (by omega)]
    rw [unsignedOf, hmod, signedOf, if_neg (by omega)]
    omega

/-! ### Messages of the offtake link (R211) -/

@[simp] theorem LinkMsg.checkPasses_closed (t : LinkType) (addr : Byte) (payload : List Byte) :
    (LinkMsg.closed t addr payload).checkPasses t = true := by simp [LinkMsg.checkPasses, LinkMsg.closed]

theorem LinkMsg.checkPasses_other {t : LinkType} {m : LinkMsg} (h : m.type ≠ t.code) : m.checkPasses t = false := by
  simp [LinkMsg.checkPasses, h]

/-- The mode byte of an ADVERT holds its modes in bits 0 to 5 and the ack flag in bit 6. -/
theorem setWidth_modeByte (modes : BitVec 6) (ack : Bool) :
    (modes.setWidth 8 ||| (if ack then 0x40#8 else 0#8)).setWidth 6 = modes := by
  cases ack <;> revert modes <;> decide

theorem getLsbD_modeByte (modes : BitVec 6) (ack : Bool) :
    (modes.setWidth 8 ||| (if ack then 0x40#8 else 0#8)).getLsbD 6 = ack := by
  cases ack <;> revert modes <;> decide

theorem getLsbD_tripByte (trip : Bool) : (if trip then 1#8 else 0#8).getLsbD 0 = trip := by cases trip <;> rfl

theorem readAdvert_writeAdvert (addr : Byte) {a : AdvertData} (h : a.rating < 256 ^ 4) :
    readAdvert (writeAdvert addr a) = some a := by
  have hread : readAdvert (writeAdvert addr a) =
      some ⟨BitVec.setWidth 6 _, BitVec.getLsbD _ 6, beNat (beBytes 4 a.rating)⟩ := if_pos (LinkMsg.checkPasses_closed ..)
  rw [hread, setWidth_modeByte, getLsbD_modeByte, beNat_beBytes h]

theorem readStatus_writeStatus (addr : Byte) {c : CallData} (h : c.call < 256 ^ 4) :
    readStatus (writeStatus addr c) = some c := by
  have hread : readStatus (writeStatus addr c) = some ⟨beNat (beBytes 4 c.call), BitVec.getLsbD _ 0⟩ :=
    if_pos (LinkMsg.checkPasses_closed ..)
  rw [hread, getLsbD_tripByte, beNat_beBytes h]

theorem readLegacy_writeLegacy (addr : Byte) {c : CallData} (h : c.call < 256 ^ 4) :
    readLegacy (writeLegacy addr c) = some c := by
  have hread : readLegacy (writeLegacy addr c) = some ⟨beNat (beBytes 4 c.call), BitVec.getLsbD _ 0⟩ :=
    if_pos (LinkMsg.checkPasses_closed ..)
  rw [hread, getLsbD_tripByte, beNat_beBytes h]

theorem readAck_writeAck (addr : Byte) {v : Nat} (h : v < 256 ^ 4) : readAck (writeAck addr v) = some v := by
  have hread : readAck (writeAck addr v) = some (beNat (beBytes 4 v)) := if_pos (LinkMsg.checkPasses_closed ..)
  rw [hread, beNat_beBytes h]

/-! A message of another type is none of the replies. -/

theorem readAdvert_other {m : LinkMsg} (h : m.type ≠ LinkType.advert.code) : readAdvert m = none := by
  unfold readAdvert
  split <;> simp [LinkMsg.checkPasses_other h]

theorem readStatus_other {m : LinkMsg} (h : m.type ≠ LinkType.status.code) : readStatus m = none := by
  unfold readStatus
  split <;> simp [LinkMsg.checkPasses_other h]

theorem readLegacy_other {m : LinkMsg} (h : m.type ≠ LinkType.legacy.code) : readLegacy m = none := by
  unfold readLegacy
  split <;> simp [LinkMsg.checkPasses_other h]

theorem readAck_other {m : LinkMsg} (h : m.type ≠ LinkType.setpointAck.code) : readAck m = none := by
  unfold readAck
  split <;> simp [LinkMsg.checkPasses_other h]

/-! ### Sample messages (R64, R212) -/

theorem frontEndOf_code (st : FrontEnd) : frontEndOf st.code = some st := by cases st <;> rfl

theorem frontEndOf_eq_none {n : Nat} (h : 3 ≤ n) : frontEndOf n = none := by
  obtain ⟨k, rfl⟩ := Nat.exists_eq_add_of_le' h
  rfl

/-- Four bytes are read as a sample once their check passes. -/
theorem readSample_checked (a b c : Byte) : readSample [a, b, c, crc8 [a, b, c]] =
    (frontEndOf (a.toNat / 64)).map fun st => ⟨a.toNat % 64, st, signedOf 2 (beNat [b, c])⟩ := if_pos rfl

theorem readSample_unchecked {a b c d : Byte} (h : d ≠ crc8 [a, b, c]) : readSample [a, b, c, d] = none := if_neg h

theorem readSample_length {bytes : List Byte} (h : bytes.length ≠ 4) : readSample bytes = none := by
  unfold readSample
  split
  · exact absurd rfl h
  · rfl

/-- Status 3 is no front-end status (R64). -/
theorem readSample_statusThree {a : Byte} (h : 192 ≤ a.toNat) (b c d : Byte) : readSample [a, b, c, d] = none := by
  by_cases hcheck : d = crc8 [a, b, c]
  · rw [hcheck, readSample_checked, frontEndOf_eq_none (by omega), Option.map_none]
  · exact readSample_unchecked hcheck

theorem readSample_writeSample {d : SampleData} (hchannel : d.channel < 64) (hlow : -32768 ≤ d.raw)
    (hhigh : d.raw ≤ 32767) : readSample (writeSample d) = some d := by
  have hcode : d.status.code ≤ 2 := by cases d.status <;> decide
  have hbyte : (BitVec.ofNat 8 (d.status.code * 64 + d.channel)).toNat = d.status.code * 64 + d.channel := by
    rw [BitVec.toNat_ofNat, Nat.mod_eq_of_lt (by omega)]
  have hread : readSample (writeSample d) =
      (frontEndOf ((BitVec.ofNat 8 (d.status.code * 64 + d.channel)).toNat / 64)).map fun st =>
        ⟨(BitVec.ofNat 8 (d.status.code * 64 + d.channel)).toNat % 64, st,
          signedOf 2 (beNat (beBytes 2 (unsignedOf 2 d.raw)))⟩ := readSample_checked _ _ _
  have hstatus : (d.status.code * 64 + d.channel) / 64 = d.status.code := by omega
  have hnumber : (d.status.code * 64 + d.channel) % 64 = d.channel := by omega
  rw [hread, hbyte, hstatus, hnumber, frontEndOf_code, beNat_beBytes (unsignedOf_lt 2 d.raw),
    signedOf_unsignedOf (by omega) (by omega), Option.map_some]

/-- Settles O9: a figure in bytes is read back (`beNat_beBytes`, `signedOf_unsignedOf`), and a check that fails, by the
type or the bytes, discards the message. -/
theorem linkAndSampleMessagesAreRead : Obligations.LinkAndSampleMessagesAreRead := by
  refine ⟨fun addr => ⟨fun a ha => readAdvert_writeAdvert addr ha, fun c hc => ⟨readStatus_writeStatus addr hc,
      readLegacy_writeLegacy addr hc⟩, fun v hv => readAck_writeAck addr hv⟩,
    fun m => ⟨readAdvert_other, readStatus_other, readLegacy_other, readAck_other⟩, ?_, ?_, ?_, ?_⟩
  · exact fun d hchannel hlow hhigh => readSample_writeSample hchannel hlow hhigh
  · exact fun bytes hlength => readSample_length hlength
  · exact fun a b c d hcheck => readSample_unchecked hcheck
  · exact fun a b c d hstatus => readSample_statusThree hstatus b c d

end Sys2Proof
end

section
/-! ## The Meter Channel Unit (R64 to R77) -/

namespace Sys2Proof.Machine

open Sys2Proof

/-- A channel that stands in the table rewritten is that channel written. -/
theorem State.modChannel_withChannel {s : State} {c : Nat} {ch : Channel} (h : s.channels[c]? = some ch)
    (f : Channel → Channel) : s.modChannel c f = s.withChannel c (f ch) := State.modChannel_eq h f

/-! ### SET_CHANNEL (R67, R68) -/

theorem ChannelKind.isFlow_iff {k : ChannelKind} : k.isFlow = true ↔ k = .gasFlow ∨ k = .waterFlow := by
  cases k <;> decide

theorem storedThreshold_flow {k : ChannelKind} (h : k.isFlow = true) (v : Int) :
    (storedThreshold k v : Int) = min (max 0 v) 2147483647 := by
  rw [storedThreshold, if_pos h, floorZero, maxFigure]
  omega

theorem storedThreshold_other {k : ChannelKind} (h : k.isFlow = false) (v : Int) : storedThreshold k v = 0 := by
  rw [storedThreshold, h]
  rfl

/-- The thresholds and the activity of a configured channel of a flow kind. -/
theorem configuredChannel_flow (b : ChannelBody) {k : ChannelKind} (pol : Polarity) (h : k.isFlow = true) :
    ((configuredChannel b k pol).onThreshold : Int) = min (max 0 b.onThreshold) 2147483647
      ∧ ((configuredChannel b k pol).offThreshold : Int) =
        min (min (max 0 b.offThreshold) 2147483647) (configuredChannel b k pol).onThreshold
      ∧ (configuredChannel b k pol).activity = some .idle := by
  refine ⟨storedThreshold_flow h _, ?_, if_pos h⟩
  rw [← storedThreshold_flow h b.offThreshold]
  exact Nat.cast_min ..

/-- The thresholds and the activity of a configured channel of another kind. -/
theorem configuredChannel_other (b : ChannelBody) {k : ChannelKind} (pol : Polarity) (h : k.isFlow = false) :
    (configuredChannel b k pol).onThreshold = 0 ∧ (configuredChannel b k pol).offThreshold = 0
      ∧ (configuredChannel b k pol).activity = none := by
  simp [configuredChannel, storedThreshold_other h, h]

/-- A SET_CHANNEL that passes its checks is accepted (R67). -/
theorem reqSetChannel_checked {p : PortId} {b : ChannelBody} {s : State} {k : ChannelKind} {pol : Polarity}
    (hright : s.hasRight p .maintain = true) (hchannel : b.channel < 48) (hkind : ChannelKind.ofCode b.kind = some k)
    (hpol : Polarity.ofCode b.polarity = some pol) (hflow : pol = .auto → k.isFlow = true) :
    reqSetChannel p b s = (s.withChannel b.channel (configuredChannel b k pol)).accept := by
  have hentry : s.channels[b.channel]? = some s.channels[b.channel] := Vector.getElem?_eq_getElem hchannel
  have hauto : ¬ (pol = .auto && !k.isFlow) = true := by
    rw [Bool.and_eq_true, decide_eq_true_eq, Bool.not_eq_true']
    exact fun ⟨ha, hno⟩ => absurd (hflow ha) (by simp [hno])
  simp only [reqSetChannel, hright, hkind, hpol, if_neg hauto, if_neg (Nat.not_le.mpr hchannel), Bool.not_true,
    Bool.false_eq_true, if_false, State.modChannel_withChannel hentry]

/-- Settles O19: the channel is `configuredChannel`, whose thresholds are read by the kind. -/
theorem setChannelCompletes : Obligations.SetChannelCompletes := by
  intro p b s q k pol htakes hright hchannel hkind hpol hflow
  have hreply : replyOf p (.setChannel b) s = (s.withChannel b.channel (configuredChannel b k pol)).accept :=
    reqSetChannel_checked hright hchannel hkind hpol fun ha => ChannelKind.isFlow_iff.mpr (hflow ha)
  refine ⟨configuredChannel b k pol, exec_reply htakes hreply, rfl, rfl, rfl, fun hlow hhigh => ?_, fun hmin => ?_,
    fun hk => configuredChannel_flow b pol (ChannelKind.isFlow_iff.mpr hk), fun hgas hwater => ?_,
    rfl, rfl, rfl, rfl, rfl, rfl, rfl, rfl, rfl⟩
  · show clampInt _ _ _ = _
    rw [clampInt]
    omega
  · show clampInt _ _ _ = _
    rw [hmin]
    rfl
  · refine configuredChannel_other b pol (Bool.eq_false_iff.mpr fun hk => ?_)
    exact (ChannelKind.isFlow_iff.mp hk).elim hgas hwater

/-! ### SAMPLE_MESSAGE (R64, R65, R70 to R77) -/

theorem exec_sampleMessage {s : State} {bytes : List Byte} (hr : s.inReset = false) {d : SampleData}
    (hd : readSample bytes = some d) : exec (.sampleMessage bytes) s = .next (s.takeSample d) := by
  rw [exec_running rfl hr, hd]

theorem exec_sampleMessage_discarded {s : State} {bytes : List Byte} (hr : s.inReset = false)
    (hd : readSample bytes = none) : exec (.sampleMessage bytes) s = .next s := by
  rw [exec_running rfl hr, hd]

/-- The eighth reversed sample in a row (R74). -/
theorem Channel.turnsReversed_eq (c : Channel) (v : Int) :
    c.turnsReversed v =
      (c.judgesReversal && decide (v < -(c.onThreshold : Int)) && decide (7 ≤ c.negativeRun)) := by
  rw [Channel.turnsReversed, Channel.negativeAfter]
  cases c.judgesReversal <;> by_cases hv : v < -(c.onThreshold : Int) <;> simp [hv]

/-- Only a channel whose reversed flag is clear turns (R74). -/
theorem Channel.reversed_of_turnsReversed {c : Channel} {v : Int} (h : c.turnsReversed v = true) : c.reversed = false := by
  rw [Channel.turnsReversed_eq, Channel.judgesReversal] at h
  simp only [Bool.and_eq_true, Bool.not_eq_true'] at h
  obtain ⟨⟨⟨-, hclear⟩, -⟩, -⟩ := h
  exact hclear

/-- The negative run a good sample leaves (R74). -/
theorem Channel.takeGood_negativeRun (c : Channel) (overrange : Bool) (raw : Int) :
    (c.takeGood overrange raw).negativeRun =
      if c.judgesReversal && decide (c.convert raw < -(c.onThreshold : Int)) then
        (if 7 ≤ c.negativeRun then 0 else c.negativeRun + 1)
      else 0 := by
  show (if c.turnsReversed (c.convert raw) then 0 else c.negativeAfter (c.convert raw)) = _
  rw [Channel.turnsReversed_eq, Channel.negativeAfter]
  cases c.judgesReversal <;> by_cases hv : c.convert raw < -(c.onThreshold : Int) <;> simp [hv]

/-- The condition and the stale timer a good sample leaves (R77). -/
theorem Channel.takeGood_condition (c : Channel) (overrange : Bool) (raw : Int) :
    (c.takeGood overrange raw).condition = if c.goodRun = 2 then .normal else c.condition := by
  show (if c.goodRun + 1 = 3 then Condition.normal else c.condition) = _
  simp

theorem Channel.takeGood_staleMs (c : Channel) (overrange : Bool) (raw : Int) :
    (c.takeGood overrange raw).staleMs = if c.goodRun = 2 ∧ c.condition ≠ .normal then 0 else c.staleMs := by
  show (if c.goodRun + 1 = 3 && c.condition != .normal then 0 else c.staleMs) = _
  simp

/-- The flag turns with the notice (R74). -/
theorem Channel.takeGood_turned (c : Channel) (overrange : Bool) (raw : Int) :
    ((c.takeGood overrange raw).reversed && !c.reversed) = c.turnsReversed (c.convert raw) := by
  show ((c.reversed || c.turnsReversed (c.convert raw)) && !c.reversed) = _
  cases hturn : c.turnsReversed (c.convert raw) with
  | false => simp
  | true => simp [Channel.reversed_of_turnsReversed hturn]

theorem State.takeSample_absent {s : State} {d : SampleData} (h : s.channels[d.channel]? = none) : s.takeSample d = s := by
  simp [State.takeSample, h]

section
variable {s : State} {d : SampleData} {ch : Channel}

theorem State.takeSample_noKind (h : s.channels[d.channel]? = some ch) (hk : ch.kind = .noKind) : s.takeSample d = s := by
  simp [State.takeSample, h, hk]

theorem State.takeSample_fault (h : s.channels[d.channel]? = some ch) (hk : ch.kind ≠ .noKind)
    (hd : d.status = .fault) : s.takeSample d = s.withChannel d.channel { ch with goodRun := 0 } := by
  simp [State.takeSample, h, hk, hd, State.modChannel_withChannel h]

/-- The channel as a good sample leaves it (R65). -/
def Channel.sampled (c : Channel) (d : SampleData) : Channel :=
  c.takeGood (decide (d.status = .overrange)) (usedReading d.status d.raw)

theorem usedReading_eq (st : FrontEnd) (raw : Int) :
    usedReading st raw = if st = .overrange ∧ raw = -32768 then -32767 else raw := by
  cases st <;> simp [usedReading]

/-- A good sample writes its channel, and raises METER_REVERSED when the channel turns. -/
theorem State.takeSample_good (h : s.channels[d.channel]? = some ch) (hk : ch.kind ≠ .noKind) (hd : d.status ≠ .fault) :
    s.takeSample d =
      if (ch.sampled d).reversed && !ch.reversed then (s.withChannel d.channel (ch.sampled d)).raise .meterReversed d.channel
      else s.withChannel d.channel (ch.sampled d) := by
  rw [Channel.sampled, Channel.takeGood_turned]
  cases hst : d.status with
  | fault => exact absurd hst hd
  | good => simp [State.takeSample, h, hk, hst, State.modChannel_withChannel h]
  | overrange => simp [State.takeSample, h, hk, hst, State.modChannel_withChannel h]

end

/-- Settles O20: the sample is discarded, breaks the run, or is taken as `Channel.sampled` says. -/
theorem sampleMessageCompletes : Obligations.SampleMessageCompletes := by
  intro s bytes hr
  refine ⟨exec_sampleMessage_discarded hr, fun d hd => ?_⟩
  rw [exec_sampleMessage hr hd]
  refine ⟨fun habsent => by rw [State.takeSample_absent habsent], fun ch hch => ⟨fun hk => ?_, fun hk hfault => ?_,
    fun hk hgood => ?_⟩⟩
  · rw [State.takeSample_noKind hch hk]
  · rw [State.takeSample_fault hch hk hfault]
  rw [State.takeSample_good hch hk hgood, ← usedReading_eq]
  refine ⟨ch.sampled d, _, rfl, ?_, rfl, rfl, rfl, decide_eq_true_iff, rfl, ch.takeGood_condition _ _,
    ch.takeGood_staleMs _ _, ch.takeGood_negativeRun _ _, ?_, ?_, rfl⟩
  · split <;> rfl
  · exact congrArg (ch.reversed || ·) (ch.turnsReversed_eq _)
  · split <;> rfl

/-! ### AGE_EXPIRY and STALE_TIMER_EXPIRY (R75, R76) -/

section
variable {s : State} {c : Nat} {ch : Channel}

theorem State.ageExpiry_eq (h : s.channels[c]? = some ch) (hk : ch.kind ≠ .noKind) :
    s.ageExpiry c =
      if ch.condition = .normal then (s.withChannel c ch.ageExpired).raise .meterStale c
      else s.withChannel c ch.ageExpired := by
  simp [State.ageExpiry, h, hk, State.modChannel_withChannel h]

theorem State.staleExpiry_eq (h : s.channels[c]? = some ch) (hk : ch.kind ≠ .noKind) :
    s.staleExpiry c =
      if ch.condition = .stale then (s.withChannel c ch.failedNow).raise .meterFailed c else s := by
  by_cases hst : ch.condition = .stale <;> simp [State.staleExpiry, h, hk, hst, State.modChannel_withChannel h]

end

theorem Channel.ageExpired_normal {c : Channel} (h : c.condition = .normal) :
    c.ageExpired = { c with condition := .stale, staleMs := 0, goodRun := 0, ageMs := max c.ageMs 1000 } := by
  simp [Channel.ageExpired, h]

theorem Channel.ageExpired_other {c : Channel} (h : c.condition ≠ .normal) :
    c.ageExpired = { c with goodRun := 0, ageMs := max c.ageMs 1000 } := by
  simp [Channel.ageExpired, h]

/-- Settles O21: the two expiries, by the condition they find. -/
theorem channelExpiriesComplete : Obligations.ChannelExpiriesComplete := by
  intro s c ch hr hch hk
  have hage : exec (.ageExpiry c) s = .next (s.ageExpiry c) := exec_running (f := (·.ageExpiry c)) rfl hr
  have hstale : exec (.staleTimerExpiry c) s = .next (s.staleExpiry c) :=
    exec_running (f := (·.staleExpiry c)) rfl hr
  rw [hage, hstale, State.ageExpiry_eq hch hk, State.staleExpiry_eq hch hk]
  refine ⟨fun h => ?_, fun h => ?_, fun h => ?_, fun h => ?_⟩
  · rw [if_pos h, Channel.ageExpired_normal h]
  · rw [if_neg h, Channel.ageExpired_other h]
  · rw [if_pos h]
    rfl
  · rw [if_neg h]

end Sys2Proof.Machine
end

section
/-! ## The reserves of the grades (R84, R92)

The law of the reserves reads the working range and the reserve total of each grade, and the windows. `reserveView` names
what it reads; SET_GRADE, SET_WINDOW and CLEAR_WINDOW alone write it in the running part. -/

namespace Sys2Proof.Machine

open Sys2Proof

/-- What the law of the reserves reads. -/
def State.reserveView (s : State) : PerGrade (Nat × Nat × Nat) × Vector Window 4 :=
  (s.grades.map fun r => (r.low, r.high, r.reserveTotal), s.windows)

theorem PerGrade.get_map {α β : Type} (f : α → β) (v : PerGrade α) (g : Grade) : (v.map f).get g = f (v.get g) := by
  cases g <;> rfl

theorem PerGrade.get_ofFn {α : Type} (f : Grade → α) (g : Grade) : (PerGrade.ofFn f).get g = f g := by cases g <;> rfl

theorem PerGrade.get_set {α : Type} (v : PerGrade α) (g h : Grade) (a : α) :
    (v.set g a).get h = if h = g then a else v.get h := by cases g <;> cases h <;> rfl

theorem State.reserveView_congr {s t : State} (hgrades : t.grades = s.grades) (hwindows : t.windows = s.windows) :
    t.reserveView = s.reserveView := by rw [reserveView, reserveView, hgrades, hwindows]

theorem State.reservesOk.view {s t : State} (h : s.reservesOk) (hview : t.reserveView = s.reserveView) :
    t.reservesOk := by
  obtain ⟨hgrades, hwindows⟩ := Prod.mk.inj hview
  intro g
  have hfields := congrArg (·.get g) hgrades
  simp only [PerGrade.get_map, Prod.mk.injEq] at hfields
  obtain ⟨hlow, hhigh, htotal⟩ := hfields
  rw [htotal, hlow, hhigh, hwindows]
  exact h g

/-! ### The shared operations -/

@[simp] theorem State.reserveView_setPort (s : State) (p : PortId) (q : Port) :
    (s.setPort p q).reserveView = s.reserveView := State.reserveView_congr (by simp) (by simp)

@[simp] theorem State.reserveView_putOfftake (s : State) (i : Nat) (o : Option Offtake) :
    (s.putOfftake i o).reserveView = s.reserveView := rfl

@[simp] theorem State.reserveView_raise (s : State) (k : NoticeKind) (n : Nat) :
    (s.raise k n).reserveView = s.reserveView := rfl

@[simp] theorem State.reserveView_dropEntry (s : State) (i : Nat) : (s.dropEntry i).reserveView = s.reserveView := rfl

@[simp] theorem State.reserveView_pollEnded (s : State) : s.pollEnded.reserveView = s.reserveView := rfl

@[simp] theorem State.reserveView_setpointEnded (s : State) : s.setpointEnded.reserveView = s.reserveView := rfl

@[simp] theorem State.reserveView_modOfftake (s : State) (i : Nat) (f : Offtake → Offtake) :
    (s.modOfftake i f).reserveView = s.reserveView := (congrArg State.reserveView (s.modOfftake_frame i f) :)

@[simp] theorem State.reserveView_handGrant (s : State) (i : Nat) : (s.handGrant i).reserveView = s.reserveView :=
  (congrArg State.reserveView (s.handGrant_frame i) :)

@[simp] theorem State.reserveView_free (s : State) (i : Nat) : (s.free i).reserveView = s.reserveView :=
  (congrArg State.reserveView (s.free_frame i) :)

@[simp] theorem State.reserveView_leaveLinked (s : State) (i : Nat) : (s.leaveLinked i).reserveView = s.reserveView :=
  (congrArg State.reserveView (s.leaveLinked_frame i) :)

@[simp] theorem State.reserveView_enterQuiet (s : State) (i : Nat) : (s.enterQuiet i).reserveView = s.reserveView :=
  (congrArg State.reserveView (s.enterQuiet_frame i) :)

@[simp] theorem State.reserveView_linkLoss (s : State) (i : Nat) : (s.linkLoss i).reserveView = s.reserveView :=
  s.reserveView_enterQuiet i

@[simp] theorem State.reserveView_joinSupply (s : State) (i : Nat) : (s.joinSupply i).reserveView = s.reserveView :=
  (congrArg State.reserveView (s.joinSupply_frame i) :)

@[simp] theorem State.reserveView_retire (s : State) (i : Nat) (o : Offtake) :
    (s.retire i o).reserveView = s.reserveView := (congrArg State.reserveView (s.retire_frame i o) :)

@[simp] theorem State.reserveView_cutRecord (s : State) (i : Nat) : (s.cutRecord i).reserveView = s.reserveView :=
  (congrArg State.reserveView (s.cutRecord_frame i) :)

@[simp] theorem State.reserveView_releaseIdle (s : State) (i : Nat) : (s.releaseIdle i).reserveView = s.reserveView :=
  (congrArg State.reserveView (s.releaseIdle_frame i) :)

@[simp] theorem State.reserveView_push (s : State) (level : Nat) (o : Origin) (c : Cause) (lead : List Nat) :
    (s.push level o c lead).reserveView = s.reserveView := (congrArg State.reserveView (s.push_frame level o c lead) :)

@[simp] theorem State.reserveView_pop (s : State) : s.pop.reserveView = s.reserveView :=
  (congrArg State.reserveView s.pop_frame :)

@[simp] theorem State.reserveView_recover (s : State) : s.recover.reserveView = s.reserveView :=
  (congrArg State.reserveView s.recover_frame :)

@[simp] theorem State.reserveView_readmit (s : State) : s.readmit.reserveView = s.reserveView :=
  (congrArg State.reserveView (State.readmitFrom_frame s.readmission s) :)

@[simp] theorem State.reserveView_modAccount (s : State) (n : Nat) (f : Account → Account) :
    (s.modAccount n f).reserveView = s.reserveView := State.reserveView_congr (by simp) (by simp)

@[simp] theorem State.reserveView_bindCount (s : State) (n : Option Nat) :
    (s.bindCount n).reserveView = s.reserveView := by
  cases n with
  | none => rfl
  | some k => exact s.reserveView_modAccount k _

@[simp] theorem State.reserveView_unbindCount (s : State) (n : Option Nat) :
    (s.unbindCount n).reserveView = s.reserveView := (congrArg State.reserveView (s.unbindCount_frame n) :)

@[simp] theorem State.reserveView_setExport (s : State) (n : Option Nat) :
    (s.setExport n).reserveView = s.reserveView := by
  unfold State.setExport
  split
  · rfl
  · rw [State.reserveView_bindCount, State.reserveView_unbindCount]
    rfl

@[simp] theorem State.reserveView_repriceBand (s : State) (n : Nat) (b : Band) :
    (s.repriceBand n b).reserveView = s.reserveView := by
  unfold State.repriceBand
  dsimp only
  repeat' split
  all_goals simp

/-- The working ranges and the totals stand when a grade is rewritten in another field. -/
theorem State.reserveView_putGrade {s : State} {g : Grade} {r : GradeRecord} (hlow : r.low = (s.grades.get g).low)
    (hhigh : r.high = (s.grades.get g).high) (htotal : r.reserveTotal = (s.grades.get g).reserveTotal) :
    (s.putGrade g r).reserveView = s.reserveView := by
  cases g <;> simp_all [State.reserveView, State.putGrade, PerGrade.map, PerGrade.set, PerGrade.get]

@[simp] theorem State.reserveView_judgeReserve (s : State) (g : Grade) :
    (s.judgeReserve g).reserveView = s.reserveView := by
  have hflag : (s.putGrade g { s.grades.get g with inReserve := s.judgedInReserve (s.grades.get g) }).reserveView =
      s.reserveView := State.reserveView_putGrade rfl rfl rfl
  unfold State.judgeReserve
  dsimp only
  split
  · exact hflag
  · exact hflag

/-! ### Events -/

theorem State.reserveView_takeReply {α : Type} (s : State) (addr : Byte) (data : Option α)
    {f : State → Nat → α → State} (hf : ∀ t i d, (f t i d).reserveView = t.reserveView)
    (hfail : s.failAttempt.reserveView = s.reserveView) : (s.takeReply addr data f).reserveView = s.reserveView := by
  unfold State.takeReply
  repeat' split
  · exact hf s.pollEnded _ _
  · rfl
  · rfl
  · exact hfail
  · rfl

@[simp] theorem State.reserveView_failAttempt (s : State) : s.failAttempt.reserveView = s.reserveView := by
  unfold State.failAttempt
  dsimp only
  repeat' split
  · simp
  · rfl
  · rfl
  · rfl
  · rfl

@[simp] theorem State.reserveView_listenAdvert (s : State) (i : Nat) (a : AdvertData) :
    (s.listenAdvert i a).reserveView = s.reserveView := by
  unfold State.listenAdvert
  dsimp only
  repeat' split
  all_goals rfl

@[simp] theorem State.reserveView_takeAdvert (s : State) (i : Nat) (a : AdvertData) :
    (s.takeAdvert i a).reserveView = s.reserveView := by
  unfold State.takeAdvert State.confirmAdvert State.boundAdvert
  dsimp only
  repeat' split
  all_goals simp

@[simp] theorem State.reserveView_takeStatus (s : State) (i : Nat) (c : CallData) :
    (s.takeStatus i c).reserveView = s.reserveView := by
  unfold State.takeStatus
  split <;> simp

@[simp] theorem State.reserveView_takeLegacy (s : State) (i : Nat) (c : CallData) :
    (s.takeLegacy i c).reserveView = s.reserveView := by
  unfold State.takeLegacy State.listenLegacy
  dsimp only
  repeat' split
  all_goals simp

@[simp] theorem State.reserveView_takeAck (s : State) (m : LinkMsg) : (s.takeAck m).reserveView = s.reserveView := by
  unfold State.takeAck State.acknowledge
  dsimp only
  repeat' split
  all_goals simp

@[simp] theorem State.reserveView_takeSample (s : State) (d : SampleData) :
    (s.takeSample d).reserveView = s.reserveView := by
  unfold State.takeSample
  dsimp only
  repeat' split
  all_goals rfl

@[simp] theorem State.reserveView_beginPass (s : State) : s.beginPass.reserveView = s.reserveView := by
  unfold State.beginPass
  split
  · rfl
  · calc
      _ = (([.tg, .og, .vg] : List Grade).foldl State.judgeReserve s.readmit).reserveView := rfl
      _ = s.reserveView := by simp

@[simp] theorem State.reserveView_completePass (s : State) : s.completePass.reserveView = s.reserveView := by
  cases hp : s.pass with
  | none => rw [State.completePass_none hp]
  | some p =>
    have hcompleted : s.completePass = s.completed p := State.completePass_some hp
    rw [hcompleted, State.reserveView, State.completed_frame]
    rfl

/-- No event writes a working range, a reserve total or a window. -/
theorem event_reserveView {c : Instr} {f : State → State} (hf : eventOf c = some f) (s : State) :
    (f s).reserveView = s.reserveView := by
  cases c <;> simp only [eventOf, Option.some.injEq, reduceCtorEq] at hf <;> subst hf
  case writeFrame p x => simp
  case readAnswer p x => simp
  case sampleMessage bytes =>
    dsimp only
    split
    · simp
    · rfl
  case ageExpiry c =>
    dsimp only [State.ageExpiry]
    repeat' split
    all_goals rfl
  case staleTimerExpiry c =>
    dsimp only [State.staleExpiry]
    repeat' split
    all_goals rfl
  case quietHoldExpiry i =>
    dsimp only [State.quietExpiry]
    repeat' split
    all_goals simp
  case silenceExpiry i =>
    dsimp only [State.silenceExpiry]
    repeat' split
    all_goals simp
  case poll =>
    dsimp only [State.beginPoll]
    repeat' split
    all_goals rfl
  case pollTimeout =>
    dsimp only [State.pollTimedOut]
    split <;> rfl
  case advert m => exact s.reserveView_takeReply _ _ State.reserveView_takeAdvert s.reserveView_failAttempt
  case status m => exact s.reserveView_takeReply _ _ State.reserveView_takeStatus s.reserveView_failAttempt
  case legacy m => exact s.reserveView_takeReply _ _ State.reserveView_takeLegacy s.reserveView_failAttempt
  case setpoint =>
    dsimp only [State.beginSetpoint]
    repeat' split
    all_goals rfl
  case setpointAck m => simp
  case failedAttempt => simp
  case meteringTick => exact State.reserveView_congr (by rw [State.meteringTick_frame]) (by rw [State.meteringTick_frame])
  case cut i =>
    dsimp only [State.cutSlot]
    repeat' split
    all_goals simp
  case idleRelease i =>
    dsimp only [State.idleSlot]
    repeat' split
    all_goals simp
  case passBegin => simp
  case passCompletion => simp
  case recoveryHoldExpiry => simp

/-! ### Requests -/

/-- A request that writes a grade's configuration or a window. -/
def writesReserves : Request → Bool
  | .setGrade _ => true
  | .setWindow _ => true
  | .clearWindow _ => true
  | _ => false

theorem State.reserveView_restarted (s : State) : s.restarted.reserveView = s.reserveView := by
  rw [State.reserveView, State.restarted_frame]
  rfl

/-- Beside the three that write a grade or a window, no request changes what the law of the reserves reads. -/
theorem replyOf_reserveView (p : PortId) {r : Request} (h : writesReserves r = false) (s : State) :
    (replyOf p r s).state.reserveView = s.reserveView := by
  cases r <;> simp only [writesReserves, reduceCtorEq] at h <;> dsimp only [replyOf]
  case createOfftake b => unfold reqCreateOfftake; repeat' split
                          all_goals rfl
  case amendOfftake b => unfold reqAmendOfftake; dsimp only; repeat' split
                         all_goals simp
  case findOfftake t => unfold reqFindOfftake; split <;> rfl
  case readOfftake i => unfold reqReadOfftake; split <;> rfl
  case retireOfftake i t => unfold reqRetireOfftake; repeat' split
                            all_goals simp
  case renegotiate i t => unfold reqRenegotiate; repeat' split
                          all_goals simp
  case release i t => unfold reqRelease; repeat' split
                      all_goals simp
  case setChannel b => unfold reqSetChannel; repeat' split
                       all_goals rfl
  case readChannel c => unfold reqReadChannel; split <;> rfl
  case readGrade g => unfold reqReadGrade; split <;> rfl
  case readWindow w => unfold reqReadWindow; split <;> rfl
  case setPlant b => unfold reqSetPlant; dsimp only; repeat' split
                     all_goals rfl
  case readPlant => rfl
  case setCommitment v => unfold reqSetCommitment; split <;> rfl
  case readBalance => rfl
  case pushCurtail level => unfold reqPushCurtail; repeat' split
                            all_goals simp
  case popCurtail => unfold reqPopCurtail; repeat' split
                     all_goals simp
  case readCurtail => rfl
  case openAccount n k key => unfold reqOpenAccount; repeat' split
                              all_goals rfl
  case amendAccount n key => unfold reqAmendAccount; repeat' split
                             all_goals simp
  case readAccount n => unfold reqReadAccount; split <;> rfl
  case retireAccount n => unfold reqRetireAccount State.closeEntry; repeat' split
                          all_goals rfl
  case bindAccount i t n => unfold reqBindAccount; repeat' split
                            all_goals simp
  case unbindAccount i t => unfold reqUnbindAccount; repeat' split
                            all_goals simp
  case setExportAccount n => unfold reqSetExportAccount; repeat' split
                             all_goals simp
  case closePeriod n => unfold reqClosePeriod; repeat' split
                        all_goals simp
  case takeStatement n => unfold reqTakeStatement; repeat' split
                          all_goals simp
  case reprice n => unfold reqReprice; dsimp only; repeat' split
                    all_goals simp
  case writeTariff b => unfold reqWriteTariff; repeat' split
                        all_goals rfl
  case invalidateTariff i => unfold reqInvalidateTariff; repeat' split
                             all_goals rfl
  case readTariff i => unfold reqReadTariff; split <;> rfl
  case probeTariff m key => unfold reqProbeTariff; repeat' split
                            all_goals rfl
  case setSeason n => unfold reqSetSeason; repeat' split
                      all_goals rfl
  case setBand b => unfold reqSetBand; repeat' split
                    all_goals rfl
  case readNotices => unfold reqReadNotices; dsimp only; split <;> rfl
  case clearNotice c => unfold reqClearNotice; repeat' split
                        all_goals rfl
  case setRouting port add drop => unfold reqSetRouting; repeat' split
                                   all_goals rfl
  case setNoticeMode m => unfold reqSetNoticeMode; repeat' split
                          all_goals rfl
  case restart =>
    unfold reqRestart
    split
    · rfl
    · exact s.reserveView_restarted

end Sys2Proof.Machine
end

section
/-! ### Windows and their totals (R84, R91) -/

namespace Sys2Proof.Machine

open Sys2Proof

theorem windowTotal_cons (w : Window) (ws : List Window) (g : Grade) :
    windowTotal (w :: ws) g = w.share g + windowTotal ws g := by
  by_cases h : (w.valid && w.grade = g) = true <;> simp [windowTotal, Window.share, h]

/-- A window rewritten changes a grade's total by what it counts toward the grade. -/
theorem windowTotal_set (w' : Window) (g : Grade) {w : Window} :
    ∀ {ws : List Window} {n : Nat}, ws[n]? = some w →
      windowTotal (ws.set n w') g + w.share g = windowTotal ws g + w'.share g
  | [], n, h => by simp at h
  | v :: ws, 0, h => by
    obtain rfl : v = w := by simpa using h
    simp only [List.set_cons_zero, windowTotal_cons]
    omega
  | v :: ws, n + 1, h => by
    have ih := windowTotal_set w' g (ws := ws) (n := n) (by simpa using h)
    simp only [List.set_cons_succ, windowTotal_cons]
    omega

/-- A window written, and the reserve totals recomputed (R95, R96). -/
def State.withWindow (s : State) (n : Nat) (w : Window) : State :=
  { s with windows := s.windows.setIfInBounds n w }.retotal

theorem State.grades_retotal (s : State) (g : Grade) :
    s.retotal.grades.get g = { s.grades.get g with reserveTotal := windowTotal s.windows.toList g } :=
  PerGrade.get_ofFn _ g

theorem State.grades_withWindow (s : State) (n : Nat) (w : Window) (g : Grade) :
    (s.withWindow n w).grades.get g =
      { s.grades.get g with reserveTotal := windowTotal (s.withWindow n w).windows.toList g } :=
  State.grades_retotal _ g

theorem State.windowTotal_withWindow {s : State} {n : Nat} {w : Window} (hw : s.windows[n]? = some w) (w' : Window)
    (g : Grade) : windowTotal (s.withWindow n w').windows.toList g =
      windowTotal s.windows.toList g - w.share g + w'.share g := by
  have hentry : s.windows.toList[n]? = some w := by simpa using hw
  have hcounted := windowTotal_set { w with valid := false } g hentry
  have hset := windowTotal_set w' g hentry
  rw [← Vector.toList_setIfInBounds] at hset
  have hcleared : ({ w with valid := false } : Window).share g = 0 := rfl
  show windowTotal (s.windows.setIfInBounds n w').toList g = _
  omega

/-- A window written within the limits of the grades keeps the law of the reserves. -/
theorem State.reservesOk.withWindow {s : State} (h : s.reservesOk) {n : Nat} {w w' : Window}
    (hw : s.windows[n]? = some w)
    (hlimit : ∀ g, (s.grades.get g).reserveTotal - w.share g + w'.share g ≤
      reserveLimit (s.grades.get g).low (s.grades.get g).high) : (s.withWindow n w').reservesOk := by
  intro g
  rw [State.grades_withWindow]
  refine ⟨rfl, ?_⟩
  dsimp only
  rw [State.windowTotal_withWindow hw, ← (h g).1]
  exact hlimit g

/-- Totals that are the sums of their windows stay as they are. -/
theorem State.reservesOk.retotal_eq {s : State} (h : s.reservesOk) : s.retotal = s := by
  have hgrade : ∀ g, { s.grades.get g with reserveTotal := windowTotal s.windows.toList g } = s.grades.get g := by
    intro g
    rw [← (h g).1]
  simp only [State.retotal, hgrade]
  rfl

/-- A window that is not valid, cleared again, leaves the part as it is. -/
theorem State.reservesOk.withWindow_cleared {s : State} (h : s.reservesOk) {n : Nat} {w : Window}
    (hw : s.windows[n]? = some w) (hvalid : w.valid = false) : s.withWindow n { w with valid := false } = s := by
  have hcleared : ({ w with valid := false } : Window) = w := by rw [← hvalid]
  have hsame : s.windows.setIfInBounds n w = s.windows := by
    obtain ⟨hn, rfl⟩ := Vector.getElem?_eq_some_iff.mp hw
    ext i hi
    rw [Vector.getElem_setIfInBounds]
    split
    · next heq => simp only [heq]
    · rfl
  rw [hcleared, State.withWindow, hsame]
  exact h.retotal_eq

/-! ### The requests of the Grade Balance Unit (R93 to R96) -/

/-- A SET_GRADE whose values and channels pass is judged by the reserve limit (R93). -/
theorem reqSetGrade_checked {p : PortId} {b : GradeBody} {s : State} {g : Grade}
    (hright : s.hasRight p .maintain = true) (hgrade : b.grade = g.code) (hvalues : gradeValuesOk b = true)
    (hchannels : gradeChannelsOk s b = true) :
    reqSetGrade p b s =
      if reserveLimit (lowOf b) (highOf b) < (s.grades.get g).reserveTotal then s.refuse .reserveLimit
      else (s.putGrade g (configuredGrade b (s.grades.get g))).accept := by
  simp [reqSetGrade, hright, hgrade, Grade.ofCode_code, hvalues, hchannels]

/-- A SET_WINDOW that names a window and a grade is judged by the reserve limit (R95). -/
theorem reqSetWindow_checked {p : PortId} {b : WindowBody} {s : State} {w : Window} {g : Grade}
    (hright : s.hasRight p .maintain = true) (hw : s.windows[b.window]? = some w) (hgrade : b.grade = g.code) :
    reqSetWindow p b s =
      if reserveLimit (s.grades.get g).low (s.grades.get g).high <
          (s.grades.get g).reserveTotal - w.share g + floorZero maxFigure b.reserve then s.refuse .reserveLimit
      else (s.withWindow b.window ⟨true, g, b.value, b.mask, floorZero maxFigure b.reserve⟩).accept := by
  simp [reqSetWindow, hright, hw, hgrade, Grade.ofCode_code, State.withWindow]

/-- A CLEAR_WINDOW that names a window clears it (R96). -/
theorem reqClearWindow_checked {p : PortId} {n : Nat} {s : State} {w : Window} (hright : s.hasRight p .maintain = true)
    (hs : s.reservesOk) (hw : s.windows[n]? = some w) :
    reqClearWindow p n s = (s.withWindow n { w with valid := false }).accept := by
  cases hvalid : w.valid with
  | false => simp [reqClearWindow, hright, hw, hvalid, hs.withWindow_cleared hw hvalid]
  | true => simp [reqClearWindow, hright, hw, hvalid, State.withWindow]

/-- What an accepted SET_WINDOW and CLEAR_WINDOW leave of the part. -/
theorem State.withWindow_frame (s : State) (n : Nat) (w : Window) :
    s.withWindow n w = { s with windows := (s.withWindow n w).windows, grades := (s.withWindow n w).grades } := rfl

/-- Settles O22: the accepted replies are `configuredGrade` written and `withWindow`. -/
theorem gradeRequestsComplete : Obligations.GradeRequestsComplete := by
  intro p s q hright
  refine ⟨fun b g htakes hgrade hvalues hchannels hlimit => ?_, fun b w g htakes hw hgrade hlimit => ?_,
    fun n w htakes hs hw => ?_⟩
  · have hreply := reqSetGrade_checked hright hgrade hvalues hchannels
    rw [if_neg (Nat.not_lt.mpr hlimit)] at hreply
    refine (exec_reply htakes hreply).trans ?_
    simp only [State.putGrade, configuredGrade, lowOf, targetOf, highOf, floorZero, supplyList, maxFigure,
      State.accept_state, State.accept_result, State.accept_body]
  · have hreply := reqSetWindow_checked hright hw hgrade
    rw [if_neg (by simpa [Window.share, floorZero, maxFigure, min_comm] using hlimit)] at hreply
    refine ⟨_, exec_reply htakes hreply, State.withWindow_frame _ _ _, ?_, State.grades_withWindow s _ _⟩
    rw [floorZero, maxFigure]
    rfl
  · exact ⟨_, exec_reply htakes (reqClearWindow_checked hright hs hw), State.withWindow_frame _ _ _, rfl,
      State.grades_withWindow s _ _⟩

/-! ### Every step keeps the law of the reserves (R92) -/

theorem State.reservesOk.reqSetGrade {s : State} (h : s.reservesOk) (p : PortId) (b : GradeBody) :
    (reqSetGrade p b s).state.reservesOk := by
  unfold Machine.reqSetGrade
  repeat' split
  · exact h
  · exact h
  · exact h
  · exact h
  · exact h
  · next g _ _ _ hlimit =>
    intro k
    rw [State.accept_state, State.putGrade, PerGrade.get_set]
    split
    · next hk => exact ⟨hk ▸ (h g).1, Nat.not_lt.mp hlimit⟩
    · exact h k

theorem State.reservesOk.reqSetWindow {s : State} (h : s.reservesOk) (p : PortId) (b : WindowBody) :
    (reqSetWindow p b s).state.reservesOk := by
  unfold Machine.reqSetWindow
  dsimp only
  repeat' split
  · exact h
  · exact h
  · next w g hw _ hlimit =>
    refine h.withWindow hw fun k => ?_
    have hk := (h k).2
    by_cases hkg : g = k
    · subst hkg
      simpa [Window.share] using hlimit
    · have hother : (⟨true, g, b.value, b.mask, floorZero maxFigure b.reserve⟩ : Window).share k = 0 := by
        simp [Window.share, hkg]
      rw [hother]
      omega
  · exact h
  · exact h

theorem State.reservesOk.reqClearWindow {s : State} (h : s.reservesOk) (p : PortId) (n : Nat) :
    (reqClearWindow p n s).state.reservesOk := by
  unfold Machine.reqClearWindow
  repeat' split
  · exact h
  · exact h
  · next w hw _ => exact h.withWindow hw fun k => (Nat.sub_le _ _).trans (h k).2
  · exact h

/-- Every request keeps the law of the reserves. -/
theorem State.reservesOk.request {s : State} (h : s.reservesOk) (p : PortId) (r : Request) :
    (replyOf p r s).state.reservesOk := by
  cases hw : writesReserves r with
  | false => exact h.view (replyOf_reserveView p hw s)
  | true =>
    cases r <;> simp only [writesReserves, Bool.false_eq_true] at hw
    case setGrade b => exact h.reqSetGrade p b
    case setWindow b => exact h.reqSetWindow p b
    case clearWindow n => exact h.reqClearWindow p n

theorem State.released_reservesOk (m n : Bool) (rest : List Instr) :
    ({ State.released m n with pending := rest } : State).reservesOk := by
  intro g
  cases g <;> exact ⟨rfl, Nat.zero_le _⟩

theorem step_keeps_reservesOk (s t : State) (hs : s.reservesOk) (h : step s = .next t) : t.reservesOk := by
  refine step_keeps (exec_keeps (P := State.reservesOk) (fun _ hs => hs.view rfl) (fun _ m n _ => ?_) ?_ ?_)
    (fun _ hs => hs.view rfl) (fun _ _ hs => hs.view rfl) s t hs h
  · exact State.released_reservesOk m n _
  · exact fun p r s q _ _ hs => (hs.request p r).view (by simp)
  · exact fun c f s hf _ hs => hs.view (event_reserveView hf s)

/-- Settles O56: SET_GRADE and the windows' requests are held to the limit, and nothing else of a step writes what the law
reads. -/
theorem reservesStayWithinLimits : Obligations.ReservesStayWithinLimits := by
  refine ⟨step_keeps_reservesOk, fun p s q g hright => ⟨fun b w htakes hw hgrade hlimit => ?_,
    fun b htakes hgrade hvalues hchannels hlimit => ?_⟩⟩
  · have hreply := reqSetWindow_checked hright hw hgrade
    rw [if_pos (by simpa [reserveLimit, Window.share, floorZero, maxFigure, min_comm] using hlimit)] at hreply
    exact exec_reply htakes hreply
  · have hreply := reqSetGrade_checked hright hgrade hvalues hchannels
    rw [reserveLimit, if_pos hlimit] at hreply
    exact exec_reply htakes hreply

end Sys2Proof.Machine
end

section
/-! ## The figures of a grade (R85 to R88) -/

namespace Sys2Proof.Machine

open Sys2Proof

/-- With no CV channel the flow has no heating value (R78, R85). -/
theorem gasPower_zero (flow : Int) : gasPower flow 0 = 0 := by simp [gasPower]

theorem State.supplyPower_none {s : State} {r : GradeRecord} (h : r.supplyChannels = [] ∨ r.cv = none) :
    s.supplyPower r = 0 := by
  rcases h with h | h <;> simp [State.supplyPower, h, gasPower_zero]

theorem clampInt_bounds {top : Nat} (v : Int) : -(top : Int) ≤ clampInt (-top) top v ∧ clampInt (-top) top v ≤ top := by
  rw [clampInt]
  omega

/-- The correction never leaves the band of H_max (R86). -/
theorem State.holderCorrection_bounds (s : State) (r : GradeRecord) :
    -(r.hMax : Int) ≤ s.holderCorrection r ∧ s.holderCorrection r ≤ r.hMax := by
  unfold State.holderCorrection
  split
  · exact clampInt_bounds _
  · omega

/-- R87 in one sum: no less than 0, and no more than a figure holds. -/
theorem cast_available (supply : Nat) (correction : Int) :
    ((min maxFigure ((supply : Int) + correction).toNat : Nat) : Int) =
      min 2147483647 (max 0 ((supply : Int) + correction)) := by
  rw [maxFigure]
  omega

/-- Settles O23: the figures are those of `gradeView`, read by what the grade names. -/
theorem gradeFiguresFollowTheirRules : Obligations.GradeFiguresFollowTheirRules := by
  intro s g r v
  obtain ⟨hbelow, habove⟩ := s.holderCorrection_bounds r
  refine ⟨?_, min_le_left _ _, hbelow, habove, State.supplyPower_none, fun k hk => ?_, fun hlevel => ?_,
    fun c hlevel => ⟨?_, ?_⟩⟩
  · exact cast_available _ _
  · show State.supplyPower s r = _
    rw [State.supplyPower, hk]
    rfl
  · show s.holderCorrection r = 0 ∧ s.judgedInReserve r = false
    simp [State.holderCorrection, State.judgedInReserve, hlevel]
  · show s.holderCorrection r = _
    rw [State.holderCorrection, hlevel]
    rfl
  · show s.judgedInReserve r = true ↔ _
    simp [State.judgedInReserve, hlevel]

end Sys2Proof.Machine
end

section
/-! ## PASS_BEGIN (R106 to R109, R124, R151, R152) -/

namespace Sys2Proof.Machine

open Sys2Proof

/-! ### Readmission (R151, R152) -/

/-- The classes a level holds out (R139). -/
theorem admits_iff (level prio : Nat) :
    admits level prio = true ↔ (level = 2 → prio ≤ 2) ∧ (level = 3 → prio ≤ 1) ∧ (level = 4 → prio = 0) := by
  unfold admits
  split
  · simp
  · simp
  · simp
  · next h2 h3 h4 => exact iff_of_true rfl ⟨fun h => (h2 h).elim, fun h => (h3 h).elim, fun h => (h4 h).elim⟩

/-- The entries held out at the head of the queue move to the top context's list (R152). -/
theorem State.readmitFrom_heldOut {ahead : List Nat} (rest : List Nat) :
    ∀ {s : State}, (∀ j ∈ ahead, admits s.level (s.prioOf j) = false) →
      s.readmitFrom (ahead ++ rest) = ({ s with stack := appendedTop s.stack ahead } : State).readmitFrom rest := by
  induction ahead with
  | nil => intro s _; rw [List.nil_append, appendedTop_nil]
  | cons j ahead ih =>
    intro s hout
    obtain ⟨hj, hahead⟩ := List.forall_mem_cons.mp hout
    have hlevel : (s.appendTop j).level = s.level := level_appendedTop (by rw [State.appendTop_eq])
    have hstep : s.readmitFrom (j :: (ahead ++ rest)) = (s.appendTop j).readmitFrom (ahead ++ rest) := by
      rw [State.readmitFrom, if_neg (by simp [hj])]
    have hprio : ∀ k, (s.appendTop j).prioOf k = s.prioOf k := fun k => by rw [State.prioOf, State.offtake_appendTop]; rfl
    rw [List.cons_append, hstep, ih (by simpa only [hlevel, hprio] using hahead), State.appendTop_eq]
    dsimp only
    rw [appendedTop_append]
    rfl

/-- The first entry that is admitted is readmitted (R151). -/
theorem State.readmitFrom_admitted {s : State} {i : Nat} (rest : List Nat) (h : admits s.level (s.prioOf i) = true) :
    s.readmitFrom (i :: rest) = { s.modOfftake i Offtake.readmitted with readmission := rest } := by
  rw [State.readmitFrom, if_pos h]

theorem State.stack_readmitFrom_admitted {s : State} {i : Nat} (rest : List Nat)
    (h : admits s.level (s.prioOf i) = true) : (s.readmitFrom (i :: rest)).stack = s.stack := by
  rw [State.readmitFrom_admitted rest h, State.modOfftake_frame]

/-- Readmission changes the stack in the top context's list alone. -/
theorem State.stack_readmit (s : State) : ∃ moved, s.readmit.stack = appendedTop s.stack moved := by
  have key : ∀ (q : List Nat) (s : State), ∃ moved, (s.readmitFrom q).stack = appendedTop s.stack moved := by
    intro q
    induction q with
    | nil => exact fun s => ⟨[], (appendedTop_nil s.stack).symm⟩
    | cons i rest ih =>
      intro s
      cases h : admits s.level (s.prioOf i) with
      | true => exact ⟨[], (State.stack_readmitFrom_admitted rest h).trans (appendedTop_nil s.stack).symm⟩
      | false =>
        obtain ⟨moved, hmoved⟩ := ih { s with stack := appendedTop s.stack [i] }
        refine ⟨[i] ++ moved, ?_⟩
        have hout := State.readmitFrom_heldOut (s := s) (ahead := [i]) rest (by simpa using h)
        rw [List.singleton_append] at hout
        rw [hout, hmoved, appendedTop_append]
  exact key s.readmission s

theorem State.level_readmit (s : State) : s.readmit.level = s.level :=
  let ⟨_, h⟩ := s.stack_readmit
  level_appendedTop h

theorem State.readmit_frame (s : State) :
    s.readmit = { s with slots := s.readmit.slots, stack := s.readmit.stack, readmission := s.readmit.readmission } :=
  State.readmitFrom_frame s.readmission s

/-- A queue held out whole is moved whole. -/
theorem State.readmit_heldOut {s : State} {ahead : List Nat} (hout : ∀ j ∈ ahead, admits s.level (s.prioOf j) = false)
    (hqueue : s.readmission = ahead) :
    s.readmit = { s with stack := appendedTop s.stack ahead, readmission := [] } := by
  have h := State.readmitFrom_heldOut [] hout
  rw [List.append_nil] at h
  rw [State.readmit, hqueue, h, State.readmitFrom]

/-- The first entry admitted is readmitted, and those ahead of it are moved. -/
theorem State.readmit_admitted {s : State} {ahead rest : List Nat} {i : Nat} {o : Offtake}
    (hout : ∀ j ∈ ahead, admits s.level (s.prioOf j) = false) (hqueue : s.readmission = ahead ++ i :: rest)
    (ho : s.offtake i = some o) (hadmitted : admits s.level o.prio = true) :
    s.readmit =
      { s.modOfftake i Offtake.readmitted with stack := appendedTop s.stack ahead, readmission := rest } := by
  have hprio : s.prioOf i = o.prio := by simp [State.prioOf, ho]
  have hlevel : ({ s with stack := appendedTop s.stack ahead } : State).level = s.level := level_appendedTop rfl
  rw [State.readmit, hqueue, State.readmitFrom_heldOut _ hout, State.readmitFrom_admitted, State.modOfftake_withStack]
  rw [hlevel]
  exact hprio ▸ hadmitted

/-! ### The grades judged for reserve (R88) -/

/-- The grade enters reserve: its flag is clear, and it is judged in reserve. -/
def State.entersReserve (s : State) (g : Grade) : Bool := (s.gradeView g).inReserve && !(s.grades.get g).inReserve

theorem State.judgeReserve_frame (s : State) (g : Grade) :
    s.judgeReserve g = { s with
      grades := s.grades.set g { s.grades.get g with inReserve := (s.gradeView g).inReserve }
      notices := (s.judgeReserve g).notices } := by
  unfold State.judgeReserve
  dsimp only
  split <;> rfl

theorem State.notice_judgeReserve (s : State) (g : Grade) (k : NoticeKind) :
    (s.judgeReserve g).notice k =
      if k = .reserve ∧ s.entersReserve g = true then (s.notice k).raise g.code else s.notice k := by
  have hwritten : ∀ r, (s.putGrade g r).notice k = s.notice k := fun _ => rfl
  cases h : s.entersReserve g with
  | true =>
    have hjudged : s.judgeReserve g =
        (s.putGrade g { s.grades.get g with inReserve := (s.gradeView g).inReserve }).raise .reserve g.code := if_pos h
    rw [hjudged, State.notice_raise, hwritten]
    simp
  | false =>
    have hjudged : s.judgeReserve g =
        s.putGrade g { s.grades.get g with inReserve := (s.gradeView g).inReserve } :=
      if_neg (by rw [State.entersReserve] at h; exact Bool.eq_false_iff.mp h)
    rw [hjudged, hwritten]
    simp

theorem State.grades_judgeReserve (s : State) (g h : Grade) :
    (s.judgeReserve g).grades.get h =
      if h = g then { s.grades.get h with inReserve := (s.gradeView h).inReserve } else s.grades.get h := by
  rw [State.judgeReserve_frame, PerGrade.get_set]
  split
  · next heq => rw [heq]
  · rfl

/-- Judging a grade changes the figures of none. -/
theorem State.gradeView_judgeReserve (s : State) (g h : Grade) : (s.judgeReserve g).gradeView h = s.gradeView h := by
  have hvalue : (s.judgeReserve g).effValue = s.effValue := by rw [State.judgeReserve_frame]; rfl
  unfold State.gradeView State.supplyPower State.holderCorrection State.judgedInReserve
  rw [hvalue, State.grades_judgeReserve]
  split <;> rfl

/-- Grades judged one by one: the flag of each is written, and each that enters reserve is noted, in their order. -/
theorem judgeReserves (gs : List Grade) (hnodup : gs.Nodup) : ∀ s : State,
    (∀ h, (gs.foldl State.judgeReserve s).grades.get h =
      if h ∈ gs then { s.grades.get h with inReserve := (s.gradeView h).inReserve } else s.grades.get h)
    ∧ (∀ k, k ≠ NoticeKind.reserve → (gs.foldl State.judgeReserve s).notice k = s.notice k)
    ∧ (gs.foldl State.judgeReserve s).notice .reserve =
      (gs.filter s.entersReserve).foldl (fun e g => e.raise g.code) (s.notice .reserve) := by
  induction gs with
  | nil => exact fun s => ⟨fun h => by simp, fun _ _ => rfl, rfl⟩
  | cons g gs ih =>
    intro s
    obtain ⟨hg, hgs⟩ := List.nodup_cons.mp hnodup
    obtain ⟨hgrades, hothers, hreserve⟩ := ih hgs (s.judgeReserve g)
    have hlater : gs.filter (s.judgeReserve g).entersReserve = gs.filter s.entersReserve := by
      refine List.filter_congr fun h hh => ?_
      have hne : h ≠ g := fun heq => hg (heq ▸ hh)
      rw [State.entersReserve, State.gradeView_judgeReserve, State.grades_judgeReserve, if_neg hne, State.entersReserve]
    refine ⟨fun h => ?_, fun k hk => ?_, ?_⟩
    · rw [List.foldl_cons, hgrades, State.gradeView_judgeReserve, State.grades_judgeReserve]
      by_cases heq : h = g
      · simp [heq, hg]
      · simp [heq]
    · rw [List.foldl_cons, hothers k hk, State.notice_judgeReserve, if_neg fun c => hk c.1]
    · rw [List.foldl_cons, hreserve, hlater, State.notice_judgeReserve, List.filter_cons]
      cases s.entersReserve g <;> simp

theorem judgeReserves_frame (gs : List Grade) : ∀ s : State,
    gs.foldl State.judgeReserve s = { s with
      grades := (gs.foldl State.judgeReserve s).grades, notices := (gs.foldl State.judgeReserve s).notices } := by
  induction gs with
  | nil => exact fun s => rfl
  | cons g gs ih => intro s; rw [List.foldl_cons, ih, State.judgeReserve_frame]

/-! ### The view (R106, R107, R124) -/

/-- What the pass reads, but for the records, readmission leaves as it was. -/
theorem State.view_readmit (s : State) : s.readmit.view = { s.view with records := s.readmit.recordViews } := by
  have hlevel := s.level_readmit
  have hframe := s.readmit_frame
  generalize s.readmit = t at hlevel hframe
  unfold State.view
  rw [hlevel, hframe]
  rfl

/-- The part with its queue readmitted and its grades judged, as a pass begins. -/
def State.begun (s : State) : State := ([.tg, .og, .vg] : List Grade).foldl State.judgeReserve s.readmit

theorem State.begun_frame (s : State) :
    s.begun = { s with
      slots := s.readmit.slots, stack := s.readmit.stack, readmission := s.readmit.readmission
      grades := s.begun.grades, notices := s.begun.notices } := by
  have h := judgeReserves_frame [.tg, .og, .vg] s.readmit
  rw [← State.begun] at h
  rw [h, State.readmit_frame]

/-- The pass that begins: its view is taken after readmission. -/
def State.newPass (s : State) : Pass := ⟨s.readmit.view, s.readmit.view.entries⟩

theorem State.beginPass_eq {s : State} (h : s.pass = none) :
    s.beginPass = { s.begun with pass := some s.newPass, passMs := 0, passLength := s.plant.interval } := by
  have hinterval : s.readmit.view.interval = s.plant.interval := by
    rw [State.view_readmit]
    rfl
  rw [State.beginPass, h, ← hinterval]
  rfl

/-- The grades' flags, and the notices, as a pass begins (R88). -/
theorem State.begun_reserve (s : State) :
    (∀ g, s.begun.grades.get g = { s.grades.get g with inReserve := (s.gradeView g).inReserve })
    ∧ (∀ k, k ≠ NoticeKind.reserve → s.begun.notice k = s.notice k)
    ∧ s.begun.notice .reserve = (([.tg, .og, .vg] : List Grade).filter s.entersReserve).foldl
        (fun e g => e.raise g.code) (s.notice .reserve) := by
  obtain ⟨hgrades, hothers, hreserve⟩ := judgeReserves [.tg, .og, .vg] (by decide) s.readmit
  have hnotice : s.readmit.notice = s.notice := by rw [State.readmit_frame]; rfl
  have hview : s.readmit.gradeView = s.gradeView := by rw [State.readmit_frame]; rfl
  have hrecords : s.readmit.grades = s.grades := by rw [State.readmit_frame]
  have henters : s.readmit.entersReserve = s.entersReserve := by
    funext g
    rw [State.entersReserve, hview, hrecords, State.entersReserve]
  rw [hnotice] at hothers hreserve
  rw [henters] at hreserve
  refine ⟨fun g => ?_, hothers, hreserve⟩
  have hg := hgrades g
  rw [hview, hrecords, if_pos (by cases g <;> decide)] at hg
  exact hg

/-- The policy in force (R107). -/
theorem State.view_policy (s : State) :
    (s.level < 3 → s.view.policy = s.plant.policy) ∧ (3 ≤ s.level → s.view.policy = .heatFirst) := by
  show (_ → policyAt s.level s.plant.policy = _) ∧ (_ → policyAt s.level s.plant.policy = _)
  unfold policyAt
  exact ⟨fun h => if_pos h, fun h => if_neg (Nat.not_lt.mpr h)⟩

/-- The readings of the recovery loop (R124). -/
theorem State.view_loop (s : State) :
    (s.plant.loopFlow = none → s.view.loop = none)
    ∧ ∀ a b c, s.plant.loopFlow = some a → s.plant.loopSupply = some b → s.plant.loopReturn = some c →
      s.view.loop = some ⟨s.effValue a, s.effValue b, s.effValue c⟩ := by
  show (_ → s.loopView = _) ∧ ∀ a b c, _ → _ → _ → s.loopView = _
  unfold State.loopView
  exact ⟨fun h => by simp [h], fun a b c ha hb hc => by simp [ha, hb, hc]⟩

/-- The house load, 0 when negative or absent (R124). -/
theorem State.view_houseLoad (s : State) :
    (s.plant.houseLoad = none → s.view.houseLoad = 0)
    ∧ ∀ c, s.plant.houseLoad = some c → (s.view.houseLoad : Int) = max 0 (s.effValue c) := by
  show (_ → s.houseLoad = _) ∧ ∀ c, _ → (s.houseLoad : Int) = _
  unfold State.houseLoad
  refine ⟨fun h => by simp [h], fun c h => ?_⟩
  rw [h, Option.map_some, Option.getD_some]
  omega

theorem View.candidate_iff (v : View) (r : RecordView) :
    v.candidate r = true ↔ r.supply = .active ∧ 0 < r.effCall ∧ admits v.level r.prio = true := by
  simp [View.candidate, and_comm, and_left_comm]

/-- The lists and the records as a pass begins (R151, R152): the entries ahead of the first admitted one are moved, and
that one is readmitted. -/
theorem State.begun_readmits {s : State} {ahead : List Nat} (hout : ∀ j ∈ ahead, admits s.level (s.prioOf j) = false) :
    (s.readmission = ahead → s.begun.readmission = [] ∧ s.begun.stack = appendedTop s.stack ahead
      ∧ s.begun.slots = s.slots)
    ∧ ∀ i rest o, s.readmission = ahead ++ i :: rest → s.offtake i = some o → admits s.level o.prio = true →
      s.begun.readmission = rest ∧ s.begun.stack = appendedTop s.stack ahead
      ∧ s.begun.offtake i = some o.readmitted ∧ ∀ j, j ≠ i → s.begun.offtake j = s.offtake j := by
  have hbegun : s.begun.readmission = s.readmit.readmission ∧ s.begun.stack = s.readmit.stack
      ∧ s.begun.slots = s.readmit.slots := by
    rw [State.begun_frame]
    exact ⟨rfl, rfl, rfl⟩
  obtain ⟨hqueue, hstack, hslots⟩ := hbegun
  rw [hqueue, hstack, hslots]
  refine ⟨fun hall => ?_, fun i rest o hsome ho hadmitted => ?_⟩
  · rw [State.readmit_heldOut hout hall]
    exact ⟨rfl, rfl, rfl⟩
  · have hrecord : ∀ j, s.begun.offtake j = (s.modOfftake i Offtake.readmitted).offtake j := fun j =>
      State.offtake_of_slots (hslots.trans (by rw [State.readmit_admitted hout hsome ho hadmitted])) j
    rw [State.readmit_admitted hout hsome ho hadmitted]
    refine ⟨rfl, rfl, ?_, fun j hj => ?_⟩
    · rw [hrecord, State.offtake_modOfftake, if_pos rfl, ho, Option.map_some]
    · rw [hrecord, State.offtake_modOfftake, if_neg (Ne.symm hj)]

theorem appendedTop_eq_listed {stack t : List Context} {ahead : List Nat} (h : t = appendedTop stack ahead) :
    ∀ top below, stack = top :: below → t = { top with shedList := top.shedList ++ ahead } :: below := by
  rintro top below rfl
  exact h

/-- Settles O29: readmission, the view after it, and the grades judged. -/
theorem passBeginCompletes : Obligations.PassBeginCompletes := by
  intro s hr hpass
  obtain ⟨hgrades, hothers, hreserve⟩ := s.begun_reserve
  have hexec : exec .passBegin s = .next s.beginPass := exec_running (f := State.beginPass) rfl hr
  rw [State.beginPass_eq hpass] at hexec
  have hview : s.newPass.view = { s.view with records := s.readmit.recordViews } := s.view_readmit
  have hslots : s.begun.slots = s.readmit.slots := by rw [State.begun_frame]
  refine ⟨_, s.newPass, hexec, by rw [State.begun_frame], rfl, ?_⟩
  rw [hview]
  refine ⟨rfl, s.view_policy.1, s.view_policy.2, ?_, PerGrade.get_ofFn _, rfl, rfl, rfl, rfl, rfl, rfl, rfl,
    s.view_loop.1, s.view_loop.2, s.view_houseLoad.1, s.view_houseLoad.2, fun r => ?_, hgrades, hothers, hreserve,
    fun hempty => ?_, fun ahead hout => ?_⟩
  · refine List.filterMap_congr fun i _ => ?_
    rw [← State.offtake_of_slots hslots]
    rfl
  · rw [View.candidate_iff, admits_iff]
    exact Iff.rfl
  · obtain ⟨moved, hmoved⟩ := s.stack_readmit
    have hstack : s.begun.stack = s.readmit.stack := by rw [State.begun_frame]
    exact hstack.trans (hmoved.trans (by rw [hempty]; rfl))
  · obtain ⟨hall, hsome⟩ := State.begun_readmits hout
    refine ⟨fun hqueue => ?_, fun i rest o hqueue ho hadmitted => ?_⟩
    · obtain ⟨hleft, hstack, hkept⟩ := hall hqueue
      exact ⟨hleft, appendedTop_eq_listed hstack, hkept⟩
    · obtain ⟨hleft, hstack, hrecord, hkept⟩ := hsome i rest o hqueue ho hadmitted
      exact ⟨hleft, appendedTop_eq_listed hstack, hrecord, hkept⟩

end Sys2Proof.Machine
end

section
/-! ## Blend grants and grades in reserve (R88, R91, R113 to R115) -/

namespace Sys2Proof.Machine

open Sys2Proof

/-! ### The draw of a blend grant (R114, R115) -/

theorem View.offered_le (v : View) (pools : PerGrade Nat) (g : Grade) : v.offered pools g ≤ pools.get g := by
  unfold View.offered
  split
  · exact Nat.zero_le _
  · exact le_rfl

theorem View.offered_inReserve {v : View} {g : Grade} (h : (v.grades.get g).inReserve = true) (pools : PerGrade Nat) :
    v.offered pools g = 0 := if_pos h

theorem View.offered_free {v : View} {g : Grade} (h : (v.grades.get g).inReserve = false) (pools : PerGrade Nat) :
    v.offered pools g = pools.get g := if_neg (by simp [h])

/-- The draws of a grant that the blend pool holds, grade by grade. -/
theorem View.drawSplit_spec (v : View) {pools : PerGrade Nat} {grant : Nat} (h : grant ≤ v.blendPool pools) :
    let sp := v.drawSplit pools grant
    sp.vg + sp.tg + sp.og = grant
    ∧ (sp.vg ≤ v.offered pools .vg ∧ sp.tg ≤ v.offered pools .tg ∧ sp.og ≤ v.offered pools .og)
    ∧ (0 < sp.tg → sp.vg = v.offered pools .vg)
    ∧ (0 < sp.og → sp.vg = v.offered pools .vg ∧ sp.tg = v.offered pools .tg) := by
  unfold View.blendPool at h
  unfold View.drawSplit
  dsimp only
  generalize v.offered pools .vg = a at *
  generalize v.offered pools .tg = b at *
  generalize v.offered pools .og = c at *
  refine ⟨?_, ⟨?_, ?_, ?_⟩, ?_, ?_⟩ <;> omega

/-! ### Who enters a class pass (R113, R114, R128) -/

theorem insertCand_perm (c : Cand) (cs : List Cand) : (insertCand c cs).Perm (c :: cs) := by
  induction cs with
  | nil => exact List.Perm.refl _
  | cons d ds ih =>
    unfold insertCand
    split
    · exact List.Perm.refl _
    · exact (ih.cons d).trans (List.Perm.swap c d ds)

/-- Ordering the candidates loses none and makes none (R111). -/
theorem orderCands_perm (cs : List Cand) : (orderCands cs).Perm cs := by
  induction cs with
  | nil => exact List.Perm.refl _
  | cons c cs ih => exact (insertCand_perm c (orderCands cs)).trans (ih.cons c)

/-- Each visit gives its own candidate's share. -/
theorem shareOut_slots (cs : List Cand) : ∀ pool weight,
    (shareOut pool weight cs).1.map (·.slot) = cs.map (·.slot) := by
  induction cs with
  | nil => exact fun _ _ => rfl
  | cons c cs ih =>
    intro pool weight
    unfold shareOut
    dsimp only
    split <;> simp [ih]

/-- A class pass gives a share to each of its candidates and to no other. -/
theorem classPass_slots (pool : Nat) (cs : List Cand) :
    ((classPass pool cs).1.map (·.slot)).Perm (cs.map (·.slot)) := by
  unfold classPass
  split
  · rw [List.map_map]
    exact List.Perm.refl _
  · rw [shareOut_slots]
    exact (orderCands_perm cs).map _

/-- Every share and every shed is of a slot with the property. -/
structure SlotsWithin (S : Nat → Prop) (shares : List Share) (shed : List ShedMember) : Prop where
  shares : ∀ x ∈ shares, S x.slot
  shed : ∀ m ∈ shed, S m.slot

namespace SlotsWithin

variable {S : Nat → Prop} {shares shares' : List Share} {shed shed' : List ShedMember}

theorem nil : SlotsWithin S [] [] := ⟨by simp, by simp⟩

theorem append (h : SlotsWithin S shares shed) (h' : SlotsWithin S shares' shed') :
    SlotsWithin S (shares ++ shares') (shed ++ shed') :=
  ⟨fun x hx => (List.mem_append.mp hx).elim (h.shares x) (h'.shares x),
    fun m hm => (List.mem_append.mp hm).elim (h.shed m) (h'.shed m)⟩

/-- A class pass over candidates that have the property. -/
theorem classPass {cs : List Cand} (hcs : ∀ c ∈ cs, S c.slot) (pool c : Nat) (heat : Bool) :
    SlotsWithin S (classPass pool cs).1 (shedOf c heat (classPass pool cs).1) := by
  have hshares : ∀ x ∈ (Machine.classPass pool cs).1, S x.slot := by
    intro x hx
    obtain ⟨d, hd, hslot⟩ := List.mem_map.mp ((classPass_slots pool cs).mem_iff.mp (List.mem_map_of_mem hx))
    exact hslot ▸ hcs d hd
  refine ⟨hshares, fun m hm => ?_⟩
  obtain ⟨x, hx, rfl⟩ := List.mem_map.mp hm
  exact hshares x (List.mem_filter.mp hx).1

end SlotsWithin

/-- The slot's record enters a class pass of some stage. -/
def View.enters (v : View) (i : Nat) : Prop :=
  ∃ c, (∃ g, ∃ x ∈ v.gradeCands c g, x.slot = i) ∨ (∃ x ∈ v.blendCands c, x.slot = i) ∨ ∃ x ∈ v.heatCands c, x.slot = i

theorem Stages.gasClass_within {v : View} {st : Stages} (h : SlotsWithin v.enters st.shares st.shed) (c : Nat) :
    SlotsWithin v.enters (st.gasClass v c).shares (st.gasClass v c).shed := by
  have hgrades := List.foldlRecOn ([.tg, .og, .vg] : List Grade) (Stages.gradeBound v c)
    (motive := fun st => SlotsWithin v.enters st.shares st.shed) h fun _ ht g _ =>
      ht.append (.classPass (fun x hx => ⟨c, .inl ⟨g, x, hx, rfl⟩⟩) _ c false)
  exact hgrades.append (.classPass (fun x hx => ⟨c, .inr (.inl ⟨x, hx, rfl⟩)⟩) _ c false)

/-- The stages give shares and sheds to those alone that enter a class pass. -/
theorem View.result_within (v : View) : SlotsWithin v.enters v.result.shares v.result.shed := by
  have hgas : SlotsWithin v.enters v.gasStages.shares v.gasStages.shed :=
    List.foldlRecOn [0, 1, 2, 3] (Stages.gasClass v) (motive := fun st => SlotsWithin v.enters st.shares st.shed)
      .nil fun _ ht c _ => Stages.gasClass_within ht c
  have hheat : ∀ pool, SlotsWithin v.enters (v.heatStages pool).shares (v.heatStages pool).shed := fun pool =>
    List.foldlRecOn [0, 1, 2, 3] (HeatStages.heatClass v) (motive := fun st => SlotsWithin v.enters st.shares st.shed)
      .nil fun _ ht c _ => ht.append (.classPass (fun x hx => ⟨c, .inr (.inr ⟨x, hx, rfl⟩)⟩) _ c true)
  exact hgas.append (hheat _)

theorem grantIn_absent {shares : List Share} {i : Nat} (h : ∀ x ∈ shares, x.slot ≠ i) : grantIn shares i = 0 := by
  have hnone : shares.find? (·.slot = i) = none := List.find?_eq_none.mpr fun x hx => by simpa using h x hx
  rw [grantIn, hnone]
  rfl

/-! ### Grades in reserve (R88, R91, R113) -/

theorem View.windowed_iff (v : View) (g : Grade) (t : Tag) :
    v.windowed g t = true ↔ ∃ w ∈ v.windows, w.valid = true ∧ w.grade = g ∧ t &&& w.mask = w.value &&& w.mask := by
  simp [View.windowed, Window.covers, and_assoc]

theorem View.mem_gradeCands {v : View} {c : Nat} {g : Grade} {x : Cand} :
    x ∈ v.gradeCands c g ↔ ∃ r ∈ v.records, v.candidate r = true ∧ r.prio = c ∧ r.boundGrade = some g
      ∧ ((v.grades.get g).inReserve = false ∨ v.windowed g r.tag = true) ∧ r.cand = x := by
  simp [View.gradeCands, and_assoc]

theorem View.mode_of_blendCands {v : View} {c : Nat} {x : Cand} (h : x ∈ v.blendCands c) :
    ∃ r ∈ v.records, r.mode = some .blend ∧ r.cand = x := by
  obtain ⟨r, hr, rfl⟩ := List.mem_map.mp h
  obtain ⟨hmem, htaken⟩ := List.mem_filter.mp hr
  simp only [Bool.and_eq_true, decide_eq_true_eq] at htaken
  exact ⟨r, hmem, htaken.2, rfl⟩

theorem View.heats_of_heatCands {v : View} {c : Nat} {x : Cand} (h : x ∈ v.heatCands c) :
    ∃ r ∈ v.records, r.heats = true ∧ r.cand = x := by
  obtain ⟨r, hr, rfl⟩ := List.mem_map.mp h
  obtain ⟨hmem, htaken⟩ := List.mem_filter.mp hr
  exact ⟨r, hmem, (Bool.and_eq_true_iff.mp htaken).2, rfl⟩

/-- A record bound to a grade draws on no blend pool and no heat pool. -/
theorem RecordView.boundGrade_eq_none {r : RecordView} (h : r.mode = some .blend ∨ r.heats = true) :
    r.boundGrade = none := by
  rcases h with h | h
  · simp [RecordView.boundGrade, h]
  · rcases (by simpa [RecordView.heats] using h : r.mode = some .heatMod ∨ r.mode = some .heatFixed) with h | h <;>
      simp [RecordView.boundGrade, h]

/-- A grade-bound record of a grade in reserve that no window covers enters no class pass. -/
theorem View.not_enters {v : View} {g : Grade} {r : RecordView} (honly : ∀ x ∈ v.records, x.slot = r.slot → x = r)
    (hbound : r.boundGrade = some g) (hreserve : (v.grades.get g).inReserve = true)
    (huncovered : v.windowed g r.tag = false) : ¬ v.enters r.slot := by
  have hpool : ¬ (r.mode = some .blend ∨ r.heats = true) := fun h => by
    rw [RecordView.boundGrade_eq_none h] at hbound
    cases hbound
  rintro ⟨c, ⟨k, x, hx, hslot⟩ | ⟨x, hx, hslot⟩ | ⟨x, hx, hslot⟩⟩
  · obtain ⟨y, hy, -, -, hk, hopen, rfl⟩ := View.mem_gradeCands.mp hx
    obtain rfl := honly y hy hslot
    obtain rfl : g = k := Option.some.inj (hbound.symm.trans hk)
    simp [hreserve, huncovered] at hopen
  · obtain ⟨y, hy, hmode, rfl⟩ := View.mode_of_blendCands hx
    obtain rfl := honly y hy hslot
    exact hpool (.inl hmode)
  · obtain ⟨y, hy, hheats, rfl⟩ := View.heats_of_heatCands hx
    obtain rfl := honly y hy hslot
    exact hpool (.inr hheats)

/-- A blend grant draws nothing of a grade in reserve (R114). -/
theorem View.drawn_inReserve {v : View} {g : Grade} (h : (v.grades.get g).inReserve = true) (pools : PerGrade Nat)
    (grant : Nat) : (drawn pools (v.drawSplit pools grant)).get g = pools.get g := by
  have hnone := View.offered_inReserve h pools
  cases g <;> simp [PerGrade.get, drawn, View.drawSplit, hnone]

theorem View.drawAll_inReserve {v : View} {g : Grade} (h : (v.grades.get g).inReserve = true) (shares : List Share)
    (is : List Nat) : ∀ pools, (v.drawAll shares is pools).1.get g = pools.get g := by
  induction is with
  | nil => exact fun _ => rfl
  | cons i is ih => exact fun pools => (ih _).trans (View.drawn_inReserve h pools _)

theorem classPass_nil (pool : Nat) : classPass pool [] = ([], pool) := by simp [classPass]

/-- The grade-bound stage of a grade draws on that grade's pool alone, and on none when nobody enters it. -/
theorem Stages.gradeBound_pool {v : View} {c : Nat} {g : Grade} (hnobody : v.gradeCands c g = []) (st : Stages)
    (k : Grade) : (st.gradeBound v c k).pools.get g = st.pools.get g := by
  show (st.pools.set k _).get g = _
  rw [PerGrade.get_set]
  split
  · next heq => rw [← heq, hnobody, classPass_nil]
  · rfl

/-- A grade in reserve whose windows cover no record is left whole. -/
theorem View.gasStages_pool {v : View} {g : Grade} (hreserve : (v.grades.get g).inReserve = true)
    (hnobody : ∀ c, v.gradeCands c g = []) : v.gasStages.pools.get g = (v.grades.get g).available := by
  have hfirst : (v.grades.map (·.available)).get g = (v.grades.get g).available := PerGrade.get_map _ _ _
  refine List.foldlRecOn (b := ⟨v.grades.map (·.available), [], [], []⟩) [0, 1, 2, 3] (Stages.gasClass v)
    (motive := fun st => st.pools.get g = (v.grades.get g).available) hfirst fun st hst c _ => ?_
  have hgrades := List.foldlRecOn ([.tg, .og, .vg] : List Grade) (Stages.gradeBound v c)
    (motive := fun st => st.pools.get g = (v.grades.get g).available) hst fun st ht k _ =>
      (Stages.gradeBound_pool (hnobody c) st k).trans ht
  exact (View.drawAll_inReserve hreserve _ _ _).trans hgrades

/-- Settles O28: a draw is `drawSplit_spec` with what each grade offers; what a grade in reserve gives, it gives to the
records that `gradeCands` names. -/
theorem blendGrantsAreDrawnInFull : Obligations.BlendGrantsAreDrawnInFull := by
  refine ⟨fun v pools grant hgrant => ?_, fun v g => ?_⟩
  · obtain ⟨hsum, ⟨hvg, htg, hog⟩, hbeforeTg, hbeforeOg⟩ := v.drawSplit_spec hgrant
    have hnone : ∀ {k : Grade} {n : Nat}, n ≤ v.offered pools k → (v.grades.get k).inReserve = true → n = 0 :=
      fun hn hk => Nat.le_zero.mp (View.offered_inReserve hk pools ▸ hn)
    exact ⟨hsum, hvg.trans (v.offered_le pools .vg), htg.trans (v.offered_le pools .tg),
      hog.trans (v.offered_le pools .og), hnone hvg, hnone htg, hnone hog,
      fun htaken hfree => (hbeforeTg htaken).trans (View.offered_free (g := .vg) hfree pools),
      fun htaken => ⟨fun hfree => (hbeforeOg htaken).1.trans (View.offered_free (g := .vg) hfree pools),
        fun hfree => (hbeforeOg htaken).2.trans (View.offered_free (g := .tg) hfree pools)⟩⟩
  · have hcovered : ∀ r : RecordView, v.windowed g r.tag = true ↔
        ∃ w ∈ v.windows, w.valid = true ∧ w.grade = g ∧ r.tag &&& w.mask = w.value &&& w.mask :=
      fun r => v.windowed_iff g r.tag
    simp only [← hcovered, Bool.not_eq_true]
    refine ⟨fun r _ honly hbound hreserve huncovered => ?_, fun r hr hcand hbound hopen => ?_,
      fun hreserve huncovered => ?_⟩
    · have hout := View.not_enters honly hbound hreserve huncovered
      obtain ⟨hshares, hshed⟩ := v.result_within
      exact ⟨grantIn_absent fun x hx heq => hout (heq ▸ hshares x hx), fun m hm heq => hout (heq ▸ hshed m hm)⟩
    · exact View.mem_gradeCands.mpr ⟨r, hr, hcand, rfl, hbound, hopen, rfl⟩
    · have hnobody : ∀ c, v.gradeCands c g = [] := fun c => List.eq_nil_iff_forall_not_mem.mpr fun x hx => by
        obtain ⟨r, hr, -, -, -, hopen, -⟩ := View.mem_gradeCands.mp hx
        simp [hreserve, huncovered r hr] at hopen
      have hpool := View.gasStages_pool hreserve hnobody
      have hresults : v.result.grades.get g = v.gradeResults v.gasStages.pools g := PerGrade.get_ofFn _ g
      rw [hresults, View.gradeResults, hpool]
      exact ⟨Nat.sub_self _, rfl⟩

end Sys2Proof.Machine
end

section
/-! ## What the requests and the meters leave as it is

The frame of each operation that writes no record, and the requests that touch none of the records, the pass in flight,
the plant record and the channels. -/

namespace Sys2Proof.Machine

open Sys2Proof

theorem State.bindCount_frame (s : State) (n : Option Nat) :
    s.bindCount n = { s with accounts := (s.bindCount n).accounts } := by
  unfold State.bindCount State.modAccount
  repeat' split
  all_goals rfl

theorem State.takeSample_frame (s : State) (d : SampleData) :
    s.takeSample d = { s with channels := (s.takeSample d).channels, notices := (s.takeSample d).notices } := by
  unfold State.takeSample
  dsimp only
  repeat' split
  all_goals rfl

theorem State.ageExpiry_frame (s : State) (c : Nat) :
    s.ageExpiry c = { s with channels := (s.ageExpiry c).channels, notices := (s.ageExpiry c).notices } := by
  unfold State.ageExpiry
  dsimp only
  repeat' split
  all_goals rfl

theorem State.staleExpiry_frame (s : State) (c : Nat) :
    s.staleExpiry c = { s with channels := (s.staleExpiry c).channels, notices := (s.staleExpiry c).notices } := by
  unfold State.staleExpiry
  repeat' split
  all_goals rfl

/-- What the laws of the result table and of the figures read of the part. -/
def State.figureView (s : State) : Vector (Option Offtake) 24 × Option Pass × Plant × Vector Channel 48 :=
  (s.slots, s.pass, s.plant, s.channels)

@[simp] theorem State.figureView_setPort (s : State) (p : PortId) (q : Port) :
    (s.setPort p q).figureView = s.figureView := by cases p <;> rfl

@[simp] theorem State.figureView_raise (s : State) (k : NoticeKind) (n : Nat) :
    (s.raise k n).figureView = s.figureView := rfl

@[simp] theorem State.figureView_pop (s : State) : s.pop.figureView = s.figureView :=
  (congrArg State.figureView s.pop_frame :)

@[simp] theorem State.figureView_modAccount (s : State) (n : Nat) (f : Account → Account) :
    (s.modAccount n f).figureView = s.figureView := by
  unfold State.modAccount
  split <;> rfl

@[simp] theorem State.figureView_repriceBand (s : State) (n : Nat) (b : Band) :
    (s.repriceBand n b).figureView = s.figureView := by
  unfold State.repriceBand
  dsimp only
  repeat' split
  all_goals simp

/-- A request that can write a record, the plant record or a channel. -/
def writesFigures : Request → Bool
  | .setCommitment _ => true
  | .setExportAccount _ => true
  | .setChannel _ => true
  | r => writesRecords r

theorem replyOf_figureView (p : PortId) {r : Request} (h : writesFigures r = false) (s : State) :
    (replyOf p r s).state.figureView = s.figureView := by
  cases r <;> simp only [writesFigures, writesRecords, reduceCtorEq] at h <;> dsimp only [replyOf]
  case findOfftake t => unfold reqFindOfftake; split <;> rfl
  case readOfftake i => unfold reqReadOfftake; split <;> rfl
  case readChannel c => unfold reqReadChannel; split <;> rfl
  case setGrade b => unfold reqSetGrade; repeat' split
                     all_goals rfl
  case readGrade g => unfold reqReadGrade; split <;> rfl
  case setWindow b => unfold reqSetWindow; dsimp only; repeat' split
                      all_goals rfl
  case clearWindow w => unfold reqClearWindow; repeat' split
                        all_goals rfl
  case readWindow w => unfold reqReadWindow; split <;> rfl
  case readPlant => rfl
  case readBalance => rfl
  case popCurtail => unfold reqPopCurtail; repeat' split
                     all_goals simp
  case readCurtail => rfl
  case openAccount n k key => unfold reqOpenAccount; repeat' split
                              all_goals rfl
  case amendAccount n key => unfold reqAmendAccount; repeat' split
                             all_goals simp
  case readAccount n => unfold reqReadAccount; split <;> rfl
  case retireAccount n => unfold reqRetireAccount State.closeEntry; repeat' split
                          all_goals rfl
  case closePeriod n => unfold reqClosePeriod; repeat' split
                        all_goals simp
  case takeStatement n => unfold reqTakeStatement; repeat' split
                          all_goals simp
  case reprice n => unfold reqReprice; dsimp only; repeat' split
                    all_goals simp [State.refuse, State.accept]
  case writeTariff b => unfold reqWriteTariff; repeat' split
                        all_goals rfl
  case invalidateTariff i => unfold reqInvalidateTariff; repeat' split
                             all_goals rfl
  case readTariff i => unfold reqReadTariff; split <;> rfl
  case probeTariff m key => unfold reqProbeTariff; repeat' split
                            all_goals rfl
  case setSeason n => unfold reqSetSeason; repeat' split
                      all_goals rfl
  case setBand b => unfold reqSetBand; repeat' split
                    all_goals rfl
  case readNotices => unfold reqReadNotices; dsimp only; split <;> rfl
  case clearNotice c => unfold reqClearNotice; repeat' split
                        all_goals rfl
  case setRouting port add drop => unfold reqSetRouting; repeat' split
                                   all_goals rfl
  case setNoticeMode m => unfold reqSetNoticeMode; repeat' split
                          all_goals rfl

/-- SET_EXPORT_ACCOUNT writes one field of the plant record, and the accounts (R170). -/
theorem State.setExport_frame (s : State) (n : Option Nat) :
    s.setExport n = { s with
      plant := { s.plant with exportAccount := (s.setExport n).plant.exportAccount }
      accounts := (s.setExport n).accounts } := by
  unfold State.setExport
  split
  · rfl
  · rw [State.bindCount_frame, State.unbindCount_frame]

end Sys2Proof.Machine
end

section
/-! ## The entries of a pass in flight (R109, R118)

No operation brings a void entry back, and none takes an ACTIVE record out of supply without marking its entry void:
`State.KeepsEntries` says both of every operation but PASS_BEGIN, which makes a table of the ACTIVE records. -/

namespace Sys2Proof.Machine

open Sys2Proof

/-- The slot has an entry that is not void in the pass in flight. -/
def State.entered (s : State) (i : Nat) : Prop := ∃ p, s.pass = some p ∧ ∃ e ∈ p.table, e.slot = i ∧ e.void = false

theorem State.tableOk_iff {s : State} : s.tableOk ↔ ∀ i, s.entered i → s.isActive i = true := by
  simp only [State.isActive_iff]
  constructor
  · rintro h i ⟨p, hp, e, he, rfl, hlive⟩
    exact h p hp e he hlive
  · exact fun h p hp e he hlive => h e.slot ⟨p, hp, e, he, rfl, hlive⟩

theorem State.entered_congr {s t : State} (h : t.pass = s.pass) (i : Nat) : t.entered i ↔ s.entered i := by
  rw [State.entered, h, State.entered]

theorem State.not_entered {s : State} (h : s.pass = none) (i : Nat) : ¬ s.entered i := by
  rintro ⟨p, hp, _⟩
  rw [h] at hp
  cases hp

/-- The entries of the one slot become void (R109). -/
theorem State.entered_voidEntry {s : State} {i j : Nat} : (s.voidEntry i).entered j ↔ j ≠ i ∧ s.entered j := by
  constructor
  · rintro ⟨p, hp, e, he, rfl, hlive⟩
    refine ⟨fun hslot => absurd (State.void_of_voidEntry hp e he hslot) (by simp [hlive]), ?_⟩
    obtain ⟨p', hp', rfl⟩ := Option.map_eq_some_iff.mp hp
    obtain ⟨e', he', rfl⟩ := List.mem_map.mp he
    by_cases hslot : e'.slot = i
    · simp [hslot] at hlive
    · rw [if_neg hslot] at hlive ⊢
      exact ⟨p', hp', e', he', rfl, hlive⟩
  · rintro ⟨hj, p, hp, e, he, rfl, hlive⟩
    refine ⟨_, Option.map_eq_some_iff.mpr ⟨p, hp, rfl⟩, e, List.mem_map.mpr ⟨e, he, if_neg hj⟩, rfl, hlive⟩

theorem State.isActive_congr {s t : State} {i : Nat} (h : t.offtake i = s.offtake i) : t.isActive i = s.isActive i := by
  rw [State.isActive, h, State.isActive]

/-- Each slot entered in `t` was entered in `s`, and its record has not left ACTIVE. -/
structure State.KeepsEntries (s t : State) : Prop where
  kept : ∀ i, t.entered i → s.entered i ∧ (s.isActive i = true → t.isActive i = true)

namespace State.KeepsEntries

variable {s t u : State}

theorem refl (s : State) : s.KeepsEntries s := ⟨fun _ h => ⟨h, id⟩⟩

theorem trans (h : s.KeepsEntries t) (h' : t.KeepsEntries u) : s.KeepsEntries u :=
  ⟨fun i hi =>
    have ⟨ht, htu⟩ := h'.kept i hi
    have ⟨hs, hst⟩ := h.kept i ht
    ⟨hs, htu ∘ hst⟩⟩

/-- The law of the entries follows them. -/
theorem tableOk (h : s.KeepsEntries t) (hs : s.tableOk) : t.tableOk :=
  State.tableOk_iff.mpr fun i hi =>
    have ⟨hentered, hactive⟩ := h.kept i hi
    hactive (State.tableOk_iff.mp hs i hentered)

theorem of_noPass (h : t.pass = none) : s.KeepsEntries t := ⟨fun i hi => absurd hi (State.not_entered h i)⟩

/-! ### Writes of a slot -/

theorem same (h : s.KeepsEntries t) (hslots : u.slots = t.slots) (hpass : u.pass = t.pass) : s.KeepsEntries u :=
  h.trans ⟨fun i hi => ⟨(State.entered_congr hpass i).mp hi,
    fun ha => (State.isActive_congr (State.offtake_of_slots hslots i)).trans ha⟩⟩

theorem view (h : s.KeepsEntries t) (hview : u.figureView = t.figureView) : s.KeepsEntries u := by
  simp only [State.figureView, Prod.mk.injEq] at hview
  obtain ⟨hslots, hpass, -⟩ := hview
  exact h.same hslots hpass

/-- The record of one slot is rewritten, and stays ACTIVE if it was. -/
theorem record (h : s.KeepsEntries t) (i : Nat) (hothers : ∀ j, j ≠ i → u.offtake j = t.offtake j)
    (hself : t.isActive i = true → u.isActive i = true) (hpass : u.pass = t.pass) : s.KeepsEntries u := by
  refine h.trans ⟨fun j hj => ⟨(State.entered_congr hpass j).mp hj, fun ha => ?_⟩⟩
  by_cases hji : j = i
  · exact hji ▸ hself (hji ▸ ha)
  · rwa [State.isActive_congr (hothers j hji)]

/-- The record of one slot is rewritten, and the slot's entry is void. -/
theorem voids (h : s.KeepsEntries t) (i : Nat) (hothers : ∀ j, j ≠ i → u.offtake j = t.offtake j)
    (hpass : u.pass = (t.voidEntry i).pass) : s.KeepsEntries u := by
  refine h.trans ⟨fun j hj => ?_⟩
  obtain ⟨hji, hentered⟩ := State.entered_voidEntry.mp ((State.entered_congr hpass j).mp hj)
  exact ⟨hentered, fun ha => (State.isActive_congr (hothers j hji)).trans ha⟩

theorem putOfftake (h : s.KeepsEntries t) {i : Nat} {o : Offtake} (ho : t.offtake i = some o) (o' : Offtake)
    (hkeeps : o.supply = .active → o'.supply = .active := by exact id) : s.KeepsEntries (t.putOfftake i (some o')) := by
  refine h.record i (fun j hj => State.offtake_putOfftake_ne t _ hj) (fun ha => ?_) rfl
  obtain ⟨x, hx, hactive⟩ := State.isActive_iff.mp ha
  obtain rfl := Option.some.inj (ho.symm.trans hx)
  exact State.isActive_iff.mpr ⟨o', State.offtake_putOfftake_self ho o', hkeeps hactive⟩

theorem modOfftake (h : s.KeepsEntries t) (i : Nat) (f : Offtake → Offtake)
    (hf : ∀ o, o.supply = .active → (f o).supply = .active := by exact fun _ ha => ha) :
    s.KeepsEntries (t.modOfftake i f) := by
  cases ho : t.offtake i with
  | none => rwa [State.modOfftake_none ho]
  | some o =>
    rw [State.modOfftake_eq ho]
    exact h.putOfftake ho _ (hf o)

/-- Every record is rewritten by `f`, which keeps ACTIVE ones so. -/
theorem mapSlots (h : s.KeepsEntries t) (f : Offtake → Offtake) (hslots : u.slots = t.slots.map (Option.map f))
    (hpass : u.pass = t.pass) (hf : ∀ o, o.supply = .active → (f o).supply = .active := by exact fun _ ha => ha) :
    s.KeepsEntries u := by
  refine h.trans ⟨fun i hi => ⟨(State.entered_congr hpass i).mp hi, fun ha => ?_⟩⟩
  obtain ⟨o, ho, hactive⟩ := State.isActive_iff.mp ha
  exact State.isActive_iff.mpr ⟨f o, by rw [State.offtake_of_map hslots, ho]; rfl, hf o hactive⟩

theorem withdraw (h : s.KeepsEntries t) (i : Nat) (st : Supply) : s.KeepsEntries (t.withdraw i st) :=
  h.voids i (fun j hj => by rw [State.offtake_withdraw, if_neg hj.symm]) (t.withdraw_pass i st)

theorem free (h : s.KeepsEntries t) (i : Nat) : s.KeepsEntries (t.free i) := by
  cases ho : t.offtake i with
  | none => rwa [State.free, ho]
  | some o => exact h.voids i (fun j hj => by rw [State.offtake_free, if_neg hj.symm]) (State.free_pass ho)

theorem foldl {α : Type} {f : State → α → State} (hf : ∀ t a, s.KeepsEntries t → s.KeepsEntries (f t a)) (l : List α)
    (h : s.KeepsEntries t) : s.KeepsEntries (l.foldl f t) := List.foldlRecOn l f h fun t ht a _ => hf t a ht

/-! ### The shared operations -/

theorem leaveLinked (h : s.KeepsEntries t) (i : Nat) : s.KeepsEntries (t.leaveLinked i) := by
  unfold State.leaveLinked
  split
  · next o _ =>
    have hwithdrawn : s.KeepsEntries (if o.supply = .active then t.withdraw i .held else t) := by
      split
      · exact h.withdraw i .held
      · exact h
    have hunqueued := (hwithdrawn.modOfftake i fun o =>
      { o with ackGrant := 0, legacy := if o.link = .legacyBound then false else o.legacy }).same
      (u := State.abandon (State.dropEntry _ i) i) (by rw [State.abandon_slots, State.dropEntry_slots])
      (by rw [State.abandon_pass, State.dropEntry_pass])
    dsimp only
    split
    · exact hunqueued.free i
    · exact hunqueued
  · exact h

/-- Entering QUIET leaves the supply state as R29 left it (R30). -/
theorem enterQuiet (h : s.KeepsEntries t) (i : Nat) : s.KeepsEntries (t.enterQuiet i) := by
  unfold State.enterQuiet State.unlink
  refine modOfftake ?_ i Offtake.quieted
  repeat' split
  · exact h.leaveLinked i
  · exact h
  · exact h

theorem linkLoss (h : s.KeepsEntries t) (i : Nat) : s.KeepsEntries (t.linkLoss i) := (h.enterQuiet i).same rfl rfl

/-- A record that joins supply is HELD before (R41). -/
theorem joinSupply (h : s.KeepsEntries t) (i : Nat) : s.KeepsEntries (t.joinSupply i) := by
  unfold State.joinSupply
  split
  · next o ho =>
    split
    · next hheld =>
      split
      · exact h.modOfftake i _ fun _ _ => rfl
      · rw [State.modOfftake_eq ho]
        exact (h.putOfftake ho { o with supply := .shed } fun ha => absurd (hheld.symm.trans ha) (by decide)).same
          (by simp) (by simp)
    · exact h
  · exact h

theorem cutRecord (h : s.KeepsEntries t) (i : Nat) : s.KeepsEntries (t.cutRecord i) :=
  h.voids i (fun j hj => by rw [State.offtake_cutRecord, if_neg hj.symm]) (t.cutRecord_pass i)

/-- The idle release is of a record that is not ACTIVE (R59). -/
theorem releaseIdle (h : s.KeepsEntries t) {i : Nat} {o : Offtake} (ho : t.offtake i = some o)
    (hout : o.supply ≠ .active) : s.KeepsEntries (t.releaseIdle i) := by
  cases hr : o.retiring with
  | true =>
    rw [State.releaseIdle_retiring ho hr]
    exact h.free i
  | false =>
    rw [State.releaseIdle_live ho hr]
    exact ((h.putOfftake ho (o.charged t.plant.lockoutLimit) fun ha => absurd ha hout).same
      (u := t.chargedAt i o) rfl rfl).enterQuiet i

theorem shedEach (is : List Nat) : ∀ {t : State}, s.KeepsEntries t → s.KeepsEntries (t.shedEach is).1 := by
  induction is with
  | nil => exact id
  | cons i is ih =>
    intro t h
    unfold State.shedEach
    split
    · exact ih (h.withdraw i .shed)
    · exact ih h

theorem push (h : s.KeepsEntries t) (level : Nat) (origin : Origin) (cause : Cause) (lead : List Nat) :
    s.KeepsEntries (t.push level origin cause lead) := by
  rw [State.push_eq]
  exact same (t := t.shedAt level lead) (shedEach _ (shedEach lead h)) rfl rfl

theorem pop (h : s.KeepsEntries t) : s.KeepsEntries t.pop := h.same (by rw [State.pop_frame]) (by rw [State.pop_frame])

theorem recover (h : s.KeepsEntries t) : s.KeepsEntries t.recover :=
  h.same (by rw [State.recover_frame]) (by rw [State.recover_frame])

end State.KeepsEntries

end Sys2Proof.Machine
end

section
/-! ### The events and the requests keep the entries -/

namespace Sys2Proof.Machine

open Sys2Proof

namespace State.KeepsEntries

variable {s t : State}

theorem quietExpiry (h : s.KeepsEntries t) (i : Nat) : s.KeepsEntries (t.quietExpiry i) := by
  unfold State.quietExpiry
  repeat' split
  · exact h
  · exact h.modOfftake i _
  · exact h

theorem silenceExpiry (h : s.KeepsEntries t) (i : Nat) : s.KeepsEntries (t.silenceExpiry i) := by
  unfold State.silenceExpiry
  repeat' split
  · exact h
  · exact h
  · exact h.modOfftake i _
  all_goals exact h.linkLoss i

theorem beginPoll (h : s.KeepsEntries t) : s.KeepsEntries t.beginPoll := by
  unfold State.beginPoll
  repeat' split
  all_goals exact h.same rfl rfl

theorem pollTimedOut (h : s.KeepsEntries t) : s.KeepsEntries t.pollTimedOut := by
  unfold State.pollTimedOut
  split <;> exact h.same rfl rfl

theorem beginSetpoint (h : s.KeepsEntries t) : s.KeepsEntries t.beginSetpoint := by
  unfold State.beginSetpoint
  repeat' split
  all_goals exact h.same rfl rfl

theorem failAttempt (h : s.KeepsEntries t) : s.KeepsEntries t.failAttempt := by
  unfold State.failAttempt
  split
  · next i _ _ _ =>
    dsimp only
    split
    · exact (h.same (u := t.setpointEnded) rfl rfl).linkLoss i
    · exact h.same rfl rfl
  all_goals exact h.same rfl rfl

theorem acknowledge (h : s.KeepsEntries t) (i v : Nat) : s.KeepsEntries (t.acknowledge i v) := by
  have hended : s.KeepsEntries t.setpointEnded := h.same rfl rfl
  have hnoted := (hended.modOfftake i fun o => { o with ackGrant := v }).same (u := State.dropEntry _ i) rfl rfl
  unfold State.acknowledge
  split
  · exact hended
  · dsimp only
    split
    · exact hnoted.free i
    · exact hnoted.same (by simp) (by simp)

theorem takeAck (h : s.KeepsEntries t) (m : LinkMsg) : s.KeepsEntries (t.takeAck m) := by
  unfold State.takeAck
  repeat' split
  · exact h.acknowledge _ _
  · exact h.failAttempt
  all_goals exact h.same rfl rfl

theorem takeReply {α : Type} (h : s.KeepsEntries t) (addr : Byte) (data : Option α) (f : State → Nat → α → State)
    (hf : ∀ t i d, s.KeepsEntries t → s.KeepsEntries (f t i d)) : s.KeepsEntries (t.takeReply addr data f) := by
  unfold State.takeReply
  split
  · have hended : s.KeepsEntries t.pollEnded := h.same rfl rfl
    split
    · exact hf _ _ _ hended
    · exact hended
    · exact hended
  · exact h.failAttempt
  · exact h

theorem listenAdvert (h : s.KeepsEntries t) (i : Nat) (a : AdvertData) : s.KeepsEntries (t.listenAdvert i a) := by
  cases ho : t.offtake i with
  | none => rwa [State.listenAdvert_none ho]
  | some o =>
    cases hm : resolveMode o a with
    | some m =>
      rw [State.listenAdvert_resolved ho hm]
      exact h.putOfftake ho _
    | none =>
      rw [State.listenAdvert_unresolved ho hm]
      split
      · exact h.putOfftake ho _
      · exact (h.putOfftake ho (o.unresolved a)).same rfl rfl

theorem confirmAdvert (h : s.KeepsEntries t) {i : Nat} {o : Offtake} (ho : t.offtake i = some o) (a : AdvertData) :
    s.KeepsEntries (t.confirmAdvert i o a) := by
  unfold State.confirmAdvert
  repeat' split
  · exact (h.putOfftake ho _).joinSupply i
  · exact h.putOfftake ho _
  · exact h.putOfftake ho _
  · exact (h.putOfftake ho _).listenAdvert i a

theorem takeAdvert (t : State) (i : Nat) (a : AdvertData) (h : s.KeepsEntries t) :
    s.KeepsEntries (t.takeAdvert i a) := by
  have hbound : s.KeepsEntries (t.boundAdvert i (storedAdvert a)) :=
    ((h.leaveLinked i).modOfftake i _).listenAdvert i _
  unfold State.takeAdvert
  split
  · exact h
  · next o ho =>
    split
    · exact h.listenAdvert i _
    · exact h.confirmAdvert ho _
    · exact hbound
    · exact hbound
    · exact h

theorem takeStatus (t : State) (i : Nat) (c : CallData) (h : s.KeepsEntries t) : s.KeepsEntries (t.takeStatus i c) := by
  unfold State.takeStatus
  split
  · exact h.modOfftake i (Offtake.called c)
  · exact h

theorem listenLegacy (h : s.KeepsEntries t) {i : Nat} {o : Offtake} (ho : t.offtake i = some o) (c : CallData) :
    s.KeepsEntries (t.listenLegacy i o c) := by
  unfold State.listenLegacy
  dsimp only
  repeat' split
  · exact h.putOfftake ho _
  · exact (h.putOfftake ho _).joinSupply i
  · exact h.putOfftake ho _
  · exact (h.putOfftake ho { o with absent := false, silenceMs := 0, legacyRun := 0, noMode := true }).same rfl rfl

theorem takeLegacy (t : State) (i : Nat) (c : CallData) (h : s.KeepsEntries t) : s.KeepsEntries (t.takeLegacy i c) := by
  unfold State.takeLegacy
  split
  · exact h
  · next o ho =>
    split
    · exact h.listenLegacy ho c
    · exact h.modOfftake i (Offtake.called c)
    all_goals exact h

/-! ### The draw monitor -/

theorem superviseDraw (h : s.KeepsEntries t) (i : Nat) (o : Offtake) : s.KeepsEntries (t.superviseDraw i o) := by
  unfold State.superviseDraw
  dsimp only
  repeat' split
  · exact h.modOfftake i _
  · exact h.modOfftake i _
  · exact (h.modOfftake i _).cutRecord i
  · exact h.modOfftake i _

theorem superviseIdle (h : s.KeepsEntries t) {i : Nat} {o : Offtake} (ho : t.offtake i = some o)
    (hcut : o.supply = .cut) : s.KeepsEntries (t.superviseIdle i o) := by
  have hcleared := h.modOfftake i fun o => { o with overdrawTimer := 0 }
  unfold State.superviseIdle
  dsimp only
  repeat' split
  · exact hcleared
  · exact hcleared
  · exact hcleared.modOfftake i _
  · refine (hcleared.modOfftake i _).releaseIdle
      (o := { o with overdrawTimer := 0, idleTimer := o.idleTimer + 1 }) ?_ (by simp [hcut])
    simp [State.offtake_modOfftake, ho]
  · exact hcleared.modOfftake i _

theorem supervise (t : State) (i : Nat) (h : s.KeepsEntries t) : s.KeepsEntries (t.supervise i) := by
  unfold State.supervise
  split
  · exact h
  · next o ho =>
    split
    · exact h.superviseDraw i o
    · exact h.superviseDraw i o
    · next hcut => exact h.superviseIdle ho hcut
    · exact h.modOfftake i _
    · exact h.modOfftake i _

theorem meteringTick (h : s.KeepsEntries t) : s.KeepsEntries t.meteringTick := by
  have hmetered : s.KeepsEntries t.metered :=
    (h.mapSlots (u := t.measure) t.measured rfl rfl).same (by rw [State.metered_frame])
      (by rw [State.metered_frame]; rfl)
  have hsupervised := foldl supervise slotNumbers hmetered
  rw [State.meteringTick_eq]
  generalize slotNumbers.foldl State.supervise _ = u at hsupervised ⊢
  exact hsupervised.same rfl rfl

theorem cutSlot (h : s.KeepsEntries t) (i : Nat) : s.KeepsEntries (t.cutSlot i) := by
  unfold State.cutSlot
  repeat' split
  · exact h.cutRecord i
  · exact h
  · exact h

theorem idleSlot (h : s.KeepsEntries t) (i : Nat) : s.KeepsEntries (t.idleSlot i) := by
  unfold State.idleSlot
  split
  · next o ho =>
    split
    · next hcut => exact h.releaseIdle ho (by simp [hcut])
    · exact h
  · exact h

/-- A completion ends its pass (R118). -/
theorem completePass (s : State) : s.KeepsEntries s.completePass := by
  refine of_noPass ?_
  cases hp : s.pass with
  | none => rw [State.completePass_none hp, hp]
  | some p => rw [State.completePass_some hp]

/-- Every event but the beginning of a pass. -/
theorem event {c : Instr} {f : State → State} (hf : eventOf c = some f) (hbegin : c ≠ .passBegin) (s : State) :
    s.KeepsEntries (f s) := by
  have h := refl s
  cases c <;> simp only [eventOf, Option.some.injEq, reduceCtorEq] at hf <;> subst hf
  case writeFrame p x => exact h.same (by simp) (by simp)
  case readAnswer p x => exact h.same (by simp) (by simp)
  case sampleMessage bytes =>
    dsimp only
    split
    · exact h.same (by simp) (by rw [State.takeSample_frame])
    · exact h
  case ageExpiry c => exact h.same (by simp) (congrArg State.pass (s.ageExpiry_frame c) :)
  case staleTimerExpiry c => exact h.same (by simp) (congrArg State.pass (s.staleExpiry_frame c) :)
  case quietHoldExpiry i => exact h.quietExpiry i
  case silenceExpiry i => exact h.silenceExpiry i
  case poll => exact h.beginPoll
  case pollTimeout => exact h.pollTimedOut
  case advert m => exact h.takeReply _ _ _ takeAdvert
  case status m => exact h.takeReply _ _ _ takeStatus
  case legacy m => exact h.takeReply _ _ _ takeLegacy
  case setpoint => exact h.beginSetpoint
  case setpointAck m => exact h.takeAck m
  case failedAttempt => exact h.failAttempt
  case meteringTick => exact h.meteringTick
  case cut i => exact h.cutSlot i
  case idleRelease i => exact h.idleSlot i
  case passBegin => exact absurd rfl hbegin
  case passCompletion => exact completePass s
  case recoveryHoldExpiry => exact h.recover

/-! ### Requests -/

/-- A new record stands where none stood (R13). -/
theorem reqCreateOfftake (h : s.KeepsEntries t) (p : PortId) (b : CreateBody) :
    s.KeepsEntries (reqCreateOfftake p b t).state := by
  unfold Machine.reqCreateOfftake
  repeat' split
  iterate 7 · exact h
  next i hi =>
    have hvacant : t.offtake i = none := by simpa using List.find?_some hi
    exact h.record i (fun j hj => State.offtake_putOfftake_ne t _ hj)
      (fun ha => absurd ha (by simp [State.isActive, hvacant])) rfl

theorem reqAmendOfftake (h : s.KeepsEntries t) (p : PortId) (b : AmendBody) :
    s.KeepsEntries (reqAmendOfftake p b t).state := by
  unfold Machine.reqAmendOfftake
  split
  · exact h
  · next o hfind =>
    have hput : s.KeepsEntries (t.putOfftake b.slot (some (o.rebound (amended b o)))) := by
      refine h.putOfftake (State.findRecord_ok hfind).1 _ fun ha => ?_
      rw [Offtake.rebound_eq]
      exact ha
    dsimp only
    repeat' split
    iterate 5 · exact h
    · exact hput.enterQuiet b.slot
    · exact hput

theorem reqRetireOfftake (h : s.KeepsEntries t) (p : PortId) (i : Nat) (tag : Tag) :
    s.KeepsEntries (reqRetireOfftake p i tag t).state := by
  have hretired : ∀ o, s.KeepsEntries (t.retire i o) := fun o =>
    ((h.modOfftake i fun o => { o with retiring := true }).withdraw i o.supply.atRetirement).same rfl rfl
  unfold Machine.reqRetireOfftake
  repeat' split
  iterate 3 · exact h
  · exact hretired _
  · exact (hretired _).free i

theorem reqRenegotiate (h : s.KeepsEntries t) (p : PortId) (i : Nat) (tag : Tag) :
    s.KeepsEntries (reqRenegotiate p i tag t).state := by
  unfold Machine.reqRenegotiate
  repeat' split
  iterate 3 · exact h
  exact h.enterQuiet i

theorem reqRelease (h : s.KeepsEntries t) (p : PortId) (i : Nat) (tag : Tag) :
    s.KeepsEntries (reqRelease p i tag t).state := by
  unfold Machine.reqRelease
  repeat' split
  iterate 4 · exact h
  next o hfind _ hlocked =>
    have ho := (State.findRecord_ok hfind).1
    have hlockout : o.supply = .lockout := by simpa using hlocked
    rw [State.modOfftake_eq ho]
    exact (h.putOfftake ho { o with overdrawCount := 0, supply := .held }
      fun ha => absurd (hlockout.symm.trans ha) (by decide)).enterQuiet i

theorem reqSetPlant (h : s.KeepsEntries t) (p : PortId) (b : PlantBody) : s.KeepsEntries (reqSetPlant p b t).state := by
  have hlimited : ∀ limit (o : Offtake), o.supply = .active → (o.limitedTo limit).supply = .active := by
    intro limit o ha
    unfold Offtake.limitedTo
    split <;> exact ha
  unfold Machine.reqSetPlant
  dsimp only
  repeat' split
  iterate 4 · exact h
  · exact h.mapSlots _ rfl rfl (hlimited _)
  · exact h.same rfl rfl

theorem reqPushCurtail (h : s.KeepsEntries t) (p : PortId) (level : Nat) :
    s.KeepsEntries (reqPushCurtail p level t).state := by
  unfold Machine.reqPushCurtail
  repeat' split
  iterate 3 · exact h
  exact h.push _ _ _ _

theorem reqBindAccount (h : s.KeepsEntries t) (p : PortId) (i : Nat) (tag : Tag) (n : Nat) :
    s.KeepsEntries (reqBindAccount p i tag n t).state := by
  unfold Machine.reqBindAccount
  repeat' split
  iterate 6 · exact h
  exact (h.modOfftake i fun o => { o with account := some n }).same (by simp)
    (by rw [State.accept_state, State.bindCount_frame, State.unbindCount_frame])

theorem reqUnbindAccount (h : s.KeepsEntries t) (p : PortId) (i : Nat) (tag : Tag) :
    s.KeepsEntries (reqUnbindAccount p i tag t).state := by
  unfold Machine.reqUnbindAccount
  repeat' split
  iterate 3 · exact h
  exact (h.modOfftake i fun o => { o with account := none }).same (by simp)
    (by rw [State.accept_state, State.unbindCount_frame])

/-- RESTART ends the pass in flight (R122). -/
theorem reqRestart (h : s.KeepsEntries t) (p : PortId) : s.KeepsEntries (reqRestart p t).state := by
  unfold Machine.reqRestart
  split
  · exact h
  · exact of_noPass (by rw [State.accept_state, State.restarted_frame])

/-- Every request keeps the entries. -/
theorem request (p : PortId) (r : Request) (s : State) : s.KeepsEntries (replyOf p r s).state := by
  have h := refl s
  cases hw : writesFigures r with
  | false => exact h.view (replyOf_figureView p hw s)
  | true =>
    cases r <;> simp only [writesFigures, writesRecords, Bool.false_eq_true] at hw <;> dsimp only [replyOf]
    case createOfftake b => exact h.reqCreateOfftake p b
    case amendOfftake b => exact h.reqAmendOfftake p b
    case retireOfftake i t => exact h.reqRetireOfftake p i t
    case renegotiate i t => exact h.reqRenegotiate p i t
    case release i t => exact h.reqRelease p i t
    case setPlant b => exact h.reqSetPlant p b
    case pushCurtail level => exact h.reqPushCurtail p level
    case bindAccount i t n => exact h.reqBindAccount p i t n
    case unbindAccount i t => exact h.reqUnbindAccount p i t
    case restart => exact h.reqRestart p
    case setChannel b =>
      unfold Machine.reqSetChannel
      repeat' split
      all_goals exact h.same rfl rfl
    case setCommitment v =>
      unfold Machine.reqSetCommitment
      split <;> exact h.same rfl rfl
    case setExportAccount n =>
      have hset : ∀ n, s.KeepsEntries (s.setExport n) := fun n => h.same (by simp) (by rw [State.setExport_frame])
      unfold Machine.reqSetExportAccount
      repeat' split
      · exact h
      · exact hset none
      · exact h
      · exact h
      · exact hset _

end State.KeepsEntries

/-- The table of a pass that begins holds the ACTIVE records, as readmission left them (R109). -/
theorem State.tableOk.beginPass {s : State} (h : s.tableOk) : s.beginPass.tableOk := by
  cases hpass : s.pass with
  | some p => rwa [State.beginPass, hpass]
  | none =>
    rw [State.beginPass_eq hpass]
    rintro p hp e he -
    cases hp
    obtain ⟨r, hr, rfl⟩ := List.mem_map.mp he
    obtain ⟨hrecord, hactive⟩ := List.mem_filter.mp hr
    obtain ⟨i, -, hview⟩ := List.mem_filterMap.mp hrecord
    obtain ⟨o, ho, rfl⟩ := Option.map_eq_some_iff.mp hview
    refine ⟨o, ?_, of_decide_eq_true hactive⟩
    rw [← ho]
    exact State.offtake_of_slots (s := s.readmit) (by rw [State.begun_frame]) i

/-- Every command keeps the law of the result table. -/
theorem exec_keeps_tableOk : ∀ (c : Instr) (s t : State), s.tableOk → exec c s = .next t → t.tableOk := by
  refine exec_keeps (P := State.tableOk) (fun s hs => hs) (fun s m n _ => ?_) (fun p r s q _ _ hs => ?_)
    (fun c f s hf _ hs => ?_)
  · exact State.tableOk_iff.mpr fun i hi => absurd hi (State.not_entered rfl i)
  · exact ((State.KeepsEntries.request p r s).same (by simp) (by simp)).tableOk hs
  · by_cases hbegin : c = .passBegin
    · subst hbegin
      cases hf
      exact hs.beginPass
    · exact (State.KeepsEntries.event hf hbegin s).tableOk hs

/-- Settles O54: no command brings an entry back or takes its record out of supply, and a table begins with the ACTIVE
records. -/
theorem passEntriesStayActive : Obligations.PassEntriesStayActive := by
  intro s t _ htable hstep
  refine step_keeps exec_keeps_tableOk (fun s hs => ?_) (fun _ _ hs => hs) s t htable hstep
  refine ((State.KeepsEntries.refl s).mapSlots (u := s.elapse) Offtake.elapse rfl rfl fun o ha => ?_).tableOk hs
  unfold Offtake.elapse
  split <;> exact ha

end Sys2Proof.Machine
end

section
/-! ## SET_PLANT and SET_COMMITMENT (R62, R101 to R103, R135) -/

namespace Sys2Proof.Machine

open Sys2Proof

theorem Policy.ofCode_code (pol : Policy) : Policy.ofCode pol.code = some pol := by cases pol <;> rfl

/-- What an accepted SET_PLANT leaves of a record: a lockout limit that is lowered acts on its count (R62). -/
def Offtake.relimited (old new : Nat) (o : Offtake) : Offtake := if new < old then o.limitedTo new else o

/-- The state an accepted SET_PLANT leaves (R102, R103). -/
def State.withPlant (s : State) (after : Plant) : State :=
  { s with
    plant := after
    slots := s.slots.map (Option.map (Offtake.relimited s.plant.lockoutLimit after.lockoutLimit)) }

theorem State.withPlant_eq (s : State) (after : Plant) :
    s.withPlant after = if after.lockoutLimit < s.plant.lockoutLimit
      then State.lowerCounts { s with plant := after } after.lockoutLimit else { s with plant := after } := by
  unfold State.withPlant
  split
  · next hlow =>
    rw [show Offtake.relimited s.plant.lockoutLimit after.lockoutLimit = Offtake.limitedTo after.lockoutLimit from
      funext fun o => if_pos hlow]
    rfl
  · next hlow =>
    rw [show Offtake.relimited s.plant.lockoutLimit after.lockoutLimit = id from funext fun o => if_neg hlow,
      Option.map_id, Vector.map_id]

/-- SET_PLANT writes the plant record, or answers and changes nothing. -/
theorem reqSetPlant_cases (p : PortId) (b : PlantBody) (s : State) :
    (reqSetPlant p b s).state = s ∨ ∃ pol, (reqSetPlant p b s).state = s.withPlant (configuredPlant b pol s.plant) := by
  unfold reqSetPlant
  split
  · exact .inl rfl
  · cases Policy.ofCode b.policy with
    | none => exact .inl rfl
    | some pol =>
      dsimp only
      split
      · exact .inl rfl
      · split
        · exact .inl rfl
        · exact .inr ⟨pol, (State.withPlant_eq s _).symm⟩

/-- A SET_PLANT that passes its checks is accepted (R102). -/
theorem reqSetPlant_checked {p : PortId} {b : PlantBody} {s : State} {pol : Policy}
    (hright : s.hasRight p .maintain = true) (hpol : b.policy = pol.code) (hloop : loopWhole b = true)
    (hchannels : plantChannelsOk s b = true) :
    reqSetPlant p b s = (s.withPlant (configuredPlant b pol s.plant)).accept := by
  simp [reqSetPlant, hright, hpol, Policy.ofCode_code, hloop, hchannels, State.withPlant_eq]

/-- The lowered limit acts on the count of a record that is not in LOCKOUT and has reached it (R62). -/
theorem Offtake.relimited_eq (old new : Nat) (o : Offtake) :
    o.relimited old new = { o with overdrawCount :=
      if new < old ∧ o.supply ≠ .lockout ∧ new ≤ o.overdrawCount then new - 1 else o.overdrawCount } := by
  unfold Offtake.relimited Offtake.limitedTo
  by_cases hlow : new < old
  · by_cases hreached : o.supply ≠ .lockout ∧ new ≤ o.overdrawCount
    · rw [if_pos hlow, if_pos hreached, if_pos ⟨hlow, hreached⟩]
    · rw [if_pos hlow, if_neg hreached, if_neg fun h => hreached h.2]
  · rw [if_neg hlow, if_neg fun h => hlow h.1]

theorem clampNat_zero (hi v : Nat) : clampNat 0 hi v = min v hi := Nat.zero_max _

/-- Negative figures are raised to 0 before or behind the saturation (R135). -/
theorem floorZero_eq (hi : Nat) (v : Int) : floorZero hi v = (max 0 (min v hi)).toNat := by
  rw [floorZero]
  omega

/-- Settles O24: the accepted replies are `withPlant` and the clamped commitment. -/
theorem plantRequestsComplete : Obligations.PlantRequestsComplete := by
  intro p s q
  refine ⟨fun b pol htakes hright hpol hloop hchannels => ?_, fun v htakes hright => ?_⟩
  · refine ⟨s.withPlant (configuredPlant b pol s.plant),
      exec_reply htakes (reqSetPlant_checked hright hpol hloop hchannels), rfl, ?_, fun i => ?_⟩
    · simp only [State.withPlant, configuredPlant, clampNat_zero]
      rfl
    · rw [State.offtake_of_map (s := s) rfl i]
      exact congrArg (Option.map · (s.offtake i)) (funext fun o => Offtake.relimited_eq _ _ o)
  · have hreply : reqSetCommitment p v s =
        State.accept { s with plant := { s.plant with commitment := floorZero 2000000 v } } := by
      simp [reqSetCommitment, hright]
    rw [floorZero_eq] at hreply
    exact exec_reply htakes hreply

end Sys2Proof.Machine
end

section
/-! ## The class pass (R110 to R112) -/

namespace Sys2Proof.Machine

open Sys2Proof

/-! ### The order of the visits (R111) -/

/-- What the candidates are ordered by: call per weight, then slot. -/
def Cand.rank (c : Cand) : Lex (ℚ × ℕ) := toLex ((c.call : ℚ) / c.weight, c.slot)

/-- R111 compares the ratios by cross-multiplication. -/
theorem Cand.ratio_lt_iff {c d : Cand} (hc : 1 ≤ c.weight) (hd : 1 ≤ d.weight) :
    (c.call : ℚ) / c.weight < d.call / d.weight ↔ c.call * d.weight < d.call * c.weight := by
  rw [div_lt_div_iff₀ (by exact_mod_cast hc) (by exact_mod_cast hd)]
  exact_mod_cast Iff.rfl

theorem Cand.ratio_eq_iff {c d : Cand} (hc : 1 ≤ c.weight) (hd : 1 ≤ d.weight) :
    (c.call : ℚ) / c.weight = d.call / d.weight ↔ c.call * d.weight = d.call * c.weight := by
  have hpos : ∀ n : ℕ, 1 ≤ n → (n : ℚ) ≠ 0 := fun n hn => by exact_mod_cast (Nat.one_le_iff_ne_zero.mp hn)
  rw [div_eq_div_iff (hpos _ hc) (hpos _ hd)]
  exact_mod_cast Iff.rfl

theorem Cand.rank_lt_iff {c d : Cand} (hc : 1 ≤ c.weight) (hd : 1 ≤ d.weight) :
    c.rank < d.rank ↔
      c.call * d.weight < d.call * c.weight ∨ (c.call * d.weight = d.call * c.weight ∧ c.slot < d.slot) := by
  rw [Cand.rank, Cand.rank, Prod.Lex.toLex_lt_toLex, Cand.ratio_lt_iff hc hd, Cand.ratio_eq_iff hc hd]

theorem Cand.before_iff {c d : Cand} (hc : 1 ≤ c.weight) (hd : 1 ≤ d.weight) : c.before d = true ↔ c.rank ≤ d.rank := by
  rw [Cand.rank, Cand.rank, Prod.Lex.toLex_le_toLex, Cand.ratio_lt_iff hc hd, Cand.ratio_eq_iff hc hd]
  simp [Cand.before]

theorem insertCand_sorted {c : Cand} (hc : 1 ≤ c.weight) {cs : List Cand} (hweights : ∀ d ∈ cs, 1 ≤ d.weight)
    (hsorted : cs.Pairwise (·.rank ≤ ·.rank)) : (insertCand c cs).Pairwise (·.rank ≤ ·.rank) := by
  induction cs with
  | nil => exact List.pairwise_singleton _ _
  | cons d ds ih =>
    obtain ⟨hd, hds⟩ := List.forall_mem_cons.mp hweights
    obtain ⟨hfirst, hrest⟩ := List.pairwise_cons.mp hsorted
    unfold insertCand
    split
    · next hbefore =>
      have hcd := (Cand.before_iff hc hd).mp hbefore
      exact List.pairwise_cons.mpr ⟨List.forall_mem_cons.mpr ⟨hcd, fun e he => hcd.trans (hfirst e he)⟩, hsorted⟩
    · next hbehind =>
      have hdc := (le_total c.rank d.rank).resolve_left fun h => hbehind ((Cand.before_iff hc hd).mpr h)
      refine List.pairwise_cons.mpr ⟨fun e he => ?_, ih hds hrest⟩
      exact (List.mem_cons.mp ((insertCand_perm c ds).mem_iff.mp he)).elim (fun hec => hec ▸ hdc) (hfirst e)

theorem orderCands_sorted {cs : List Cand} (hweights : ∀ c ∈ cs, 1 ≤ c.weight) :
    (orderCands cs).Pairwise (·.rank ≤ ·.rank) := by
  induction cs with
  | nil => exact List.Pairwise.nil
  | cons c cs ih =>
    obtain ⟨hc, hcs⟩ := List.forall_mem_cons.mp hweights
    exact insertCand_sorted hc (fun d hd => hcs d ((orderCands_perm cs).mem_iff.mp hd)) (ih hcs)

/-- Candidates of distinct slots have distinct ranks, so that the order of R111 is strict. -/
theorem orderCands_strict {cs : List Cand} (hweights : ∀ c ∈ cs, 1 ≤ c.weight) (hslots : (cs.map (·.slot)).Nodup) :
    (orderCands cs).Pairwise (·.rank < ·.rank) := by
  have hdistinct : (orderCands cs).Pairwise fun c d => c.slot ≠ d.slot :=
    List.pairwise_map.mp (List.Perm.nodup_iff (List.Perm.map Cand.slot (orderCands_perm cs)) |>.mpr hslots)
  refine ((orderCands_sorted hweights).and hdistinct).imp fun ⟨hle, hne⟩ => lt_of_le_of_ne hle fun heq => hne ?_
  exact congrArg (fun r => (ofLex r).2) heq

/-! ### The visits (R111, R112) -/

/-- What a candidate is given at its visit, of the pool and the weight that remain. -/
def shareAt (c : Cand) (pool weight : Nat) : Share :=
  if min c.call (pool * c.weight / weight) < c.min then ⟨c.slot, 0, true⟩
  else ⟨c.slot, min c.call (pool * c.weight / weight), false⟩

theorem shareOut_cons (pool weight : Nat) (c : Cand) (cs : List Cand) :
    shareOut pool weight (c :: cs) =
      (shareAt c pool weight :: (shareOut (pool - (shareAt c pool weight).grant) (weight - c.weight) cs).1,
        (shareOut (pool - (shareAt c pool weight).grant) (weight - c.weight) cs).2) := by
  rw [shareOut, shareAt]
  dsimp only
  split <;> rfl

theorem shareAt_slot (c : Cand) (pool weight : Nat) : (shareAt c pool weight).slot = c.slot := by
  unfold shareAt
  split <;> rfl

/-- A candidate whose fair share is below its minimum is shed, and no other is (R112). -/
theorem shareAt_grant (c : Cand) (pool weight : Nat) :
    ((shareAt c pool weight).shed = true → (shareAt c pool weight).grant = 0 ∧ 0 < c.min)
      ∧ ((shareAt c pool weight).shed = false →
        c.min ≤ (shareAt c pool weight).grant ∧ (shareAt c pool weight).grant ≤ c.call) := by
  unfold shareAt
  split
  · next hbelow => exact ⟨fun _ => ⟨rfl, Nat.zero_lt_of_lt hbelow⟩, nofun⟩
  · next hreached => exact ⟨nofun, fun _ => ⟨Nat.le_of_not_lt hreached, min_le_left _ _⟩⟩

/-- Each candidate is visited. -/
theorem mem_shareOut {c : Cand} {cs : List Cand} (hc : c ∈ cs) :
    ∀ pool weight, ∃ left rest, shareAt c left rest ∈ (shareOut pool weight cs).1 := by
  induction cs with
  | nil => cases hc
  | cons d ds ih =>
    intro pool weight
    rw [shareOut_cons]
    rcases List.mem_cons.mp hc with rfl | hmem
    · exact ⟨pool, weight, List.mem_cons_self⟩
    · obtain ⟨left, rest, hshare⟩ := ih hmem (pool - (shareAt d pool weight).grant) (weight - d.weight)
      exact ⟨left, rest, List.mem_cons_of_mem _ hshare⟩

/-- The visit behind `front` finds the pool without what `front` was granted, and the weight of the candidates from its
own on. -/
theorem shareOut_visit (c : Cand) (behind front : List Cand) : ∀ pool,
    (shareOut pool ((front ++ c :: behind).map (·.weight)).sum (front ++ c :: behind)).1[front.length]? =
      some (shareAt c
        (pool - (((shareOut pool ((front ++ c :: behind).map (·.weight)).sum (front ++ c :: behind)).1.take
          front.length).map (·.grant)).sum)
        (c.weight + (behind.map (·.weight)).sum)) := by
  induction front with
  | nil => intro pool; simp [shareOut_cons]
  | cons b bs ih =>
    intro pool
    have hweight : ((b :: bs ++ c :: behind).map (·.weight)).sum - b.weight =
        ((bs ++ c :: behind).map (·.weight)).sum := by simp
    rw [List.cons_append, shareOut_cons, ← List.cons_append, hweight, List.length_cons, List.getElem?_cons_succ, ih,
      List.take_succ_cons, List.map_cons, List.sum_cons, Nat.sub_sub]

/-! ### The pass -/

theorem classPass_short {pool : Nat} {cs : List Cand} (h : pool < (cs.map (·.call)).sum) :
    classPass pool cs = shareOut pool ((orderCands cs).map (·.weight)).sum (orderCands cs) := by
  rw [classPass, if_neg (Nat.not_le.mpr h), ((orderCands_perm cs).map (·.weight)).sum_eq]

theorem classPass_full {pool : Nat} {cs : List Cand} (h : (cs.map (·.call)).sum ≤ pool) :
    classPass pool cs = (cs.map fun c => ⟨c.slot, c.call, false⟩, pool - (cs.map (·.call)).sum) := if_pos h

/-- What a class pass grants and what it leaves are its pool. -/
theorem classPass_total (pool : Nat) (cs : List Cand) :
    ((classPass pool cs).1.map (·.grant)).sum + (classPass pool cs).2 = pool := by
  rcases le_or_gt (cs.map (·.call)).sum pool with hfull | hshort
  · rw [classPass_full hfull]
    simpa [Function.comp_def] using Nat.add_sub_cancel' hfull
  · rw [classPass_short hshort]
    exact shareOut_total _ pool

theorem mem_classPass {pool : Nat} {cs : List Cand} {c : Cand} (hc : c ∈ cs) (hmin : c.min ≤ c.call) :
    ∃ x ∈ (classPass pool cs).1, x.slot = c.slot
      ∧ (x.shed = true → x.grant = 0 ∧ 0 < c.min) ∧ (x.shed = false → c.min ≤ x.grant ∧ x.grant ≤ c.call) := by
  rcases le_or_gt (cs.map (·.call)).sum pool with hfull | hshort
  · rw [classPass_full hfull]
    exact ⟨_, List.mem_map_of_mem hc, rfl, nofun, fun _ => ⟨hmin, le_rfl⟩⟩
  · rw [classPass_short hshort]
    obtain ⟨left, rest, hshare⟩ := mem_shareOut ((orderCands_perm cs).mem_iff.mpr hc) pool
      ((orderCands cs).map (·.weight)).sum
    exact ⟨_, hshare, shareAt_slot c left rest, shareAt_grant c left rest⟩

/-- One candidate in shortage has the whole pool as its fair share. -/
theorem classPass_singleton {pool : Nat} {c : Cand} (hweight : 1 ≤ c.weight) (hshort : pool < c.call)
    (hmin : c.min ≤ pool) : classPass pool [c] = ([⟨c.slot, pool, false⟩], 0) := by
  have hshare : shareAt c pool c.weight = ⟨c.slot, pool, false⟩ := by
    rw [shareAt, Nat.mul_div_cancel _ hweight, min_eq_right hshort.le, if_neg (Nat.not_lt.mpr hmin)]
  rw [classPass_short (by simpa using hshort)]
  simp [orderCands, insertCand, shareOut_cons, shareOut, hshare]

/-- Settles O27: a pass in shortage shares its pool out in the order of the candidates' ranks. -/
theorem classPassSharesThePool : Obligations.ClassPassSharesThePool := by
  refine ⟨fun pool cs hcs _ => ?_, fun pool cs hshort hweights hslots => ?_⟩
  · refine ⟨classPass_total pool cs, classPass_slots pool cs, fun hfull c hc => ?_,
      fun c hc => mem_classPass hc (hcs c hc).1, fun c hc hone hshort hmin => ?_⟩
    · rw [classPass_full hfull]
      exact List.mem_map_of_mem hc
    · rw [hone]
      exact classPass_singleton (hcs c hc).2 hshort hmin
  · have hperm := orderCands_perm cs
    refine ⟨orderCands cs, hperm, ?_, ?_, fun front behind c hvisits => ?_⟩
    · refine (orderCands_strict hweights hslots).imp_of_mem fun hc hd hrank => ?_
      exact (Cand.rank_lt_iff (hweights _ (hperm.mem_iff.mp hc)) (hweights _ (hperm.mem_iff.mp hd))).mp hrank
    · rw [classPass_short hshort]
      simpa using congrArg List.length (shareOut_slots (orderCands cs) pool ((orderCands cs).map (·.weight)).sum)
    · rw [classPass_short hshort, hvisits]
      exact shareOut_visit c behind front pool

end Sys2Proof.Machine
end

section
/-! ## The ranges of the counts and timers (R7, R28, R60)

`Offtake.RangesOk` says what the laws of the figures say of one record. `State.Ranged` says that every record keeps it
under a plant record and channels that stay as they are; each operation on the records leads from one such state to
another. -/

namespace Sys2Proof.Machine

open Sys2Proof

/-- The count and the timers of a record stand in their ranges under a lockout limit. -/
structure Offtake.RangesOk (limit : Nat) (o : Offtake) : Prop where
  count : o.supply ≠ .lockout → o.overdrawCount < limit
  overdraw : o.overdrawTimer ≤ 600
  idle : o.idleTimer ≤ 10
  quiet : o.quietMs ≤ Config.quietMs
  silence : o.silenceMs ≤ Config.silenceMs
  confirm : o.confirmCount ≤ 3
  confirming : o.link = .confirm → o.confirmCount ≤ 2
  legacy : o.legacyRun ≤ 3
  listening : o.link = .listen → o.legacyRun ≤ 2

theorem Offtake.rangesOk_iff {limit : Nat} {o : Offtake} : o.RangesOk limit ↔ o.countOk limit ∧ o.timersOk := by
  constructor
  · exact fun h => ⟨h.count, h.overdraw, h.idle, h.quiet, h.silence, h.confirm, h.confirming, h.legacy, h.listening⟩
  · rintro ⟨hcount, hoverdraw, hidle, hquiet, hsilence, hconfirm, hconfirming, hlegacy, hlistening⟩
    exact ⟨hcount, hoverdraw, hidle, hquiet, hsilence, hconfirm, hconfirming, hlegacy, hlistening⟩

theorem State.limitsOk_iff {s : State} :
    s.limitsOk ↔ s.plant.ok ∧ s.everyRecord (Offtake.RangesOk s.plant.lockoutLimit) := by
  simp only [State.everyRecord, Offtake.rangesOk_iff]
  constructor
  · exact fun ⟨hplant, hcounts, htimers⟩ => ⟨hplant, fun i o ho => ⟨hcounts i o ho, htimers i o ho⟩⟩
  · exact fun ⟨hplant, h⟩ => ⟨hplant, fun i o ho => (h i o ho).1, fun i o ho => (h i o ho).2⟩

/-! ### What is written of a record -/

namespace Offtake.RangesOk

variable {limit : Nat} {o : Offtake}

/-- Entering QUIET sets the enrollment items to 0 (R30). -/
theorem quieted (h : o.RangesOk limit) : o.quieted.RangesOk limit :=
  { h with
    quiet := Nat.zero_le _
    confirm := Nat.zero_le _
    confirming := fun _ => Nat.zero_le _
    legacy := Nat.zero_le _
    listening := fun _ => Nat.zero_le _ }

/-- A record that was not in LOCKOUT, or goes into it, may take another supply state. -/
theorem supplied (h : o.RangesOk limit) {st : Supply} (hst : o.supply = .lockout → st = .lockout) :
    ({ o with supply := st } : Offtake).RangesOk limit :=
  { h with count := fun hne => h.count fun hl => hne (hst hl) }

/-- Entering QUIET leaves a record in LOCKOUT there (R29, R30). -/
theorem quietedFrom (h : o.RangesOk limit) : o.quietedFrom.RangesOk limit :=
  { h.quieted with count := fun hne => h.count fun hl => hne (by simp [Offtake.quietedFrom, hl]) }

theorem cleared (h : o.RangesOk limit) : ({ o with overdrawTimer := 0, idleTimer := 0 } : Offtake).RangesOk limit :=
  { h with overdraw := Nat.zero_le _, idle := Nat.zero_le _ }

/-- A charged record that has reached the limit is locked out (R59). -/
theorem charged (h : o.RangesOk limit) : (o.charged limit).RangesOk limit := by
  refine { h with idle := Nat.zero_le _, count := fun hne => ?_ }
  refine Nat.lt_of_not_le fun hreached => hne ?_
  exact if_pos hreached

/-- An advert that resolves begins the matches anew (R34). -/
theorem resolved (h : o.RangesOk limit) (a : AdvertData) (m : Mode) : (o.resolved a m).RangesOk limit :=
  { h with
    silence := Nat.zero_le _
    confirm := Nat.zero_le _
    confirming := fun _ => Nat.zero_le _
    legacy := Nat.zero_le _
    listening := fun _ => Nat.zero_le _ }

theorem unresolved (h : o.RangesOk limit) (a : AdvertData) : (o.unresolved a).RangesOk limit :=
  { h with
    silence := Nat.zero_le _
    confirming := nofun
    legacy := Nat.zero_le _
    listening := fun _ => Nat.zero_le _ }

/-- A record that goes back to LISTEN has no run of LEGACY replies behind it (R37, R40). -/
theorem relisten (h : o.RangesOk limit) (count : Nat) (hcount : count ≤ 3) :
    ({ o with link := .listen, confirmCount := count, legacyRun := 0, silenceMs := 0 } : Offtake).RangesOk limit :=
  { h with
    silence := Nat.zero_le _
    confirm := hcount
    confirming := nofun
    legacy := Nat.zero_le _
    listening := fun _ => Nat.zero_le _ }

theorem called (h : o.RangesOk limit) (c : CallData) : (o.called c).RangesOk limit :=
  { h with silence := Nat.zero_le _ }

theorem rebound (h : o.RangesOk limit) (b : AmendBody) : (o.rebound (amended b o)).RangesOk limit := by
  have hamended : (amended b o).RangesOk limit := by
    rw [amended_eq]
    exact { h with }
  unfold Offtake.rebound
  split
  · exact { hamended with overdraw := Nat.zero_le _ }
  · exact hamended

/-- RESTART leaves a record that is not in CUT or LOCKOUT in HELD (R23). -/
theorem restarted (h : o.RangesOk limit) : o.restarted.RangesOk limit := by
  have hidle : (if o.supply = .cut then 0 else o.idleTimer) ≤ 10 := by
    split
    · exact Nat.zero_le _
    · exact h.idle
  exact { h.quieted with
    count := fun hne => h.count fun hl => hne (by simp [Offtake.restarted, hl])
    overdraw := Nat.zero_le _
    idle := hidle
    silence := Nat.zero_le _ }

/-- One millisecond stays within the quiet hold and the silence limit (R28). -/
theorem elapse (h : o.RangesOk limit) : o.elapse.RangesOk limit := by
  unfold Offtake.elapse
  split
  · exact { h with quiet := min_le_left _ _ }
  · exact { h with silence := min_le_left _ _ }

/-- A SET_PLANT that lowers the limit lowers the count with it, and one that does not keeps the count below (R62). -/
theorem relimited (h : o.RangesOk limit) {new : Nat} (hnew : 1 ≤ new) : (o.relimited limit new).RangesOk new := by
  rw [Offtake.relimited_eq]
  refine { h with count := fun hne => ?_ }
  have hbelow := h.count hne
  dsimp only at hne ⊢
  split
  · omega
  · next hkept =>
    have : new < limit → ¬ new ≤ o.overdrawCount := fun hlow hreached => hkept ⟨hlow, hne, hreached⟩
    omega

end Offtake.RangesOk

/-! ### What a tick leaves of a record (R55 to R59)

A timer that reaches its limit is cleared in the same tick, since the record is cut or released. -/

section
variable {s : State} {o x : Offtake} (h : o.RangesOk s.plant.lockoutLimit)
include h

theorem State.judgeDraw_rangesOk (hlimit : s.plant.overdrawLimit ≤ 600) (hout : o.supply ≠ .lockout)
    (hx : (s.judgeDraw o).record s.plant.lockoutLimit = some x) : x.RangesOk s.plant.lockoutLimit := by
  unfold State.judgeDraw at hx
  split at hx
  · cases hx
    exact { h with idle := Nat.zero_le _ }
  split at hx
  · cases hx
    exact h.cleared
  split at hx
  · cases hx
    exact { h.cleared with count := fun _ => h.count hout }
  · next hwithin =>
    cases hx
    exact { h with overdraw := (Nat.lt_of_not_le hwithin).le.trans hlimit, idle := Nat.zero_le _ }

theorem Offtake.judgeIdle_rangesOk {ch : Option Channel}
    (hx : (o.judgeIdle ch).record s.plant.lockoutLimit = some x) : x.RangesOk s.plant.lockoutLimit := by
  unfold Offtake.judgeIdle at hx
  split at hx
  · cases hx
    exact { h with overdraw := Nat.zero_le _ }
  split at hx
  · cases hx
    exact { h with overdraw := Nat.zero_le _ }
  split at hx
  · cases hx
    exact h.cleared
  split at hx
  · rw [Judgement.record] at hx
    split at hx
    · cases hx
    · cases hx
      exact h.cleared.charged.quietedFrom
  · next hwithin =>
    cases hx
    exact { h with overdraw := Nat.zero_le _, idle := (Nat.lt_of_not_le hwithin).le }

theorem State.judge_rangesOk (hlimit : s.plant.overdrawLimit ≤ 600)
    (hx : (s.judge o).record s.plant.lockoutLimit = some x) : x.RangesOk s.plant.lockoutLimit := by
  unfold State.judge at hx
  split at hx
  · next hs => exact s.judgeDraw_rangesOk h hlimit (by simp [hs]) hx
  · next hs => exact s.judgeDraw_rangesOk h hlimit (by simp [hs]) hx
  · exact Offtake.judgeIdle_rangesOk h hx
  · cases hx
    exact h.cleared
  · cases hx
    exact h.cleared

end

end Sys2Proof.Machine
end

section
/-! ### The operations keep the ranges of the records -/

namespace Sys2Proof.Machine

open Sys2Proof

/-- Under the plant record and the channels given, every record stands in its ranges. -/
structure State.Ranged (P : Plant) (C : Vector Channel 48) (s : State) : Prop where
  plant : s.plant = P
  channels : s.channels = C
  records : s.everyRecord (Offtake.RangesOk P.lockoutLimit)

namespace State.Ranged

variable {P : Plant} {C : Vector Channel 48} {s t : State}

/-! ### Writes of a slot -/

theorem same (h : s.Ranged P C) (hslots : t.slots = s.slots) (hplant : t.plant = s.plant)
    (hchannels : t.channels = s.channels) : t.Ranged P C :=
  ⟨hplant.trans h.plant, hchannels.trans h.channels,
    fun i o ho => h.records i o (State.offtake_of_slots hslots i ▸ ho)⟩

theorem view (h : s.Ranged P C) (hview : t.figureView = s.figureView) : t.Ranged P C := by
  simp only [State.figureView, Prod.mk.injEq] at hview
  obtain ⟨hslots, -, hplant, hchannels⟩ := hview
  exact h.same hslots hplant hchannels

/-- The record of one slot is rewritten. -/
theorem record (h : s.Ranged P C) (i : Nat) (hothers : ∀ j, j ≠ i → t.offtake j = s.offtake j)
    (hself : ∀ o, t.offtake i = some o → o.RangesOk P.lockoutLimit) (hplant : t.plant = s.plant)
    (hchannels : t.channels = s.channels) : t.Ranged P C := by
  refine ⟨hplant.trans h.plant, hchannels.trans h.channels, fun j o ho => ?_⟩
  by_cases hji : j = i
  · exact hself o (hji ▸ ho)
  · exact h.records j o (hothers j hji ▸ ho)

theorem putOfftake (h : s.Ranged P C) (i : Nat) {o : Offtake} (hok : o.RangesOk P.lockoutLimit) :
    (s.putOfftake i (some o)).Ranged P C := by
  refine h.record i (fun j hj => State.offtake_putOfftake_ne s _ hj) (fun x hx => ?_) rfl rfl
  rw [State.offtake_putOfftake] at hx
  split at hx
  · cases hx
    exact hok
  · exact h.records i x hx

theorem modOfftake (h : s.Ranged P C) (i : Nat) (f : Offtake → Offtake)
    (hf : ∀ o, s.offtake i = some o → o.RangesOk P.lockoutLimit → (f o).RangesOk P.lockoutLimit :=
      by exact fun _ _ hok => { hok with }) : (s.modOfftake i f).Ranged P C := by
  cases ho : s.offtake i with
  | none => rwa [State.modOfftake_none ho]
  | some o =>
    rw [State.modOfftake_eq ho]
    exact h.putOfftake i (hf o ho (h.records i o ho))

theorem withdraw (h : s.Ranged P C) (i : Nat) {st : Supply}
    (hst : ∀ o, s.offtake i = some o → o.supply = .lockout → st = .lockout) : (s.withdraw i st).Ranged P C := by
  have hmod := h.modOfftake i (fun o => { o.zeroGrant with supply := st }) fun o ho hok =>
    { hok.supplied (hst o ho) with }
  exact hmod.same (by simp [State.withdraw]) (by rw [State.withdraw_frame, State.modOfftake_frame])
    (by rw [State.withdraw_frame, State.modOfftake_frame])

/-- An ACTIVE record may leave supply for any state. -/
theorem withdraw_active (h : s.Ranged P C) {i : Nat} (hactive : s.isActive i = true) (st : Supply) :
    (s.withdraw i st).Ranged P C := by
  refine h.withdraw i fun o ho hl => ?_
  obtain ⟨x, hx, hs⟩ := State.isActive_iff.mp hactive
  obtain rfl := Option.some.inj (ho.symm.trans hx)
  rw [hl] at hs
  cases hs

theorem free (h : s.Ranged P C) (i : Nat) : (s.free i).Ranged P C :=
  h.record i (fun j hj => by rw [State.offtake_free, if_neg hj.symm])
    (fun o ho => by rw [State.offtake_free, if_pos rfl] at ho; cases ho) (by rw [State.free_frame])
    (by rw [State.free_frame])

theorem foldl {α : Type} {f : State → α → State} (hf : ∀ t a, t.Ranged P C → (f t a).Ranged P C) (l : List α)
    (h : s.Ranged P C) : (l.foldl f s).Ranged P C := List.foldlRecOn l f h fun t ht a _ => hf t a ht

/-! ### The shared operations -/

theorem leaveLinked (h : s.Ranged P C) (i : Nat) : (s.leaveLinked i).Ranged P C := by
  cases ho : s.offtake i with
  | none => rwa [State.leaveLinked_vacant ho]
  | some o =>
    refine h.record i (fun j hj => State.offtake_leaveLinked_ne s hj.symm) (fun x hx => ?_)
      (by rw [State.leaveLinked_frame]) (by rw [State.leaveLinked_frame])
    have hok := h.records i o ho
    cases hr : o.retiring with
    | true =>
      rw [State.leaveLinked_retiring ho hr] at hx
      cases hx
    | false =>
      rw [State.leaveLinked_self ho hr] at hx
      cases hx
      exact { hok with count := fun hne => hok.count fun hl => hne (by simp [hl]) }

theorem enterQuiet (h : s.Ranged P C) (i : Nat) : (s.enterQuiet i).Ranged P C := by
  cases ho : s.offtake i with
  | none => rwa [State.enterQuiet_vacant ho]
  | some o =>
    refine h.record i (fun j hj => State.offtake_enterQuiet_ne _ hj.symm) (fun x hx => ?_)
      (by rw [State.enterQuiet_frame]) (by rw [State.enterQuiet_frame])
    rw [State.offtake_enterQuiet ho] at hx
    split at hx
    · cases hx
    · cases hx
      exact (h.records i o ho).quietedFrom

theorem linkLoss (h : s.Ranged P C) (i : Nat) : (s.linkLoss i).Ranged P C := (h.enterQuiet i).same rfl rfl rfl

/-- A record that joins supply is HELD before (R41). -/
theorem joinSupply (h : s.Ranged P C) (i : Nat) : (s.joinSupply i).Ranged P C := by
  unfold State.joinSupply
  split
  · next o ho =>
    split
    · next hheld =>
      have hjoins : ∀ st x, s.offtake i = some x → x.RangesOk P.lockoutLimit →
          ({ x with supply := st } : Offtake).RangesOk P.lockoutLimit := by
        intro st x hx hok
        obtain rfl := Option.some.inj (ho.symm.trans hx)
        exact hok.supplied fun hl => absurd (hheld.symm.trans hl) (by decide)
      split
      · exact h.modOfftake i _ (hjoins .active)
      · exact (h.modOfftake i (fun o => { o with supply := .shed }) (hjoins .shed)).same (by simp) (by simp) (by simp)
    · exact h
  · exact h

theorem cutRecord (h : s.Ranged P C) (i : Nat) (hout : ∀ o, s.offtake i = some o → o.supply ≠ .lockout) :
    (s.cutRecord i).Ranged P C := by
  refine h.record i (fun j hj => by rw [State.offtake_cutRecord, if_neg hj.symm]) (fun x hx => ?_)
    (by rw [State.cutRecord_frame]) (by rw [State.cutRecord_frame])
  rw [State.offtake_cutRecord, if_pos rfl] at hx
  obtain ⟨o, ho, rfl⟩ := Option.map_eq_some_iff.mp hx
  have hok := h.records i o ho
  exact { hok.cleared with count := fun _ => hok.count (hout o ho) }

theorem releaseIdle (h : s.Ranged P C) (i : Nat) : (s.releaseIdle i).Ranged P C := by
  cases ho : s.offtake i with
  | none => rwa [State.releaseIdle, ho]
  | some o =>
    refine h.record i (fun j hj => by rw [State.offtake_releaseIdle ho, if_neg hj.symm]) (fun x hx => ?_)
      (by rw [State.releaseIdle_frame]) (by rw [State.releaseIdle_frame])
    rw [State.offtake_releaseIdle ho, if_pos rfl, Judgement.record] at hx
    split at hx
    · cases hx
    · cases hx
      rw [h.plant]
      exact (h.records i o ho).charged.quietedFrom

theorem shedEach (is : List Nat) : ∀ {s : State}, s.Ranged P C → (s.shedEach is).1.Ranged P C := by
  induction is with
  | nil => exact id
  | cons i is ih =>
    intro s h
    unfold State.shedEach
    split
    · next hactive => exact ih (h.withdraw_active hactive .shed)
    · exact ih h

theorem push (h : s.Ranged P C) (level : Nat) (origin : Origin) (cause : Cause) (lead : List Nat) :
    (s.push level origin cause lead).Ranged P C := by
  rw [State.push_eq]
  exact same (s := s.shedAt level lead) (shedEach _ (shedEach lead h)) rfl rfl rfl

theorem recover (h : s.Ranged P C) : s.recover.Ranged P C :=
  h.same (by rw [State.recover_frame]) (by rw [State.recover_frame]) (by rw [State.recover_frame])

/-! ### The offtake link -/

theorem quietExpiry (h : s.Ranged P C) (i : Nat) : (s.quietExpiry i).Ranged P C := by
  unfold State.quietExpiry
  repeat' split
  · exact h
  · exact h.modOfftake i _ fun o _ hok => { hok.relisten o.confirmCount hok.confirm with quiet := le_rfl }
  · exact h

theorem silenceExpiry (h : s.Ranged P C) (i : Nat) : (s.silenceExpiry i).Ranged P C := by
  unfold State.silenceExpiry
  repeat' split
  · exact h
  · exact h
  · exact h.modOfftake i _ fun _ _ hok => { hok with silence := le_rfl }
  all_goals exact h.linkLoss i

theorem beginPoll (h : s.Ranged P C) : s.beginPoll.Ranged P C := by
  unfold State.beginPoll
  repeat' split
  all_goals exact h.same rfl rfl rfl

theorem pollTimedOut (h : s.Ranged P C) : s.pollTimedOut.Ranged P C := by
  unfold State.pollTimedOut
  split <;> exact h.same rfl rfl rfl

theorem beginSetpoint (h : s.Ranged P C) : s.beginSetpoint.Ranged P C := by
  unfold State.beginSetpoint
  repeat' split
  all_goals exact h.same rfl rfl rfl

theorem failAttempt (h : s.Ranged P C) : s.failAttempt.Ranged P C := by
  unfold State.failAttempt
  split
  · next i _ _ _ =>
    dsimp only
    split
    · exact (h.same (t := s.setpointEnded) rfl rfl rfl).linkLoss i
    · exact h.same rfl rfl rfl
  all_goals exact h.same rfl rfl rfl

theorem acknowledge (h : s.Ranged P C) (i v : Nat) : (s.acknowledge i v).Ranged P C := by
  have hended : s.setpointEnded.Ranged P C := h.same rfl rfl rfl
  have hnoted := (hended.modOfftake i fun o => { o with ackGrant := v }).same (t := State.dropEntry _ i) rfl rfl rfl
  unfold State.acknowledge
  split
  · exact hended
  · dsimp only
    split
    · exact hnoted.free i
    · exact hnoted.same (by simp) (by simp) (by simp)

theorem takeAck (h : s.Ranged P C) (m : LinkMsg) : (s.takeAck m).Ranged P C := by
  unfold State.takeAck
  repeat' split
  · exact h.acknowledge _ _
  · exact h.failAttempt
  all_goals exact h.same rfl rfl rfl

theorem takeReply {α : Type} (h : s.Ranged P C) (addr : Byte) (data : Option α) (f : State → Nat → α → State)
    (hf : ∀ t i d, t.Ranged P C → (f t i d).Ranged P C) : (s.takeReply addr data f).Ranged P C := by
  unfold State.takeReply
  split
  · have hended : s.pollEnded.Ranged P C := h.same rfl rfl rfl
    split
    · exact hf _ _ _ hended
    · exact hended
    · exact hended
  · exact h.failAttempt
  · exact h

theorem listenAdvert (h : s.Ranged P C) (i : Nat) (a : AdvertData) : (s.listenAdvert i a).Ranged P C := by
  cases ho : s.offtake i with
  | none => rwa [State.listenAdvert_none ho]
  | some o =>
    have hok := h.records i o ho
    cases hm : resolveMode o a with
    | some m =>
      rw [State.listenAdvert_resolved ho hm]
      exact h.putOfftake i (hok.resolved a m)
    | none =>
      rw [State.listenAdvert_unresolved ho hm]
      split
      · exact h.putOfftake i (hok.unresolved a)
      · exact (h.putOfftake i (hok.unresolved a)).same rfl rfl rfl

/-- The third match binds the record, so that it counts beyond two only out of CONFIRM (R37). -/
theorem confirmAdvert (h : s.Ranged P C) {i : Nat} {o : Offtake} (ho : s.offtake i = some o) (hl : o.link = .confirm)
    (a : AdvertData) : (s.confirmAdvert i o a).Ranged P C := by
  have hok := h.records i o ho
  have hcount := hok.confirming hl
  unfold State.confirmAdvert
  split
  · split
    · split
      · refine joinSupply (h.putOfftake i ?_) i
        exact { hok with
          silence := Nat.zero_le _
          confirm := Nat.succ_le_succ hcount
          confirming := nofun
          listening := nofun }
      · next hmore =>
        have hstill : o.confirmCount + 1 ≤ 2 := Nat.le_of_lt_succ (Nat.lt_of_not_le hmore)
        exact h.putOfftake i { hok with
          silence := Nat.zero_le _
          confirm := Nat.succ_le_succ hcount
          confirming := fun _ => hstill }
    · exact h.putOfftake i { hok with silence := Nat.zero_le _ }
  · refine listenAdvert (h.putOfftake i ?_) i a
    exact { hok.relisten 0 (Nat.zero_le _) with }

theorem takeAdvert (s : State) (i : Nat) (a : AdvertData) (h : s.Ranged P C) : (s.takeAdvert i a).Ranged P C := by
  have hbound : (s.boundAdvert i (storedAdvert a)).Ranged P C := by
    unfold State.boundAdvert
    refine listenAdvert ((h.leaveLinked i).modOfftake i _ fun o _ hok => ?_) i _
    exact { hok.relisten o.confirmCount hok.confirm with }
  unfold State.takeAdvert
  split
  · exact h
  · next o ho =>
    split
    · exact h.listenAdvert i _
    · next hl => exact h.confirmAdvert ho hl _
    · exact hbound
    · exact hbound
    · exact h

theorem takeStatus (s : State) (i : Nat) (c : CallData) (h : s.Ranged P C) : (s.takeStatus i c).Ranged P C := by
  unfold State.takeStatus
  split
  · exact h.modOfftake i _ fun _ _ hok => hok.called c
  · exact h

/-- The third LEGACY reply in a row binds the record or breaks the run (R35). -/
theorem listenLegacy (h : s.Ranged P C) {i : Nat} {o : Offtake} (ho : s.offtake i = some o) (hl : o.link = .listen)
    (c : CallData) : (s.listenLegacy i o c).Ranged P C := by
  have hok := h.records i o ho
  have hrun := hok.listening hl
  have hbroken : State.Ranged P C
      (s.putOfftake i (some { o with absent := false, silenceMs := 0, legacyRun := 0, noMode := true })) :=
    h.putOfftake i { hok with
      silence := Nat.zero_le _
      legacy := Nat.zero_le _
      listening := fun _ => Nat.zero_le _ }
  unfold State.listenLegacy
  dsimp only
  split
  · next hmore =>
    exact h.putOfftake i { hok with
      silence := Nat.zero_le _
      legacy := Nat.succ_le_succ hrun
      listening := fun _ => Nat.le_of_lt_succ hmore }
  split
  · refine joinSupply (h.putOfftake i ?_) i
    exact { hok with
      silence := Nat.zero_le _
      confirming := nofun
      legacy := Nat.succ_le_succ hrun
      listening := nofun }
  split
  · exact hbroken
  · exact hbroken.same rfl rfl rfl

theorem takeLegacy (s : State) (i : Nat) (c : CallData) (h : s.Ranged P C) : (s.takeLegacy i c).Ranged P C := by
  unfold State.takeLegacy
  split
  · exact h
  · next o ho =>
    split
    · next hl => exact h.listenLegacy ho hl c
    · exact h.modOfftake i _ fun _ _ hok => hok.called c
    all_goals exact h

/-! ### The draw monitor -/

theorem meteringTick (h : s.Ranged P C) (hP : P.ok) : s.meteringTick.Ranged P C := by
  refine ⟨by rw [State.meteringTick_frame, h.plant], by rw [State.meteringTick_frame, h.channels], fun i x hx => ?_⟩
  obtain ⟨-, -, -, -, ⟨-, hlimit⟩, -⟩ := hP
  rw [State.offtake_meteringTick] at hx
  obtain ⟨o, ho, hx⟩ := Option.bind_eq_some_iff.mp hx
  have hmeasured : (s.measured o).RangesOk P.lockoutLimit := { h.records i o ho with }
  obtain rfl := h.plant
  exact State.judge_rangesOk hmeasured hlimit hx

theorem cutSlot (h : s.Ranged P C) (i : Nat) : (s.cutSlot i).Ranged P C := by
  unfold State.cutSlot
  split
  · next o ho =>
    split
    · next hs =>
      refine h.cutRecord i fun x hx hl => ?_
      obtain rfl := Option.some.inj (ho.symm.trans hx)
      rw [hl] at hs
      exact absurd hs (by decide)
    · exact h
  · exact h

theorem idleSlot (h : s.Ranged P C) (i : Nat) : (s.idleSlot i).Ranged P C := by
  unfold State.idleSlot
  repeat' split
  · exact h.releaseIdle i
  · exact h
  · exact h

/-! ### The pass -/

/-- The slots of the queue hold SHED records, none of them in LOCKOUT (R140, R151). -/
theorem readmitFrom (q : List Nat) : ∀ {s : State}, s.Ranged P C →
    (∀ i ∈ q, ∀ o, s.offtake i = some o → o.supply ≠ .lockout) → (s.readmitFrom q).Ranged P C := by
  induction q with
  | nil => exact fun h _ => h.same rfl rfl rfl
  | cons i q ih =>
    intro s h hq
    obtain ⟨hi, hq⟩ := List.forall_mem_cons.mp hq
    unfold State.readmitFrom
    split
    · refine (h.modOfftake i Offtake.readmitted fun o ho hok => ?_).same rfl rfl rfl
      exact { hok with count := fun _ => hok.count (hi o ho) }
    · have hslots : (s.appendTop i).slots = s.slots := by simp
      exact ih (h.same hslots (by simp) (by simp)) fun j hj o ho => hq j hj o (State.offtake_of_slots hslots j ▸ ho)

theorem beginPass (h : s.Ranged P C) (hlists : s.listsOk) : s.beginPass.Ranged P C := by
  obtain ⟨-, hlisted⟩ := hlists
  have hreadmit : s.readmit.Ranged P C := h.readmitFrom s.readmission fun i hi o ho hl => by
    obtain ⟨x, hx, hs⟩ := (hlisted i).mp (List.mem_append_right _ hi)
    obtain rfl := Option.some.inj (ho.symm.trans hx)
    rw [hl] at hs
    cases hs
  cases hpass : s.pass with
  | some p => rwa [State.beginPass, hpass]
  | none =>
    rw [State.beginPass_eq hpass]
    exact hreadmit.same (by rw [State.begun_frame]) (by rw [State.begun_frame, State.readmit_frame])
      (by rw [State.begun_frame, State.readmit_frame])

theorem writeGrant (r : PassResult) (s : State) (e : PassEntry) (h : s.Ranged P C) : (s.writeGrant r e).Ranged P C := by
  unfold State.writeGrant
  split
  · exact h
  · exact (h.modOfftake e.slot (Offtake.granted r e.slot)).same (by simp) (by simp) (by simp)

theorem takeSheds (h : s.Ranged P C) (ms : List ShedMember) : (s.takeSheds ms).Ranged P C := by
  by_cases habove : s.level < observedLevel ms
  · rw [State.takeSheds_above habove]
    exact h.push _ _ _ _
  · rw [State.takeSheds_within habove]
    exact (shedEach (ms.map (·.slot)) h).same rfl rfl rfl

theorem judgeTimer (h : s.Ranged P C) (level interval : Nat) : (s.judgeTimer level interval).Ranged P C :=
  h.same rfl rfl rfl

theorem completePass (h : s.Ranged P C) : s.completePass.Ranged P C := by
  cases hp : s.pass with
  | none => rwa [State.completePass_none hp]
  | some p =>
    have hwritten : (s.grantsWritten p).Ranged P C := foldl (writeGrant p.view.result) p.table h
    have hfigures : (s.figuresWritten p).Ranged P C := hwritten.same (by rw [State.figuresWritten_frame])
      (by rw [State.figuresWritten_frame, State.grantsWritten_frame])
      (by rw [State.figuresWritten_frame, State.grantsWritten_frame])
    have houtcome : ((s.figuresWritten p).takeOutcome p.shedMembers p.view.interval).Ranged P C :=
      ((hfigures.takeSheds p.shedMembers).judgeTimer _ _).recover
    rw [State.completePass_some hp]
    generalize (s.figuresWritten p).takeOutcome p.shedMembers p.view.interval = u at houtcome
    exact houtcome.same rfl rfl rfl

end State.Ranged

end Sys2Proof.Machine
end

section
/-! ### The ranges of the channels (R66 to R77) -/

namespace Sys2Proof.Machine

open Sys2Proof

theorem ChannelKind.clamp_bounds (k : ChannelKind) (v : Int) :
    (-2147483647 ≤ k.clamp v ∧ k.clamp v ≤ 2147483647) ∧ (k = .cv → 0 ≤ k.clamp v ∧ k.clamp v ≤ 60000)
      ∧ (k = .level → 0 ≤ k.clamp v) := by
  have hwide := clampInt_bounds (top := 2147483647) v
  cases k with
  | cv =>
    rw [show ChannelKind.cv.clamp v = max 0 (min v 60000) from rfl]
    exact ⟨by omega, fun _ => by omega, nofun⟩
  | level =>
    rw [show ChannelKind.level.clamp v = max 0 (min v 2147483647) from rfl]
    exact ⟨by omega, nofun, fun _ => by omega⟩
  | noKind => exact ⟨hwide, nofun, nofun⟩
  | gasFlow => exact ⟨hwide, nofun, nofun⟩
  | waterFlow => exact ⟨hwide, nofun, nofun⟩
  | temp => exact ⟨hwide, nofun, nofun⟩
  | power => exact ⟨hwide, nofun, nofun⟩

theorem Channel.activityAfter_isSome {c : Channel} (h : c.activity.isSome = c.kind.isFlow) (v : Int) :
    (c.activityAfter v).isSome = c.kind.isFlow := by
  unfold Channel.activityAfter
  cases hk : c.kind.isFlow with
  | false => rfl
  | true =>
    simp only [if_true]
    repeat' split
    · rfl
    · rfl
    · exact h.trans hk

namespace Channel.ok

variable {c : Channel}

theorem unrun (h : c.ok) : ({ c with goodRun := 0 } : Channel).ok := ⟨Nat.zero_le _, h.2⟩

/-- A good sample (R70 to R77). -/
theorem takeGood (h : c.ok) (hk : c.kind ≠ .noKind) (overrange : Bool) (raw : Int) : (c.takeGood overrange raw).ok := by
  obtain ⟨-, -, -, hstale, hthresholds, -, -, -, hactivity, hreversed, -⟩ := h
  obtain ⟨hvalue, hcv, hlevel⟩ := c.kind.clamp_bounds _
  refine ⟨min_le_left _ _, ?_, Nat.zero_le _, ?_, hthresholds, hvalue, hcv, hlevel,
    Channel.activityAfter_isSome hactivity _, fun hturned => ?_, fun hnone => absurd hnone hk⟩
  · show (if c.turnsReversed (c.convert raw) then 0 else c.negativeAfter (c.convert raw)) < 8
    split
    · decide
    · next hno => simpa [Channel.turnsReversed] using hno
  · rw [Channel.takeGood_staleMs]
    split
    · exact Nat.zero_le _
    · exact hstale
  · rcases Bool.or_eq_true_iff.mp hturned with hbefore | hnow
    · obtain ⟨hauto, hflow, -⟩ := hreversed hbefore
      refine ⟨hauto, hflow, ?_⟩
      rw [Channel.takeGood_negativeRun]
      simp [Channel.judgesReversal, hbefore]
    · have hjudged := hnow
      rw [Channel.turnsReversed_eq, Channel.judgesReversal] at hjudged
      simp only [Bool.and_eq_true, decide_eq_true_eq] at hjudged
      obtain ⟨⟨⟨⟨hflow, hauto⟩, -⟩, -⟩, -⟩ := hjudged
      exact ⟨hauto, hflow, if_pos hnow⟩

/-- The age of a channel of a kind reaches 1 s (R75). -/
theorem ageExpired (h : c.ok) (hk : c.kind ≠ .noKind) : c.ageExpired.ok := by
  obtain ⟨-, hnegative, hage, hstale, hthresholds, hvalue, hcv, hlevel, hactivity, hreversed, -⟩ := h
  refine ⟨Nat.zero_le _, hnegative, max_le hage (by decide), ?_, hthresholds, hvalue, hcv, hlevel, hactivity, hreversed,
    fun hnone => absurd hnone hk⟩
  show (if c.condition = .normal then 0 else c.staleMs) ≤ Config.staleMs
  split
  · exact Nat.zero_le _
  · exact hstale

theorem failedNow (h : c.ok) (hk : c.kind ≠ .noKind) : c.failedNow.ok := by
  obtain ⟨hrun, hnegative, hage, -, hthresholds, hvalue, hcv, hlevel, hactivity, hreversed, -⟩ := h
  exact ⟨hrun, hnegative, hage, le_rfl, hthresholds, hvalue, hcv, hlevel, hactivity, hreversed,
    fun hnone => absurd hnone hk⟩

/-- The timers of a channel stop at their tops, and those of a channel of no kind do not run (R75, R76). -/
theorem elapse (h : c.ok) : c.elapse.ok := by
  unfold Channel.elapse
  split
  · exact h
  · next hk =>
    obtain ⟨hrun, hnegative, -, hstale, hthresholds, hvalue, hcv, hlevel, hactivity, hreversed, -⟩ := h
    refine ⟨hrun, hnegative, min_le_left _ _, ?_, hthresholds, hvalue, hcv, hlevel, hactivity, hreversed,
      fun hnone => absurd hnone hk⟩
    dsimp only
    split
    · exact min_le_left _ _
    · exact hstale

theorem restarted (h : c.ok) : c.restarted.ok := by
  obtain ⟨hrun, hnegative, -, -, hthresholds, hvalue, hcv, hlevel, hactivity, hreversed, hnone⟩ := h
  refine ⟨hrun, hnegative, Nat.zero_le _, Nat.zero_le _, hthresholds, hvalue, hcv, hlevel, hactivity, hreversed,
    fun hk => ?_⟩
  obtain ⟨hcondition, hzero, -, -⟩ := hnone hk
  exact ⟨hcondition, hzero, rfl, rfl⟩

/-- SET_CHANNEL starts the channel anew (R67, R68). -/
theorem configured (b : ChannelBody) (k : ChannelKind) (pol : Polarity) : (configuredChannel b k pol).ok := by
  refine ⟨Nat.zero_le _, Nat.zero_lt_succ _, Nat.zero_le _, Nat.zero_le _, min_le_right _ _, ?_, ?_, ?_, ?_, nofun,
    fun _ => ⟨rfl, rfl, rfl, rfl⟩⟩
  · exact ⟨by simp [configuredChannel], by simp [configuredChannel]⟩
  · exact fun _ => ⟨le_rfl, by simp [configuredChannel]⟩
  · exact fun _ => le_rfl
  · show (if k.isFlow then some Activity.idle else none).isSome = k.isFlow
    cases k.isFlow <;> rfl

end Channel.ok

namespace State.channelsOk

variable {s t : State}

theorem same (h : s.channelsOk) (hchannels : t.channels = s.channels) : t.channelsOk := by
  rw [State.channelsOk, hchannels]
  exact h

theorem map (h : s.channelsOk) {f : Channel → Channel} (hchannels : t.channels = s.channels.map f)
    (hf : ∀ c : Channel, c.ok → (f c).ok) : t.channelsOk := by
  intro c hc
  rw [hchannels, Vector.toList_map] at hc
  obtain ⟨c, hmem, rfl⟩ := List.mem_map.mp hc
  exact hf c (h c hmem)

theorem at_entry (h : s.channelsOk) {n : Nat} {ch : Channel} (hn : s.channels[n]? = some ch) : ch.ok :=
  h ch (Vector.mem_toList_iff.mpr (Vector.mem_of_getElem? hn))

theorem withChannel (h : s.channelsOk) (n : Nat) {ch : Channel} (hch : ch.ok) : (s.withChannel n ch).channelsOk := by
  intro c hc
  rw [State.withChannel, Vector.toList_setIfInBounds] at hc
  rcases List.mem_or_eq_of_mem_set hc with hmem | rfl
  · exact h c hmem
  · exact hch

theorem modChannel (h : s.channelsOk) (n : Nat) {f : Channel → Channel} (hf : ∀ c : Channel, (f c).ok) :
    (s.modChannel n f).channelsOk := by
  cases hch : s.channels[n]? with
  | none =>
    rw [State.modChannel, modAt, hch]
    exact h.same rfl
  | some ch =>
    rw [State.modChannel_withChannel hch]
    exact h.withChannel n (hf ch)

/-- A channel of no kind takes no sample (R65). -/
theorem takeSample (h : s.channelsOk) (d : SampleData) : (s.takeSample d).channelsOk := by
  cases hch : s.channels[d.channel]? with
  | none => rwa [State.takeSample_absent hch]
  | some ch =>
    by_cases hk : ch.kind = .noKind
    · rwa [State.takeSample_noKind hch hk]
    by_cases hfault : d.status = .fault
    · rw [State.takeSample_fault hch hk hfault]
      exact h.withChannel d.channel (h.at_entry hch).unrun
    · have hsampled := h.withChannel d.channel ((h.at_entry hch).takeGood hk (decide (d.status = .overrange))
        (usedReading d.status d.raw))
      rw [State.takeSample_good hch hk hfault]
      split
      · exact hsampled.same rfl
      · exact hsampled

theorem ageExpiry (h : s.channelsOk) (n : Nat) : (s.ageExpiry n).channelsOk := by
  cases hch : s.channels[n]? with
  | none => rwa [State.ageExpiry, hch]
  | some ch =>
    by_cases hk : ch.kind = .noKind
    · simpa [State.ageExpiry, hch, hk] using h
    · have hexpired := h.withChannel n ((h.at_entry hch).ageExpired hk)
      rw [State.ageExpiry_eq hch hk]
      split
      · exact hexpired.same rfl
      · exact hexpired

theorem staleExpiry (h : s.channelsOk) (n : Nat) : (s.staleExpiry n).channelsOk := by
  cases hch : s.channels[n]? with
  | none => rwa [State.staleExpiry, hch]
  | some ch =>
    by_cases hk : ch.kind = .noKind
    · simpa [State.staleExpiry, hch, hk] using h
    · rw [State.staleExpiry_eq hch hk]
      split
      · exact (h.withChannel n ((h.at_entry hch).failedNow hk)).same rfl
      · exact h

theorem reqSetChannel (h : s.channelsOk) (p : PortId) (b : ChannelBody) : (reqSetChannel p b s).state.channelsOk := by
  unfold Machine.reqSetChannel
  repeat' split
  iterate 3 · exact h
  · exact h.modChannel b.channel fun _ => .configured b _ _
  · exact h
  · exact h

end State.channelsOk

end Sys2Proof.Machine
end

section
/-! ### Every step keeps the ranges -/

namespace Sys2Proof.Machine

open Sys2Proof

/-! ### Requests that write a record -/

namespace State.Ranged

variable {P : Plant} {C : Vector Channel 48} {s : State}

/-- A new record begins with its count and timers at 0 (R13, R28). -/
theorem reqCreateOfftake (h : s.Ranged P C) (hlimit : 1 ≤ P.lockoutLimit) (p : PortId) (b : CreateBody) :
    (reqCreateOfftake p b s).state.Ranged P C := by
  unfold Machine.reqCreateOfftake
  repeat' split
  iterate 7 · exact h
  refine h.putOfftake _ ?_
  exact ⟨fun _ => hlimit, Nat.zero_le _, Nat.zero_le _, Nat.zero_le _, Nat.zero_le _, Nat.zero_le _,
    fun _ => Nat.zero_le _, Nat.zero_le _, fun _ => Nat.zero_le _⟩

theorem reqAmendOfftake (h : s.Ranged P C) (p : PortId) (b : AmendBody) : (reqAmendOfftake p b s).state.Ranged P C := by
  unfold Machine.reqAmendOfftake
  split
  · exact h
  · next o hfind =>
    have hput := h.putOfftake b.slot ((h.records b.slot o (State.findRecord_ok hfind).1).rebound b)
    dsimp only
    repeat' split
    iterate 5 · exact h
    · exact hput.enterQuiet b.slot
    · exact hput

/-- A record in LOCKOUT stays there when it retires (R19). -/
theorem retire (h : s.Ranged P C) {i : Nat} {o : Offtake} (ho : s.offtake i = some o) : (s.retire i o).Ranged P C := by
  refine ((h.modOfftake i fun o => { o with retiring := true }).withdraw i fun x hx hl => ?_).same rfl rfl rfl
  rw [State.offtake_modOfftake, if_pos rfl, ho] at hx
  cases hx
  rw [show o.supply = .lockout from hl]
  rfl

theorem reqRetireOfftake (h : s.Ranged P C) (p : PortId) (i : Nat) (tag : Tag) :
    (reqRetireOfftake p i tag s).state.Ranged P C := by
  unfold Machine.reqRetireOfftake
  split
  · exact h
  · split
    · exact h
    · next o hfind =>
      have hretired := h.retire (State.findRecord_ok hfind).1
      repeat' split
      · exact h
      · exact hretired
      · exact hretired.free i

theorem reqRenegotiate (h : s.Ranged P C) (p : PortId) (i : Nat) (tag : Tag) :
    (reqRenegotiate p i tag s).state.Ranged P C := by
  unfold Machine.reqRenegotiate
  repeat' split
  iterate 3 · exact h
  exact h.enterQuiet i

/-- RELEASE sets the count to 0 (R61). -/
theorem reqRelease (h : s.Ranged P C) (hlimit : 1 ≤ P.lockoutLimit) (p : PortId) (i : Nat) (tag : Tag) :
    (reqRelease p i tag s).state.Ranged P C := by
  unfold Machine.reqRelease
  repeat' split
  iterate 4 · exact h
  refine enterQuiet (h.modOfftake i _ fun _ _ hok => ?_) i
  exact { hok with count := fun _ => hlimit }

theorem reqPushCurtail (h : s.Ranged P C) (p : PortId) (level : Nat) : (reqPushCurtail p level s).state.Ranged P C := by
  unfold Machine.reqPushCurtail
  repeat' split
  iterate 3 · exact h
  exact h.push _ _ _ _

theorem reqBindAccount (h : s.Ranged P C) (p : PortId) (i : Nat) (tag : Tag) (n : Nat) :
    (reqBindAccount p i tag n s).state.Ranged P C := by
  unfold Machine.reqBindAccount
  repeat' split
  iterate 6 · exact h
  refine (h.modOfftake i fun o => { o with account := some n }).same ?_ ?_ ?_ <;>
    rw [State.accept_state, State.bindCount_frame, State.unbindCount_frame]

theorem reqUnbindAccount (h : s.Ranged P C) (p : PortId) (i : Nat) (tag : Tag) :
    (reqUnbindAccount p i tag s).state.Ranged P C := by
  unfold Machine.reqUnbindAccount
  repeat' split
  iterate 3 · exact h
  refine (h.modOfftake i fun o => { o with account := none }).same ?_ ?_ ?_ <;>
    rw [State.accept_state, State.unbindCount_frame]

end State.Ranged

/-! ### The laws of the figures together -/

theorem reqSetChannel_frame (p : PortId) (b : ChannelBody) (s : State) :
    (reqSetChannel p b s).state = { s with channels := (reqSetChannel p b s).state.channels } := by
  unfold reqSetChannel
  repeat' split
  all_goals rfl

/-- The plant record, the counts, the timers and the channels stand in their ranges. -/
structure State.FiguresOk (s : State) : Prop where
  limits : s.limitsOk
  channels : s.channelsOk

theorem State.everyRecord_of_map {s t : State} {f : Offtake → Offtake} {A B : Offtake → Prop} (h : s.everyRecord A)
    (hslots : t.slots = s.slots.map (Option.map f)) (hf : ∀ o, A o → B (f o)) : t.everyRecord B := by
  intro i x hx
  rw [State.offtake_of_map hslots] at hx
  obtain ⟨o, ho, rfl⟩ := Option.map_eq_some_iff.mp hx
  exact hf o (h i o ho)

theorem configuredPlant_ok (b : PlantBody) (pol : Policy) {p : Plant} (h : p.ok) : (configuredPlant b pol p).ok := by
  obtain ⟨-, -, -, -, -, -, -, -, -, -, hcommitment⟩ := h
  refine ⟨?_, ?_, ?_, ?_, ?_, ?_, ?_, ?_, ?_, ?_, hcommitment⟩ <;>
    (dsimp only [configuredPlant, clampNat]; omega)

namespace State.FiguresOk

variable {s t : State}

theorem plantOk (h : s.FiguresOk) : s.plant.ok := (State.limitsOk_iff.mp h.limits).1

theorem ranged (h : s.FiguresOk) : s.Ranged s.plant s.channels := ⟨rfl, rfl, (State.limitsOk_iff.mp h.limits).2⟩

/-- Where the plant record and the channels stay, the ranges of the records are all there is to keep. -/
theorem of_ranged (h : s.FiguresOk) (ht : t.Ranged s.plant s.channels) : t.FiguresOk := by
  refine ⟨State.limitsOk_iff.mpr ⟨?_, ?_⟩, h.channels.same ht.channels⟩
  · rw [ht.plant]
    exact h.plantOk
  · rw [ht.plant]
    exact ht.records

theorem view (h : s.FiguresOk) (hview : t.figureView = s.figureView) : t.FiguresOk := h.of_ranged (h.ranged.view hview)

/-- The plant record keeps its ranges and its lockout limit. -/
theorem withLimit (h : s.FiguresOk) (hplant : t.plant.ok) (hlimit : t.plant.lockoutLimit = s.plant.lockoutLimit)
    (hslots : t.slots = s.slots) (hchannels : t.channels = s.channels) : t.FiguresOk := by
  refine ⟨State.limitsOk_iff.mpr ⟨hplant, ?_⟩, h.channels.same hchannels⟩
  rw [hlimit]
  exact fun i o ho => h.ranged.records i o (State.offtake_of_slots hslots i ▸ ho)

theorem withChannels (h : s.FiguresOk) (hslots : t.slots = s.slots) (hplant : t.plant = s.plant)
    (hchannels : t.channelsOk) : t.FiguresOk :=
  ⟨(h.withLimit (t := { t with channels := s.channels }) (hplant ▸ h.plantOk) (congrArg Plant.lockoutLimit hplant)
    hslots rfl).limits, hchannels⟩

theorem reqSetPlant (h : s.FiguresOk) (p : PortId) (b : PlantBody) : (reqSetPlant p b s).state.FiguresOk := by
  rcases reqSetPlant_cases p b s with hsame | ⟨pol, hwritten⟩
  · rw [hsame]
    exact h
  · have hplant := configuredPlant_ok b pol h.plantOk
    obtain ⟨-, -, -, -, -, ⟨hlimit, -⟩, -⟩ := id hplant
    have hrecords := State.everyRecord_of_map (t := s.withPlant (configuredPlant b pol s.plant)) h.ranged.records rfl
      fun _ hok => hok.relimited hlimit
    rw [hwritten]
    exact ⟨State.limitsOk_iff.mpr ⟨hplant, hrecords⟩, h.channels.same rfl⟩

theorem reqSetCommitment (h : s.FiguresOk) (p : PortId) (v : Int) : (reqSetCommitment p v s).state.FiguresOk := by
  unfold Machine.reqSetCommitment
  split
  · exact h
  · obtain ⟨hinterval, hhold, htolerance, hdeadband, hoverdraw, hlockout, heff, hceiling, hcp, hexport, -⟩ := h.plantOk
    exact h.withLimit ⟨hinterval, hhold, htolerance, hdeadband, hoverdraw, hlockout, heff, hceiling, hcp, hexport,
      min_le_right _ _⟩ rfl rfl rfl

theorem setExport (h : s.FiguresOk) (n : Option Nat) : (s.setExport n).FiguresOk := by
  rw [State.setExport_frame]
  exact h.withLimit h.plantOk rfl rfl rfl

theorem reqSetExportAccount (h : s.FiguresOk) (p : PortId) (n : Option Nat) :
    (reqSetExportAccount p n s).state.FiguresOk := by
  unfold Machine.reqSetExportAccount
  repeat' split
  · exact h
  · exact h.setExport none
  · exact h
  · exact h
  · exact h.setExport _

/-- RESTART keeps the plant record, the overdraw counts and the configuration of the channels (R23, R63, R82). -/
theorem restarted (h : s.FiguresOk) : s.restarted.FiguresOk := by
  have hplant : s.restarted.plant = s.plant := by rw [State.restarted_frame]
  have hrecords : s.restarted.everyRecord (Offtake.RangesOk s.plant.lockoutLimit) := by
    intro i x hx
    rw [State.offtake_restarted] at hx
    obtain ⟨o, ho, hafter⟩ := Option.bind_eq_some_iff.mp hx
    unfold Offtake.afterRestart at hafter
    split at hafter
    · cases hafter
    · cases hafter
      exact (h.ranged.records i o ho).restarted
  have hchannels : s.restarted.channelsOk :=
    h.channels.map (by rw [State.restarted_frame]) fun _ hc => hc.restarted
  refine ⟨State.limitsOk_iff.mpr ?_, hchannels⟩
  rw [hplant]
  exact ⟨h.plantOk, hrecords⟩

/-- Every request keeps the ranges. -/
theorem request (h : s.FiguresOk) (p : PortId) (r : Request) : (replyOf p r s).state.FiguresOk := by
  obtain ⟨-, -, -, -, -, ⟨hlimit, -⟩, -⟩ := h.plantOk
  have hranged := h.ranged
  cases hw : writesFigures r with
  | false => exact h.view (replyOf_figureView p hw s)
  | true =>
    cases r <;> simp only [writesFigures, writesRecords, Bool.false_eq_true] at hw <;> dsimp only [replyOf]
    case createOfftake b => exact h.of_ranged (hranged.reqCreateOfftake hlimit p b)
    case amendOfftake b => exact h.of_ranged (hranged.reqAmendOfftake p b)
    case retireOfftake i t => exact h.of_ranged (hranged.reqRetireOfftake p i t)
    case renegotiate i t => exact h.of_ranged (hranged.reqRenegotiate p i t)
    case release i t => exact h.of_ranged (hranged.reqRelease hlimit p i t)
    case pushCurtail level => exact h.of_ranged (hranged.reqPushCurtail p level)
    case bindAccount i t n => exact h.of_ranged (hranged.reqBindAccount p i t n)
    case unbindAccount i t => exact h.of_ranged (hranged.reqUnbindAccount p i t)
    case setPlant b => exact h.reqSetPlant p b
    case setCommitment v => exact h.reqSetCommitment p v
    case setExportAccount n => exact h.reqSetExportAccount p n
    case setChannel b =>
      exact h.withChannels (by rw [reqSetChannel_frame]) (by rw [reqSetChannel_frame]) (h.channels.reqSetChannel p b)
    case restart =>
      unfold reqRestart
      split
      · exact h
      · exact h.restarted

/-- Every event keeps the ranges, in a part whose lists name the SHED records. -/
theorem event (h : s.FiguresOk) (hlists : s.listsOk) {c : Instr} {f : State → State} (hf : eventOf c = some f) :
    (f s).FiguresOk := by
  have hranged := h.ranged
  cases c <;> simp only [eventOf, Option.some.injEq, reduceCtorEq] at hf <;> subst hf
  case writeFrame p x => exact h.view (by simp)
  case readAnswer p x => exact h.view (by simp)
  case sampleMessage bytes =>
    dsimp only
    split
    · next d _ =>
      exact h.withChannels (by rw [State.takeSample_frame]) (by rw [State.takeSample_frame]) (h.channels.takeSample d)
    · exact h
  case ageExpiry c =>
    exact h.withChannels (congrArg State.slots (s.ageExpiry_frame c) :) (congrArg State.plant (s.ageExpiry_frame c) :)
      (h.channels.ageExpiry c)
  case staleTimerExpiry c =>
    exact h.withChannels (congrArg State.slots (s.staleExpiry_frame c) :)
      (congrArg State.plant (s.staleExpiry_frame c) :) (h.channels.staleExpiry c)
  case quietHoldExpiry i => exact h.of_ranged (hranged.quietExpiry i)
  case silenceExpiry i => exact h.of_ranged (hranged.silenceExpiry i)
  case poll => exact h.of_ranged hranged.beginPoll
  case pollTimeout => exact h.of_ranged hranged.pollTimedOut
  case advert m => exact h.of_ranged (hranged.takeReply _ _ _ State.Ranged.takeAdvert)
  case status m => exact h.of_ranged (hranged.takeReply _ _ _ State.Ranged.takeStatus)
  case legacy m => exact h.of_ranged (hranged.takeReply _ _ _ State.Ranged.takeLegacy)
  case setpoint => exact h.of_ranged hranged.beginSetpoint
  case setpointAck m => exact h.of_ranged (hranged.takeAck m)
  case failedAttempt => exact h.of_ranged hranged.failAttempt
  case meteringTick => exact h.of_ranged (hranged.meteringTick h.plantOk)
  case cut i => exact h.of_ranged (hranged.cutSlot i)
  case idleRelease i => exact h.of_ranged (hranged.idleSlot i)
  case passBegin => exact h.of_ranged (hranged.beginPass hlists)
  case passCompletion => exact h.of_ranged hranged.completePass
  case recoveryHoldExpiry => exact h.of_ranged hranged.recover

theorem elapse (h : s.FiguresOk) : s.elapse.FiguresOk :=
  ⟨State.limitsOk_iff.mpr ⟨h.plantOk, State.everyRecord_of_map h.ranged.records rfl fun _ hok => hok.elapse⟩,
    h.channels.map rfl fun _ hc => hc.elapse⟩

end State.FiguresOk

theorem State.released_figuresOk (m n : Bool) (waiting : List Instr) :
    State.FiguresOk { State.released m n with pending := waiting } := by
  obtain ⟨-, -, -, -, hlimits, -, -, -, -, -, hchannels⟩ := resetIsLawful
  have hreset : State.reset.FiguresOk := ⟨hlimits, hchannels⟩
  exact hreset.view rfl

/-! ### The step lemma -/

/-- What a command leads from `P` to `Q`: `exec_keeps` for a law that needs another one's help. -/
theorem exec_leads {P Q : State → Prop} (hdiscard : ∀ s, P s → Q s) (hreset : ∀ s, P s → Q s.intoReset)
    (hrelease : ∀ (s : State) m n, P s → Q { State.released m n with pending := s.pending })
    (hrequest : ∀ p r (s : State) q, P s → Q ((replyOf p r s).state.setPort p q))
    (hevent : ∀ c f s, eventOf c = some f → P s → Q (f s))
    (c : Instr) (s t : State) (hs : P s) (h : exec c s = .next t) : Q t := by
  rcases exec_cases c with rfl | ⟨m, n, rfl⟩ | ⟨p, r, rfl⟩ | ⟨f, hf⟩
  · cases h
    exact hreset s hs
  · cases h
    exact hrelease s m n hs
  · rw [exec_request] at h
    unfold applyRequest at h
    repeat' split at h
    · cases h
      exact hdiscard _ hs
    · cases h
      exact hrequest _ _ _ _ hs
    · cases h
      exact hdiscard _ hs
  · rw [exec_event hf] at h
    cases h
    split
    · exact hdiscard s hs
    · exact hevent c f s hf hs

theorem step_leads {P Q : State → Prop} (hdiscard : ∀ s, P s → Q s) (hexec : ∀ c s t, P s → exec c s = .next t → Q t)
    (helapse : ∀ s, P s → Q s.elapse) (htake : ∀ s rest, P s → P { s with pending := rest })
    (s t : State) (hs : P s) (h : step s = .next t) : Q t := by
  unfold step at h
  split at h
  · exact hexec _ _ _ (htake _ _ hs) h
  · unfold idleStep at h
    repeat' split at h
    · cases h
      exact hdiscard _ hs
    · exact hexec _ _ _ hs h
    · cases h
      exact helapse s hs

/-- Every command keeps the ranges, in a part whose lists name the SHED records. -/
theorem exec_figuresOk : ∀ (c : Instr) (s t : State), s.listsOk ∧ s.FiguresOk → exec c s = .next t → t.FiguresOk :=
  exec_leads (fun _ ⟨_, hs⟩ => hs) (fun _ ⟨_, hs⟩ => hs.view rfl)
    (fun s m n _ => State.released_figuresOk m n s.pending)
    (fun p r _ _ ⟨_, hs⟩ => (hs.request p r).view (by simp)) (fun _ _ _ hf ⟨hlists, hs⟩ => hs.event hlists hf)

/-- Settles O59: a record's timers and counts end at their limits, a readmitted record is SHED before, and the
configuring requests clamp what they write. -/
theorem figuresStayInRange : Obligations.FiguresStayInRange := by
  intro s t hlists hlimits hchannels hstep
  have hfigures : t.FiguresOk := step_leads (P := fun s => s.listsOk ∧ s.FiguresOk) (fun _ ⟨_, hs⟩ => hs) exec_figuresOk
    (fun _ ⟨_, hs⟩ => hs.elapse) (fun _ _ ⟨hlists, hs⟩ => ⟨hlists, hs.view rfl⟩) s t ⟨hlists, hlimits, hchannels⟩ hstep
  exact ⟨hfigures.limits, hfigures.channels⟩

end Sys2Proof.Machine
end

section
/-! ## The figures of a pass (R116, R125 to R132)

A stage moves power from a pool to its shares: what is granted and what is left make the pool it began with. -/

namespace Sys2Proof.Machine

open Sys2Proof

/-! ### The pools of the gas stages (R113 to R116) -/

theorem classPass_left_le (pool : Nat) (cs : List Cand) : (classPass pool cs).2 ≤ pool := by
  have := classPass_total pool cs
  omega

theorem Stages.gradeBound_pools_le (v : View) (c : Nat) (st : Stages) (g k : Grade) :
    (st.gradeBound v c k).pools.get g ≤ st.pools.get g := by
  show (st.pools.set k _).get g ≤ _
  rw [PerGrade.get_set]
  split
  · next heq => exact heq ▸ classPass_left_le _ _
  · exact le_rfl

theorem drawn_le (pools : PerGrade Nat) (sp : Split) (g : Grade) : (drawn pools sp).get g ≤ pools.get g := by
  cases g <;> exact Nat.sub_le _ _

theorem View.drawAll_pools_le (v : View) (shares : List Share) (g : Grade) (is : List Nat) :
    ∀ pools, (v.drawAll shares is pools).1.get g ≤ pools.get g := by
  induction is with
  | nil => exact fun _ => le_rfl
  | cons i is ih => exact fun pools => (ih _).trans (drawn_le pools _ g)

theorem Stages.gasClass_pools_le (v : View) (c : Nat) (st : Stages) (g : Grade) :
    (st.gasClass v c).pools.get g ≤ st.pools.get g := by
  have hgrades := List.foldlRecOn ([.tg, .og, .vg] : List Grade) (Stages.gradeBound v c)
    (motive := fun t => t.pools.get g ≤ st.pools.get g) le_rfl fun t ht k _ =>
      (Stages.gradeBound_pools_le v c t g k).trans ht
  exact (v.drawAll_pools_le _ g _ _).trans hgrades

theorem View.gasStages_pools_le (v : View) (g : Grade) : v.gasStages.pools.get g ≤ (v.grades.get g).available := by
  have hfirst : (v.grades.map (·.available)).get g = (v.grades.get g).available := PerGrade.get_map _ _ _
  exact List.foldlRecOn (b := ⟨v.grades.map (·.available), [], [], []⟩) [0, 1, 2, 3] (Stages.gasClass v)
    (motive := fun st => st.pools.get g ≤ (v.grades.get g).available) hfirst.le fun st hst c _ =>
      (Stages.gasClass_pools_le v c st g).trans hst

/-- What the stages drew of a grade and what they left are its available power (R116). -/
theorem View.result_grades_ok (v : View) (g : Grade) : (v.result.grades.get g).ok := by
  have hresults : v.result.grades.get g = v.gradeResults v.gasStages.pools g := PerGrade.get_ofFn _ g
  rw [hresults]
  exact Nat.sub_add_cancel (v.gasStages_pools_le g)

/-! ### The heat pool and the balance (R125 to R132) -/

/-- What a heat stage has granted and what it has left. -/
def HeatStages.total (st : HeatStages) : Nat := (st.shares.map (·.grant)).sum + st.pool

theorem HeatStages.total_heatClass (v : View) (st : HeatStages) (c : Nat) : (st.heatClass v c).total = st.total := by
  have := classPass_total st.pool (v.heatCands c)
  simp only [HeatStages.total, HeatStages.heatClass, List.map_append, List.sum_append]
  omega

theorem View.heatStages_total (v : View) (pool : Nat) : (v.heatStages pool).total = pool :=
  List.foldlRecOn [0, 1, 2, 3] (HeatStages.heatClass v) (motive := fun st => st.total = pool)
    (Nat.zero_add pool) fun st hst c _ => (HeatStages.total_heatClass v st c).trans hst

theorem View.heatStages_granted_le (v : View) (pool : Nat) :
    ((v.heatStages pool).shares.map (·.grant)).sum ≤ pool :=
  (Nat.le_add_right _ _).trans (v.heatStages_total pool).le

theorem View.extractionCap_le (v : View) (steam : Nat) : v.extractionCap steam ≤ v.extractionMax steam := by
  unfold View.extractionCap
  split
  · exact le_rfl
  · exact min_le_right _ _

/-- The figures of a pass stand in their order (R132): the heat stages grant no more than the heat pool. -/
theorem View.result_balance_ok (v : View) : v.result.balance.ok := by
  have hgranted : v.result.balance.heatGranted ≤ v.result.balance.heatPool := v.heatStages_granted_le _
  exact ⟨min_le_right _ _, v.extractionCap_le _, hgranted.trans (min_le_right _ _), hgranted⟩

theorem View.recovered_none {v : View} (h : v.loop = none) : v.recovered = 0 := by rw [View.recovered, h]

theorem View.recovered_some {v : View} {l : LoopView} (h : v.loop = some l) :
    v.recovered = min 2147483647 (l.flow.toNat * v.cp * (l.supply - l.return_).toNat / 360000) := by
  rw [View.recovered, h]
  rfl

theorem View.extractionCap_heatFirst {v : View} (h : v.policy = .heatFirst) (steam : Nat) :
    v.extractionCap steam = v.extractionMax steam := by rw [View.extractionCap, h]

theorem View.extractionCap_exportFirst {v : View} (h : v.policy = .exportFirst) (steam : Nat) :
    v.extractionCap steam = min (v.extractionMax steam) (steam - v.steamNeeded) := by
  rw [View.extractionCap, h, min_comm]

/-! ### The shortfall (R133) -/

theorem View.shortfall_short {v : View} (h : v.result.balance.exportCeiling + v.exportTolerance < v.commitment) :
    v.result.balance.shortfall = v.commitment - v.result.balance.exportCeiling := if_pos h

theorem View.shortfall_met {v : View} (h : v.commitment ≤ v.result.balance.exportCeiling + v.exportTolerance) :
    v.result.balance.shortfall = 0 := if_neg (Nat.not_lt.mpr h)

end Sys2Proof.Machine
end

section
/-! ## A short pass is announced (R133) -/

namespace Sys2Proof.Machine

open Sys2Proof

/-- Sheds raise no notice but that of a level that rises (R142). -/
theorem State.notice_takeSheds (s : State) (ms : List ShedMember) {k : NoticeKind} (hk : k ≠ .curtailUp) :
    (s.takeSheds ms).notice k = s.notice k := by
  by_cases h : s.level < observedLevel ms
  · rw [State.takeSheds_above h, State.push_eq, State.notice_raise, if_neg hk, State.shedAt]
    exact State.notice_of_notices (by rw [shedEach_frame, shedEach_frame]) k
  · rw [State.takeSheds_within h]
    exact State.notice_of_notices (by rw [shedEach_frame]) k

/-- The outcome of a pass raises no notice but those of a level that moves. -/
theorem State.notice_completed_outcome (s : State) (p : Pass) {k : NoticeKind} (hup : k ≠ .curtailUp)
    (hdown : k ≠ .curtailDown) : (s.completed p).notice k = (s.figuresWritten p).notice k :=
  calc (s.completed p).notice k = (s.judged p).recover.notice k :=
        State.notice_of_notices (by rw [State.completed_eq]) k
    _ = (s.judged p).notice k := (s.judged p).notice_recover hdown
    _ = ((s.figuresWritten p).takeSheds p.shedMembers).notice k :=
        State.notice_of_notices (by rw [State.judged, State.judgeTimer]) k
    _ = (s.figuresWritten p).notice k := State.notice_takeSheds _ _ hup

/-- EXPORT_SHORT is raised with the shortfall when there is one, and is left as it is when there is none. -/
theorem State.notice_exportShort_completed (s : State) (p : Pass) :
    (s.completed p).notice .exportShort =
      if 0 < p.view.result.balance.shortfall then
        (s.notice .exportShort).raise p.view.result.balance.shortfall
      else s.notice .exportShort := by
  have hbefore : ((s.grantsWritten p).writeResults p.view.result).notice .exportShort = s.notice .exportShort :=
    State.notice_of_notices (by rw [State.writeResults, State.grantsWritten_frame]) _
  have hwritten : (s.figuresWritten p).notice .exportShort =
      (((s.grantsWritten p).writeResults p.view.result).writeBalance p.view.result.balance).notice .exportShort := rfl
  rw [State.notice_completed_outcome s p (by decide) (by decide), hwritten, State.writeBalance, ← hbefore]
  split
  · rw [State.notice_raise, if_pos rfl]
    rfl
  · rfl

theorem State.balance_completed (s : State) (p : Pass) : (s.completed p).balance = p.view.result.balance := by
  rw [State.completed_frame]

/-- Settles O31: a short pass's shortfall is above its tolerance and so above 0, which is what raises the notice. -/
theorem shortPassesAreJudged : Obligations.ShortPassesAreJudged := by
  refine ⟨fun s ps hrun hpass => ⟨s.completed ps, execPassCompletion_eq hrun hpass, ?_⟩,
    fun s subject => decide_eq_true_iff⟩
  rw [State.balance_completed, State.notice_exportShort_completed]
  refine ⟨rfl, fun hshort => ?_, fun hmet => ?_⟩
  · have hshortfall := View.shortfall_short hshort
    exact ⟨hshortfall, by omega, if_pos (by omega)⟩
  · have hshortfall := View.shortfall_met hmet
    exact ⟨hshortfall, if_neg (by omega)⟩

end Sys2Proof.Machine
end

section
/-! ## What writes the results of a pass (R119, R134, R138)

The law of the results reads the balance figures and the last results of each grade. A completion and RESTART alone write
them in the running part. -/

namespace Sys2Proof.Machine

open Sys2Proof

/-- What the law of the results reads. -/
def State.resultView (s : State) : Balance × PerGrade GradeResults := (s.balance, s.grades.map (·.last))

theorem State.resultView_congr {s t : State} (hbalance : t.balance = s.balance) (hgrades : t.grades = s.grades) :
    t.resultView = s.resultView := by rw [resultView, resultView, hbalance, hgrades]

theorem State.resultsOk.view {s t : State} (h : s.resultsOk) (hview : t.resultView = s.resultView) : t.resultsOk := by
  obtain ⟨hbalanceOk, hlastOk⟩ := h
  obtain ⟨hbalance, hgrades⟩ := Prod.mk.inj hview
  refine ⟨hbalance ▸ hbalanceOk, fun g => ?_⟩
  have hlast := congrArg (·.get g) hgrades
  simp only [PerGrade.get_map] at hlast
  exact hlast ▸ hlastOk g

/-! ### The shared operations -/

@[simp] theorem State.resultView_setPort (s : State) (p : PortId) (q : Port) :
    (s.setPort p q).resultView = s.resultView := State.resultView_congr (by simp) (by simp)

@[simp] theorem State.resultView_putOfftake (s : State) (i : Nat) (o : Option Offtake) :
    (s.putOfftake i o).resultView = s.resultView := rfl

@[simp] theorem State.resultView_raise (s : State) (k : NoticeKind) (n : Nat) :
    (s.raise k n).resultView = s.resultView := rfl

@[simp] theorem State.resultView_dropEntry (s : State) (i : Nat) : (s.dropEntry i).resultView = s.resultView := rfl

@[simp] theorem State.resultView_pollEnded (s : State) : s.pollEnded.resultView = s.resultView := rfl

@[simp] theorem State.resultView_setpointEnded (s : State) : s.setpointEnded.resultView = s.resultView := rfl

@[simp] theorem State.resultView_modOfftake (s : State) (i : Nat) (f : Offtake → Offtake) :
    (s.modOfftake i f).resultView = s.resultView := (congrArg State.resultView (s.modOfftake_frame i f) :)

@[simp] theorem State.resultView_handGrant (s : State) (i : Nat) : (s.handGrant i).resultView = s.resultView :=
  (congrArg State.resultView (s.handGrant_frame i) :)

@[simp] theorem State.resultView_free (s : State) (i : Nat) : (s.free i).resultView = s.resultView :=
  (congrArg State.resultView (s.free_frame i) :)

@[simp] theorem State.resultView_leaveLinked (s : State) (i : Nat) : (s.leaveLinked i).resultView = s.resultView :=
  (congrArg State.resultView (s.leaveLinked_frame i) :)

@[simp] theorem State.resultView_enterQuiet (s : State) (i : Nat) : (s.enterQuiet i).resultView = s.resultView :=
  (congrArg State.resultView (s.enterQuiet_frame i) :)

@[simp] theorem State.resultView_linkLoss (s : State) (i : Nat) : (s.linkLoss i).resultView = s.resultView :=
  s.resultView_enterQuiet i

@[simp] theorem State.resultView_joinSupply (s : State) (i : Nat) : (s.joinSupply i).resultView = s.resultView :=
  (congrArg State.resultView (s.joinSupply_frame i) :)

@[simp] theorem State.resultView_retire (s : State) (i : Nat) (o : Offtake) : (s.retire i o).resultView = s.resultView :=
  (congrArg State.resultView (s.retire_frame i o) :)

@[simp] theorem State.resultView_cutRecord (s : State) (i : Nat) : (s.cutRecord i).resultView = s.resultView :=
  (congrArg State.resultView (s.cutRecord_frame i) :)

@[simp] theorem State.resultView_releaseIdle (s : State) (i : Nat) : (s.releaseIdle i).resultView = s.resultView :=
  (congrArg State.resultView (s.releaseIdle_frame i) :)

@[simp] theorem State.resultView_push (s : State) (level : Nat) (o : Origin) (c : Cause) (lead : List Nat) :
    (s.push level o c lead).resultView = s.resultView := (congrArg State.resultView (s.push_frame level o c lead) :)

@[simp] theorem State.resultView_pop (s : State) : s.pop.resultView = s.resultView :=
  (congrArg State.resultView s.pop_frame :)

@[simp] theorem State.resultView_modAccount (s : State) (n : Nat) (f : Account → Account) :
    (s.modAccount n f).resultView = s.resultView := State.resultView_congr (by simp) (by simp)

@[simp] theorem State.resultView_bindCount (s : State) (n : Option Nat) : (s.bindCount n).resultView = s.resultView :=
  (congrArg State.resultView (s.bindCount_frame n) :)

@[simp] theorem State.resultView_unbindCount (s : State) (n : Option Nat) :
    (s.unbindCount n).resultView = s.resultView := (congrArg State.resultView (s.unbindCount_frame n) :)

@[simp] theorem State.resultView_setExport (s : State) (n : Option Nat) : (s.setExport n).resultView = s.resultView :=
  (congrArg State.resultView (s.setExport_frame n) :)

@[simp] theorem State.resultView_repriceBand (s : State) (n : Nat) (b : Band) :
    (s.repriceBand n b).resultView = s.resultView := by
  unfold State.repriceBand
  dsimp only
  repeat' split
  all_goals simp

/-- The results of a grade stand when the grade is rewritten in another field. -/
theorem State.resultView_putGrade {s : State} {g : Grade} {r : GradeRecord} (h : r.last = (s.grades.get g).last) :
    (s.putGrade g r).resultView = s.resultView := by
  cases g <;> simp [State.resultView, State.putGrade, PerGrade.map, PerGrade.set, h] <;> rfl

@[simp] theorem State.resultView_judgeReserve (s : State) (g : Grade) :
    (s.judgeReserve g).resultView = s.resultView := by
  have hflag : (s.putGrade g { s.grades.get g with inReserve := s.judgedInReserve (s.grades.get g) }).resultView =
      s.resultView := State.resultView_putGrade rfl
  unfold State.judgeReserve
  dsimp only
  split
  · exact hflag
  · exact hflag

/-! ### Events -/

theorem State.resultView_failAttempt (s : State) : s.failAttempt.resultView = s.resultView := by
  unfold State.failAttempt
  dsimp only
  repeat' split
  · simp
  all_goals rfl

/-- A reply writes no results when what it is read to does not. -/
theorem State.resultView_takeReply {α : Type} (s : State) (addr : Byte) (data : Option α)
    {f : State → Nat → α → State} (hf : ∀ t i d, (f t i d).resultView = t.resultView) :
    (s.takeReply addr data f).resultView = s.resultView := by
  unfold State.takeReply
  repeat' split
  · exact hf s.pollEnded _ _
  · rfl
  · rfl
  · exact s.resultView_failAttempt
  · rfl

theorem State.resultView_takeAdvert (s : State) (i : Nat) (a : AdvertData) :
    (s.takeAdvert i a).resultView = s.resultView := by
  dsimp only [State.takeAdvert, State.confirmAdvert, State.boundAdvert, State.listenAdvert]
  repeat' split
  all_goals simp

theorem State.resultView_takeStatus (s : State) (i : Nat) (c : CallData) :
    (s.takeStatus i c).resultView = s.resultView := by
  unfold State.takeStatus
  split <;> simp

theorem State.resultView_takeLegacy (s : State) (i : Nat) (c : CallData) :
    (s.takeLegacy i c).resultView = s.resultView := by
  dsimp only [State.takeLegacy, State.listenLegacy]
  repeat' split
  all_goals simp

theorem State.resultView_takeAck (s : State) (m : LinkMsg) : (s.takeAck m).resultView = s.resultView := by
  dsimp only [State.takeAck, State.acknowledge]
  repeat' split
  all_goals simp [State.resultView_failAttempt]

theorem State.resultView_beginPass (s : State) : s.beginPass.resultView = s.resultView := by
  have hread : s.readmit.resultView = s.resultView := (congrArg State.resultView s.readmit_frame :)
  unfold State.beginPass
  split
  · rfl
  · calc
      _ = (([.tg, .og, .vg] : List Grade).foldl State.judgeReserve s.readmit).resultView := rfl
      _ = s.resultView := by simp [hread]

/-- No event but a completion writes the results of a pass. -/
theorem event_resultView {c : Instr} (hc : c ≠ .passCompletion) {f : State → State} (hf : eventOf c = some f)
    (s : State) : (f s).resultView = s.resultView := by
  cases c <;> simp only [eventOf, Option.some.injEq, reduceCtorEq] at hf <;> subst hf
  case writeFrame p x => simp
  case readAnswer p x => simp
  case sampleMessage bytes =>
    dsimp only
    split
    · next d _ => exact (congrArg State.resultView (s.takeSample_frame d) :)
    · rfl
  case ageExpiry n => exact (congrArg State.resultView (s.ageExpiry_frame n) :)
  case staleTimerExpiry n => exact (congrArg State.resultView (s.staleExpiry_frame n) :)
  case quietHoldExpiry i | silenceExpiry i =>
    dsimp only [State.quietExpiry, State.silenceExpiry]
    repeat' split
    all_goals simp
  case poll | pollTimeout | setpoint =>
    dsimp only [State.beginPoll, State.pollTimedOut, State.beginSetpoint]
    repeat' split
    all_goals rfl
  case advert m => exact s.resultView_takeReply _ _ State.resultView_takeAdvert
  case status m => exact s.resultView_takeReply _ _ State.resultView_takeStatus
  case legacy m => exact s.resultView_takeReply _ _ State.resultView_takeLegacy
  case setpointAck m => exact s.resultView_takeAck m
  case failedAttempt => exact s.resultView_failAttempt
  case meteringTick =>
    exact State.resultView_congr (by rw [State.meteringTick_frame]) (by rw [State.meteringTick_frame])
  case cut i | idleRelease i =>
    dsimp only [State.cutSlot, State.idleSlot]
    repeat' split
    all_goals simp
  case passBegin => exact s.resultView_beginPass
  case passCompletion => exact absurd rfl hc
  case recoveryHoldExpiry => exact (congrArg State.resultView s.recover_frame :)

/-! ### Requests -/

/-- No request but RESTART writes the results of a pass. -/
theorem replyOf_resultView (p : PortId) {r : Request} (hr : r ≠ .restart) (s : State) :
    (replyOf p r s).state.resultView = s.resultView := by
  cases r
  case restart => exact absurd rfl hr
  case setGrade b =>
    dsimp only [replyOf, reqSetGrade]
    repeat' split
    iterate 5 · rfl
    · exact State.resultView_putGrade rfl
  case setWindow b | clearWindow w =>
    dsimp only [replyOf, reqSetWindow, reqClearWindow]
    repeat' split
    all_goals rfl
  case readPlant | readBalance | readCurtail => rfl
  case findOfftake t | readOfftake i | readChannel n | readGrade g | readWindow w | readAccount n | readTariff i
      | readNotices =>
    dsimp only [replyOf, reqFindOfftake, reqReadOfftake, reqReadChannel, reqReadGrade, reqReadWindow, reqReadAccount,
      reqReadTariff, reqReadNotices]
    split <;> rfl
  case createOfftake b | setChannel b | setPlant b | setCommitment v | openAccount n k key | retireAccount n
      | writeTariff b | invalidateTariff i | probeTariff m key | setSeason n | setBand b | clearNotice c
      | setRouting port add drop | setNoticeMode m =>
    dsimp only [replyOf, reqCreateOfftake, reqSetChannel, reqSetPlant, reqSetCommitment, reqOpenAccount,
      reqRetireAccount, State.closeEntry, reqWriteTariff, reqInvalidateTariff, reqProbeTariff, reqSetSeason, reqSetBand,
      reqClearNotice, reqSetRouting, reqSetNoticeMode]
    repeat' split
    all_goals rfl
  case amendOfftake b | retireOfftake i t | renegotiate i t | release i t | pushCurtail level | popCurtail
      | amendAccount n key | bindAccount i t n | unbindAccount i t | setExportAccount n | closePeriod n
      | takeStatement n | reprice n =>
    dsimp only [replyOf, reqAmendOfftake, reqRetireOfftake, reqRenegotiate, reqRelease, reqPushCurtail, reqPopCurtail,
      reqAmendAccount, reqBindAccount, reqUnbindAccount, reqSetExportAccount, reqClosePeriod, reqTakeStatement,
      reqReprice]
    repeat' split
    all_goals simp

end Sys2Proof.Machine
end

section
/-! ### Every step keeps the figures of a pass consistent (R116, R132) -/

namespace Sys2Proof.Machine

open Sys2Proof

theorem State.released_resultsOk (m n : Bool) (waiting : List Instr) :
    State.resultsOk { State.released m n with pending := waiting } := by
  obtain ⟨-, -, -, -, -, -, -, -, -, hresults, -⟩ := resetIsLawful
  exact hresults.view rfl

/-- RESTART sets the results to their reset values (R100, R138). -/
theorem State.restarted_resultsOk (s : State) : s.restarted.resultsOk := by
  refine (State.released_resultsOk true false []).view ?_
  rw [State.resultView, State.restarted_frame]
  rfl

theorem State.last_completed (s : State) (p : Pass) (g : Grade) :
    ((s.completed p).grades.get g).last = p.view.result.grades.get g := by
  rw [State.completed_frame]
  exact congrArg GradeRecord.last (PerGrade.get_ofFn _ g)

/-- A completion writes the results of its pass, whose figures are consistent for every view. -/
theorem State.completed_resultsOk (s : State) (p : Pass) : (s.completed p).resultsOk := by
  refine ⟨?_, fun g => ?_⟩
  · rw [State.balance_completed]
    exact p.view.result_balance_ok
  · rw [State.last_completed]
    exact p.view.result_grades_ok g

namespace State.resultsOk

variable {s : State}

theorem completePass (h : s.resultsOk) : s.completePass.resultsOk := by
  cases hp : s.pass with
  | none => rwa [State.completePass_none hp]
  | some p =>
    rw [State.completePass_some hp]
    exact s.completed_resultsOk p

theorem request (h : s.resultsOk) (p : PortId) (r : Request) : (replyOf p r s).state.resultsOk := by
  by_cases hr : r = .restart
  · subst hr
    dsimp only [replyOf, reqRestart]
    split
    · exact h
    · exact s.restarted_resultsOk
  · exact h.view (replyOf_resultView p hr s)

theorem event (h : s.resultsOk) {c : Instr} {f : State → State} (hf : eventOf c = some f) : (f s).resultsOk := by
  by_cases hc : c = .passCompletion
  · subst hc
    cases hf
    exact h.completePass
  · exact h.view (event_resultView hc hf s)

end State.resultsOk

theorem step_keeps_resultsOk (s t : State) (hs : s.resultsOk) (h : step s = .next t) : t.resultsOk :=
  step_keeps (exec_keeps (P := State.resultsOk) (fun _ hs => hs.view rfl) (fun _ m n _ => State.released_resultsOk m n _)
      (fun p r _ _ _ _ hs => (hs.request p r).view (by simp)) (fun _ _ _ hf _ hs => hs.event hf))
    (fun _ hs => hs.view rfl) (fun _ _ hs => hs.view rfl) s t hs h

/-- Settles O58: only a completion and RESTART write the results; the completion writes `balanceOf`, whose figures are
the formulas. -/
theorem passResultsStayConsistent : Obligations.PassResultsStayConsistent := by
  refine ⟨step_keeps_resultsOk, fun v => ⟨rfl, View.recovered_none, fun _ => View.recovered_some, rfl,
    fun h => View.extractionCap_heatFirst h _, fun h => View.extractionCap_exportFirst h _, rfl, rfl, rfl, rfl, rfl,
    rfl, rfl, rfl, rfl⟩⟩

end Sys2Proof.Machine
end

section
/-! ## Every step keeps the levels of the curtailment stack in order (R139)

The law reads the levels of the contexts alone (`State.levels`). Only a push, a pop and RESTART change them; every other
operation writes shed lists at most. -/

namespace Sys2Proof.Machine

open Sys2Proof

/-- The levels of the contexts, the top first. -/
def State.levels (s : State) : List Nat := s.stack.map (·.level)

theorem State.levels_of_stack {s t : State} (h : t.stack = s.stack) : t.levels = s.levels :=
  congrArg (List.map Context.level) h

theorem State.levels_of_serviceView {s t : State} (h : t.serviceView = s.serviceView) : t.levels = s.levels :=
  State.levels_of_stack (congrArg (·.2.2.2.1) h :)

theorem levels_appendedTop (stack : List Context) (slots : List Nat) :
    (appendedTop stack slots).map (·.level) = stack.map (·.level) := by
  cases stack <;> rfl

theorem State.levels_of_appendedTop {s t : State} {slots : List Nat} (h : t.stack = appendedTop s.stack slots) :
    t.levels = s.levels := by
  rw [State.levels, h, levels_appendedTop, State.levels]

theorem levels_foldl {α : Type} {f : State → α → State} (hf : ∀ t a, (f t a).levels = t.levels) (l : List α)
    (s : State) : (l.foldl f s).levels = s.levels :=
  List.foldlRecOn l f (motive := fun t => t.levels = s.levels) rfl fun t ht a _ => (hf t a).trans ht

/-! ### The shared operations -/

@[simp] theorem State.levels_setPort (s : State) (p : PortId) (q : Port) : (s.setPort p q).levels = s.levels :=
  State.levels_of_stack (by simp)

@[simp] theorem State.levels_raise (s : State) (k : NoticeKind) (n : Nat) : (s.raise k n).levels = s.levels := rfl

@[simp] theorem State.levels_putOfftake (s : State) (i : Nat) (o : Option Offtake) :
    (s.putOfftake i o).levels = s.levels := rfl

@[simp] theorem State.levels_modOfftake (s : State) (i : Nat) (f : Offtake → Offtake) :
    (s.modOfftake i f).levels = s.levels := State.levels_of_stack (by simp)

@[simp] theorem State.levels_dropEntry (s : State) (i : Nat) : (s.dropEntry i).levels = s.levels := rfl

@[simp] theorem State.levels_pollEnded (s : State) : s.pollEnded.levels = s.levels := rfl

@[simp] theorem State.levels_setpointEnded (s : State) : s.setpointEnded.levels = s.levels := rfl

@[simp] theorem State.levels_handGrant (s : State) (i : Nat) : (s.handGrant i).levels = s.levels :=
  State.levels_of_stack (by simp)

@[simp] theorem State.levels_withdraw (s : State) (i : Nat) (st : Supply) : (s.withdraw i st).levels = s.levels :=
  State.levels_of_stack (by rw [State.withdraw_frame])

@[simp] theorem State.levels_free (s : State) (i : Nat) : (s.free i).levels = s.levels :=
  State.levels_of_stack (by rw [State.free_frame])

@[simp] theorem State.levels_leaveLinked (s : State) (i : Nat) : (s.leaveLinked i).levels = s.levels :=
  State.levels_of_stack (by rw [State.leaveLinked_frame])

@[simp] theorem State.levels_enterQuiet (s : State) (i : Nat) : (s.enterQuiet i).levels = s.levels :=
  State.levels_of_stack (by rw [State.enterQuiet_frame])

@[simp] theorem State.levels_linkLoss (s : State) (i : Nat) : (s.linkLoss i).levels = s.levels := s.levels_enterQuiet i

@[simp] theorem State.levels_releaseIdle (s : State) (i : Nat) : (s.releaseIdle i).levels = s.levels :=
  State.levels_of_stack (by rw [State.releaseIdle_frame])

@[simp] theorem State.levels_bindCount (s : State) (n : Option Nat) : (s.bindCount n).levels = s.levels :=
  State.levels_of_stack (by rw [State.bindCount_frame])

@[simp] theorem State.levels_unbindCount (s : State) (n : Option Nat) : (s.unbindCount n).levels = s.levels :=
  State.levels_of_stack (by rw [State.unbindCount_frame])

/-! The operations that write shed lists write no level (R153, R155). -/

@[simp] theorem State.levels_unlist (s : State) (i : Nat) : (s.unlist i).levels = s.levels :=
  List.map_map.trans rfl

@[simp] theorem State.levels_appendTop (s : State) (i : Nat) : (s.appendTop i).levels = s.levels :=
  State.levels_of_appendedTop (by rw [State.appendTop_eq])

@[simp] theorem State.levels_joinSupply (s : State) (i : Nat) : (s.joinSupply i).levels = s.levels := by
  unfold State.joinSupply
  repeat' split
  all_goals simp

@[simp] theorem State.levels_cutRecord (s : State) (i : Nat) : (s.cutRecord i).levels = s.levels := by
  simp [State.cutRecord]

@[simp] theorem State.levels_retire (s : State) (i : Nat) (o : Offtake) : (s.retire i o).levels = s.levels := by
  simp [State.retire]

/-! ### Events -/

theorem State.levels_failAttempt (s : State) : s.failAttempt.levels = s.levels := by
  unfold State.failAttempt
  dsimp only
  repeat' split
  · simp
  all_goals rfl

/-- A reply writes no level when what it is read to does not. -/
theorem State.levels_takeReply {α : Type} (s : State) (addr : Byte) (data : Option α) {f : State → Nat → α → State}
    (hf : ∀ t i d, (f t i d).levels = t.levels) : (s.takeReply addr data f).levels = s.levels := by
  unfold State.takeReply
  repeat' split
  · exact hf s.pollEnded _ _
  · rfl
  · rfl
  · exact s.levels_failAttempt
  · rfl

theorem State.levels_takeAdvert (s : State) (i : Nat) (a : AdvertData) : (s.takeAdvert i a).levels = s.levels := by
  dsimp only [State.takeAdvert, State.confirmAdvert, State.boundAdvert, State.listenAdvert]
  repeat' split
  all_goals simp

theorem State.levels_takeStatus (s : State) (i : Nat) (c : CallData) : (s.takeStatus i c).levels = s.levels := by
  unfold State.takeStatus
  split <;> simp

theorem State.levels_takeLegacy (s : State) (i : Nat) (c : CallData) : (s.takeLegacy i c).levels = s.levels := by
  dsimp only [State.takeLegacy, State.listenLegacy]
  repeat' split
  all_goals simp

theorem State.levels_takeAck (s : State) (m : LinkMsg) : (s.takeAck m).levels = s.levels := by
  dsimp only [State.takeAck, State.acknowledge]
  repeat' split
  all_goals simp [State.levels_failAttempt]

theorem State.levels_supervise (s : State) (i : Nat) : (s.supervise i).levels = s.levels := by
  cases ho : s.offtake i with
  | none => rw [State.supervise_vacant ho]
  | some o =>
    rw [State.supervise_eq ho]
    cases s.judge o with
    | stays o' => rfl
    | cuts o' => exact State.levels_cutRecord _ i
    | releases o' => exact State.levels_releaseIdle _ i

/-- A tick takes slots out of shed lists, and moves no level (R57). -/
theorem State.levels_meteringTick (s : State) : s.meteringTick.levels = s.levels := by
  have hstack : s.meteringTick.stack = (slotNumbers.foldl State.supervise s.metered).stack := by
    rw [State.meteringTick_eq]
  calc s.meteringTick.levels = (slotNumbers.foldl State.supervise s.metered).levels := State.levels_of_stack hstack
    _ = s.metered.levels := levels_foldl State.levels_supervise slotNumbers s.metered
    _ = s.levels := State.levels_of_stack (by rw [State.metered_frame])

/-- Readmission moves slots within the lists (R151, R152). -/
theorem State.levels_beginPass (s : State) : s.beginPass.levels = s.levels := by
  cases hpass : s.pass with
  | some p => rw [State.beginPass, hpass]; rfl
  | none =>
    obtain ⟨_, hmoved⟩ := s.stack_readmit
    have hbegun : s.begun.stack = s.readmit.stack := by rw [State.begun_frame]
    have hstack : s.beginPass.stack = s.begun.stack := by rw [State.beginPass_eq hpass]
    exact State.levels_of_appendedTop (hstack.trans (hbegun.trans hmoved))

/-- No event but a completion and an expiry of the recovery hold moves a level. -/
theorem event_levels {c : Instr} (hcompletion : c ≠ .passCompletion) (hexpiry : c ≠ .recoveryHoldExpiry)
    {f : State → State} (hf : eventOf c = some f) (s : State) : (f s).levels = s.levels := by
  cases c <;> simp only [eventOf, Option.some.injEq, reduceCtorEq] at hf <;> subst hf
  case writeFrame p x => simp
  case readAnswer p x => simp
  case sampleMessage bytes =>
    dsimp only
    split
    · next d _ => exact State.levels_of_serviceView (s.serviceView_takeSample d)
    · rfl
  case ageExpiry n => exact State.levels_of_serviceView (s.serviceView_ageExpiry n)
  case staleTimerExpiry n => exact State.levels_of_serviceView (s.serviceView_staleExpiry n)
  case quietHoldExpiry i | silenceExpiry i =>
    dsimp only [State.quietExpiry, State.silenceExpiry]
    repeat' split
    all_goals simp
  case poll | pollTimeout | setpoint =>
    dsimp only [State.beginPoll, State.pollTimedOut, State.beginSetpoint]
    repeat' split
    all_goals rfl
  case advert m => exact s.levels_takeReply _ _ State.levels_takeAdvert
  case status m => exact s.levels_takeReply _ _ State.levels_takeStatus
  case legacy m => exact s.levels_takeReply _ _ State.levels_takeLegacy
  case setpointAck m => exact s.levels_takeAck m
  case failedAttempt => exact s.levels_failAttempt
  case meteringTick => exact s.levels_meteringTick
  case cut i | idleRelease i =>
    dsimp only [State.cutSlot, State.idleSlot]
    repeat' split
    all_goals simp
  case passBegin => exact s.levels_beginPass
  case passCompletion => exact absurd rfl hcompletion
  case recoveryHoldExpiry => exact absurd rfl hexpiry

/-! ### Requests -/

/-- No request but PUSH_CURTAIL, POP_CURTAIL and RESTART moves a level. -/
theorem replyOf_levels (p : PortId) {r : Request} (hpush : ∀ level, r ≠ .pushCurtail level) (hpop : r ≠ .popCurtail)
    (hrestart : r ≠ .restart) (s : State) : (replyOf p r s).state.levels = s.levels := by
  cases hw : writesRecords r with
  | false => exact State.levels_of_serviceView (replyOf_serviceView p hw hpop s)
  | true =>
    cases r <;> simp only [writesRecords, Bool.false_eq_true] at hw
    case pushCurtail level => exact absurd rfl (hpush level)
    case restart => exact absurd rfl hrestart
    case createOfftake b | setPlant b =>
      dsimp only [replyOf, reqCreateOfftake, reqSetPlant]
      repeat' split
      all_goals rfl
    case amendOfftake b | retireOfftake i t | renegotiate i t | release i t | bindAccount i t n | unbindAccount i t =>
      dsimp only [replyOf, reqAmendOfftake, reqRetireOfftake, reqRenegotiate, reqRelease, reqBindAccount,
        reqUnbindAccount]
      repeat' split
      all_goals simp

end Sys2Proof.Machine
end

section
/-! ### The operations that move the level: pushes, pops and RESTART (R142 to R149, R199) -/

namespace Sys2Proof.Machine

open Sys2Proof

/-- The law of the stack in the levels alone. -/
theorem State.stackOk_iff {s : State} :
    s.stackOk ↔ s.levels.Pairwise (fun upper lower => lower < upper) ∧ ∀ l ∈ s.levels, 1 ≤ l ∧ l ≤ 4 := by
  rw [State.stackOk, State.levels, List.pairwise_map, List.forall_mem_map]

/-- The effective level is the top one (R139). -/
theorem State.level_eq_headD (s : State) : s.level = s.levels.headD 0 := by
  unfold State.level State.levels
  cases s.stack <;> rfl

theorem State.levels_push (s : State) (level : Nat) (origin : Origin) (cause : Cause) (lead : List Nat) :
    (s.push level origin cause lead).levels = level :: s.levels := by
  obtain ⟨hstack, -⟩ := State.push_lists (t := s.push level origin cause lead) rfl
  rw [State.levels, hstack, List.map_cons, State.levels]

theorem State.levels_pop (s : State) : s.pop.levels = s.levels.tail := by
  unfold State.pop State.levels
  cases hstack : s.stack with
  | nil => rw [hstack]; rfl
  | cons c below => cases below <;> rfl

/-- A shed set asks for no level above 4, since no class is below 0 (R143). -/
theorem observedLevel_le_four (ms : List ShedMember) : observedLevel ms ≤ 4 := by
  refine List.foldlRecOn _ _ (motive := (· ≤ 4)) (Nat.zero_le 4) fun top htop level hlevel => ?_
  obtain ⟨m, -, rfl⟩ := List.mem_map.mp hlevel
  exact max_le htop (Nat.sub_le 4 m.prio)

namespace State.stackOk

variable {s t : State}

theorem of_levels (h : s.stackOk) (hlevels : t.levels = s.levels) : t.stackOk := by
  rw [State.stackOk_iff, hlevels]
  exact State.stackOk_iff.mp h

theorem of_empty (h : s.stack = []) : s.stackOk := by simp [State.stackOk, h]

/-- No level of the stack is above the effective one. -/
theorem le_level (h : s.stackOk) : ∀ l ∈ s.levels, l ≤ s.level := by
  obtain ⟨hordered, -⟩ := State.stackOk_iff.mp h
  rw [State.level_eq_headD]
  cases hlevels : s.levels with
  | nil => simp
  | cons top below =>
    rw [hlevels] at hordered
    exact List.forall_mem_cons.mpr ⟨le_rfl, fun l hl => (List.rel_of_pairwise_cons hordered hl).le⟩

/-- A push above the effective level stands above every context (R142). -/
theorem push (h : s.stackOk) {level : Nat} (habove : s.level < level) (hfour : level ≤ 4) (origin : Origin)
    (cause : Cause) (lead : List Nat) : (s.push level origin cause lead).stackOk := by
  obtain ⟨hordered, hrange⟩ := State.stackOk_iff.mp h
  rw [State.stackOk_iff, State.levels_push]
  exact ⟨List.pairwise_cons.mpr ⟨fun l hl => (h.le_level l hl).trans_lt habove, hordered⟩,
    List.forall_mem_cons.mpr ⟨⟨Nat.one_le_of_lt habove, hfour⟩, hrange⟩⟩

theorem pop (h : s.stackOk) : s.pop.stackOk := by
  obtain ⟨hordered, hrange⟩ := State.stackOk_iff.mp h
  rw [State.stackOk_iff, State.levels_pop]
  exact ⟨hordered.tail, fun l hl => hrange l (List.mem_of_mem_tail hl)⟩

theorem recover (h : s.stackOk) : s.recover.stackOk := by
  unfold State.recover
  split
  · exact h.pop
  · exact h

/-- A completion pushes only a level above the effective one (R143, R144). -/
theorem takeSheds (h : s.stackOk) (ms : List ShedMember) : (s.takeSheds ms).stackOk := by
  by_cases habove : s.level < observedLevel ms
  · rw [State.takeSheds_above habove]
    exact h.push habove (observedLevel_le_four ms) _ _ _
  · obtain ⟨hstack, -⟩ := State.takeSheds_within_lists habove
    exact h.of_levels (State.levels_of_appendedTop hstack)

theorem completePass (h : s.stackOk) : s.completePass.stackOk := by
  cases hp : s.pass with
  | none => rwa [State.completePass_none hp]
  | some p =>
    have hfigures : (s.figuresWritten p).stackOk := h.of_levels (State.levels_of_stack (s.stack_figuresWritten p))
    obtain ⟨hstack, -⟩ := State.judgeTimer_lists (State.judged_eq s p)
    have hjudged : (s.judged p).stackOk := (hfigures.takeSheds p.shedMembers).of_levels (State.levels_of_stack hstack)
    have hcompleted : s.completePass.stack = (s.judged p).recover.stack := by
      rw [State.completePass_some hp, State.judged, State.takeOutcome]
    exact hjudged.recover.of_levels (State.levels_of_stack hcompleted)

theorem reqPushCurtail (h : s.stackOk) (p : PortId) (level : Nat) : (reqPushCurtail p level s).state.stackOk := by
  unfold Machine.reqPushCurtail
  repeat' split
  iterate 3 · exact h
  next hrange habove => exact h.push (by omega) (by omega) _ _ _

theorem reqPopCurtail (h : s.stackOk) (p : PortId) : (reqPopCurtail p s).state.stackOk := by
  unfold Machine.reqPopCurtail
  repeat' split
  iterate 3 · exact h
  exact h.pop

theorem reqRestart (h : s.stackOk) (p : PortId) : (reqRestart p s).state.stackOk := by
  unfold Machine.reqRestart
  split
  · exact h
  · exact of_empty (by rw [State.accept_state, State.restarted_frame])

theorem request (h : s.stackOk) (p : PortId) (r : Request) : (replyOf p r s).state.stackOk := by
  cases r
  case pushCurtail level => exact h.reqPushCurtail p level
  case popCurtail => exact h.reqPopCurtail p
  case restart => exact h.reqRestart p
  all_goals exact h.of_levels (replyOf_levels p (by simp) (by simp) (by simp) s)

theorem event (h : s.stackOk) {c : Instr} {f : State → State} (hf : eventOf c = some f) : (f s).stackOk := by
  by_cases hcompletion : c = .passCompletion
  · subst hcompletion
    cases hf
    exact h.completePass
  by_cases hexpiry : c = .recoveryHoldExpiry
  · subst hexpiry
    cases hf
    exact h.recover
  exact h.of_levels (event_levels hcompletion hexpiry hf s)

end State.stackOk

/-- Settles O55: a push stands above the effective level and a pop takes the top, so both keep the order, and no other
step moves a level but to empty the stack. -/
theorem stackStaysOrdered : Obligations.StackStaysOrdered :=
  step_keeps
    (exec_keeps (fun _ hs => hs.of_levels rfl) (fun _ _ _ _ => .of_empty rfl)
      (fun p r _ _ _ _ hs => (hs.request p r).of_levels (by simp)) (fun _ _ _ hf _ hs => hs.event hf))
    (fun _ hs => hs.of_levels rfl) (fun _ _ hs => hs.of_levels rfl)

end Sys2Proof.Machine
end

section
/-! ## The slots of a popped list (R147) -/

namespace Sys2Proof.Machine

open Sys2Proof

/-- R147: slot `i` is handed on no later than slot `j`. -/
def inClassOrder (prio : Nat → Nat) (i j : Nat) : Prop := prio i < prio j ∨ (prio i = prio j ∧ i ≤ j)

theorem inClassOrder.trans {prio : Nat → Nat} {i j k : Nat} (hij : inClassOrder prio i j) (hjk : inClassOrder prio j k) :
    inClassOrder prio i k := by
  unfold inClassOrder at *
  omega

theorem insertByClass_ordered (prio : Nat → Nat) (i : Nat) {js : List Nat} (h : js.Pairwise (inClassOrder prio)) :
    (insertByClass prio i js).Pairwise (inClassOrder prio) := by
  induction js with
  | nil => exact List.pairwise_singleton _ i
  | cons j js ih =>
    obtain ⟨hj, hjs⟩ := List.pairwise_cons.mp h
    unfold insertByClass
    split
    · next hbefore =>
      have hij : inClassOrder prio i j := hbefore.imp_right fun ⟨hclass, hslot⟩ => ⟨hclass, hslot.le⟩
      exact List.pairwise_cons.mpr ⟨List.forall_mem_cons.mpr ⟨hij, fun k hk => hij.trans (hj k hk)⟩, h⟩
    · next hbehind =>
      have hji : inClassOrder prio j i := by
        unfold inClassOrder
        omega
      refine List.pairwise_cons.mpr ⟨fun k hk => ?_, ih hjs⟩
      rcases List.mem_cons.mp ((insertByClass_perm prio i js).mem_iff.mp hk) with rfl | hk
      · exact hji
      · exact hj k hk

/-- The slots of a popped list stand by ascending class, and those of one class in ascending order. -/
theorem sortByClass_ordered (prio : Nat → Nat) (is : List Nat) : (sortByClass prio is).Pairwise (inClassOrder prio) := by
  induction is with
  | nil => exact List.Pairwise.nil
  | cons i is ih => exact insertByClass_ordered prio i ih

/-- A pop onto the context beneath. -/
theorem State.pop_onto {s : State} {c d : Context} {ds : List Context} (h : s.stack = c :: d :: ds) :
    s.pop = ({ s with
      stack := { d with shedList := d.shedList ++
        (sortByClass s.prioOf c.shedList).filter fun i => !admits d.level (s.prioOf i) } :: ds
      readmission := s.readmission ++
        (sortByClass s.prioOf c.shedList).filter fun i => admits d.level (s.prioOf i)
      recoveryTimer := 0 } : State).raise .curtailDown d.level := by
  unfold State.pop
  rw [h]

/-- A pop of the last context: level 0 holds no class out. -/
theorem State.pop_last {s : State} {c : Context} (h : s.stack = [c]) :
    s.pop = ({ s with
      stack := [], readmission := s.readmission ++ sortByClass s.prioOf c.shedList, recoveryTimer := 0 } : State).raise
        .curtailDown 0 := by
  have hall : (sortByClass s.prioOf c.shedList).filter (fun i => admits 0 (s.prioOf i)) =
      sortByClass s.prioOf c.shedList := List.filter_eq_self.mpr fun _ _ => rfl
  unfold State.pop
  rw [h]
  dsimp only
  rw [hall]

/-- Settles O26: the order is that of `sortByClass`, and the two cases are the context beneath and the empty stack. -/
theorem popHandsTheListOn : Obligations.PopHandsTheListOn := by
  intro s c below h
  refine ⟨sortByClass s.prioOf c.shedList, sortByClass_perm _ _, sortByClass_ordered _ _, ?_, ?_⟩
  · rintro d ds rfl
    exact State.pop_onto h
  · rintro rfl
    exact State.pop_last h

/-! ## The recovery timer (R145, R146) -/

/-- Settles O32: the timer is that of `judgeTimer`, and the expiry is `recover`. -/
theorem recoveryIsJudged : Obligations.RecoveryIsJudged := by
  refine ⟨fun s observed interval => ?_, fun s c below hrun hstack => ?_⟩
  · have hother : s.level ≤ observed → (s.judgeTimer observed interval).recoveryTimer = 0 :=
      fun h => if_neg (Nat.not_lt.mpr h)
    refine ⟨rfl, fun h => if_pos h, hother, fun hempty => hother ?_⟩
    rw [State.level, hempty]
    exact Nat.zero_le observed
  · rw [exec_running (f := State.recover) rfl hrun]
    exact ⟨fun hauto htimer => by rw [State.recover_pops hstack hauto htimer],
      fun hno => by rw [State.recover_stays hstack hno]⟩

end Sys2Proof.Machine
end

section
/-! ## One entry of the Account Table rewritten

With distinct numbers, what is done to the account with a number is done to its entry: `State.withAccount` says what the
operations on accounts leave. -/

namespace Sys2Proof.Machine

open Sys2Proof

theorem State.accountAt_withAccount (s : State) {e : Nat} (he : e < 32) (x : Option Account) (k : Nat) :
    (s.withAccount e x).accountAt k = if e = k then x else s.accountAt k := by
  simp only [State.accountAt, State.withAccount, Vector.getElem?_setIfInBounds]
  by_cases hek : e = k
  · subst hek
    simp [he]
  · simp [hek]

theorem State.withAccount_withAccount (s : State) (e : Nat) (x y : Option Account) :
    (s.withAccount e x).withAccount e y = s.withAccount e y := by
  simp [State.withAccount, Vector.setIfInBounds_setIfInBounds]

theorem State.accountEntry_of_accountAt {s : State} (hs : s.numbersDistinct) {e : Nat} {a : Account}
    (ha : s.accountAt e = some a) : s.accountEntry a.number = some e := by
  cases hentry : s.accountEntry a.number with
  | none => exact absurd rfl (State.accountEntry_none.mp hentry e a ha)
  | some k =>
    obtain ⟨b, hb, hnumber⟩ := State.accountEntry_spec hentry
    by_contra hne
    exact hs k e b a hb ha (fun hke => hne (congrArg some hke)) hnumber

/-- The account with a number is rewritten in its entry. -/
theorem State.modAccount_eq_withAccount {s : State} (hs : s.numbersDistinct) {e : Nat} {a : Account}
    (ha : s.accountAt e = some a) (f : Account → Account) : s.modAccount a.number f = s.withAccount e (some (f a)) := by
  rw [State.modAccount_eq (State.accountEntry_of_accountAt hs ha), modAt_eq _ _ _ _ (Option.join_eq_some_iff.mp ha)]
  rfl

/-- An entry whose account is rewritten, and keeps its number, leaves the numbers distinct (R159). -/
theorem State.numbersDistinct_withAccount {s : State} (hs : s.numbersDistinct) {e : Nat} {a b : Account}
    (ha : s.accountAt e = some a) (hnumber : b.number = a.number) : (s.withAccount e (some b)).numbersDistinct := by
  rw [← State.modAccount_eq_withAccount hs ha fun _ => b]
  refine ((State.modAccount_rewrites hs a.number fun _ => b).congr (g := fun x => { b with number := x.number })
    fun _ x _ hx => ?_).distinct hs fun _ => rfl
  rw [hx, ← hnumber]

theorem State.accountAt_withAccount_self {s : State} {e : Nat} {a : Account} (ha : s.accountAt e = some a)
    (x : Option Account) : (s.withAccount e x).accountAt e = x := by
  rw [State.accountAt_withAccount s (State.accountAt_lt ha), if_pos rfl]

/-- A table with a VACANT entry has a lowest one (log 17). -/
theorem State.vacantEntry_some {s : State} (h : ∃ e, e < 32 ∧ s.accountAt e = none) :
    ∃ e, s.vacantEntry = some e ∧ e < 32 ∧ s.accountAt e = none := by
  obtain ⟨e, he, hvacant⟩ := h
  cases hlowest : s.vacantEntry with
  | none =>
    have hall := List.find?_eq_none.mp hlowest e (List.mem_range.mpr he)
    exact absurd (Option.isNone_iff_eq_none.mpr hvacant) hall
  | some k =>
    have hk : (((s.accounts[k]?).join).isNone) = true :=
      List.find?_some (p := fun i => ((s.accounts[i]?).join).isNone) hlowest
    exact ⟨k, rfl, List.mem_range.mp (List.mem_of_find?_eq_some hlowest), Option.isNone_iff_eq_none.mp hk⟩

theorem AccountKind.ofCode_code (k : AccountKind) : AccountKind.ofCode k.code = some k := by cases k <;> rfl

end Sys2Proof.Machine
end

section
/-! ## OPEN_ACCOUNT, AMEND_ACCOUNT and RETIRE_ACCOUNT (R163, R164, R166) -/

namespace Sys2Proof.Machine

open Sys2Proof

theorem reqOpenAccount_opens {p : PortId} {s : State} {n e : Nat} (k : AccountKind) (key : BitVec 12)
    (hright : s.hasRight p .settle = true) (hpos : 1 ≤ n) (htop : n ≤ 65535)
    (hnew : ∀ e a, s.accountAt e = some a → a.number ≠ n) (hvacant : s.vacantEntry = some e) :
    reqOpenAccount p n k.code key.toNat s = (s.withAccount e (some (newAccount n k key))).accept := by
  have hvalues : ¬ (n = 0 ∨ 65535 < n ∨ 4095 < key.toNat) := by omega
  have hfree : (s.account n).isSome = false := by
    rw [Bool.eq_false_iff, ne_eq, State.account_isSome]
    rintro ⟨e, a, ha, hn⟩
    exact hnew e a ha hn
  simp [reqOpenAccount, hright, AccountKind.ofCode_code, hvalues, hfree, hvacant, State.withAccount]

theorem reqAmendAccount_amends {p : PortId} {s : State} {e : Nat} {a : Account} (key : BitVec 12)
    (hright : s.hasRight p .settle = true) (hs : s.numbersDistinct) (ha : s.accountAt e = some a) :
    reqAmendAccount p a.number key.toNat s = (s.withAccount e (some { a with key := key })).accept := by
  have hkey : ¬ 4095 < key.toNat := by omega
  simp [reqAmendAccount, hright, hkey, State.account_of_accountAt hs ha, State.modAccount_eq_withAccount hs ha]

/-- The counters are those that R166 wants at 0. -/
theorem Account.countersZero_of {a : Account} (hprimary : a.primary = ⟨0, 0, 0⟩) (hsecondary : a.secondary = ⟨0, 0, 0⟩)
    (hshortfall : a.shortfall = none ∨ a.shortfall = some 0) (hsurplus : a.surplus = none ∨ a.surplus = some 0) :
    a.countersZero = true := by
  have hzero : ∀ x : Option Nat, x = none ∨ x = some 0 → x.getD 0 = 0 := by rintro _ (rfl | rfl) <;> rfl
  simp [Account.countersZero, hprimary, hsecondary, BandFigures.zero, hzero _ hshortfall, hzero _ hsurplus]

theorem reqRetireAccount_retires {p : PortId} {s : State} {e : Nat} {a : Account}
    (hright : s.hasRight p .settle = true) (hs : s.numbersDistinct) (ha : s.accountAt e = some a)
    (hunbound : a.boundCount = 0) (hstatement : a.statement = none) (hzero : a.countersZero = true) :
    reqRetireAccount p a.number s = (s.withAccount e none).accept := by
  simp [reqRetireAccount, hright, State.account_of_accountAt hs ha, hunbound, hzero, hstatement, State.closeEntry,
    State.accountEntry_of_accountAt hs ha, State.withAccount]

/-- Settles O33: the lowest VACANT entry is filled, and the entry of the account named is rewritten or emptied. -/
theorem accountTableRequestsComplete : Obligations.AccountTableRequestsComplete := by
  intro p n s q hright hs
  refine ⟨fun k key htakes hpos htop hnew hroom => ?_, ?_⟩
  · obtain ⟨e, hentry, he, hvacant⟩ := State.vacantEntry_some hroom
    refine ⟨e, newAccount n k key, he, hvacant,
      exec_reply htakes (reqOpenAccount_opens k key hright hpos htop hnew hentry), ?_⟩
    exact ⟨rfl, rfl, rfl, rfl, rfl, rfl, rfl, rfl, rfl, rfl, rfl, rfl, rfl, rfl⟩
  · rintro e a ha rfl
    refine ⟨fun key htakes => exec_reply htakes (reqAmendAccount_amends key hright hs ha),
      fun htakes hunbound hstatement hprimary hsecondary hshortfall hsurplus => ?_⟩
    exact exec_reply htakes (reqRetireAccount_retires hright hs ha hunbound hstatement
      (Account.countersZero_of hprimary hsecondary hshortfall hsurplus))

/-! ## BIND_ACCOUNT, UNBIND_ACCOUNT and SET_EXPORT_ACCOUNT (R168 to R170) -/

/-- A BIND_ACCOUNT that passes its checks changes nothing when the record names the account already (R168). -/
theorem reqBindAccount_checked {p : PortId} {s : State} {i n : Nat} {o : Offtake} {a : Account}
    (hright : s.hasRight p .settle = true) (ho : s.offtake i = some o) (hlive : o.retiring = false)
    (ha : s.account n = some a) (hkind : a.kind = o.cls.accountKind) :
    reqBindAccount p i o.tag n s =
      if o.account = some n then s.accept
      else (((s.putOfftake i (some { o with account := some n })).unbindCount o.account).bindCount
        (some n)).accept := by
  simp [reqBindAccount, hright, State.findRecord_eq ho, hlive, ha, hkind, State.modOfftake_eq ho]

theorem reqUnbindAccount_checked {p : PortId} {s : State} {i : Nat} {o : Offtake}
    (hright : s.hasRight p .settle = true) (ho : s.offtake i = some o) (hlive : o.retiring = false) :
    reqUnbindAccount p i o.tag s =
      ((s.putOfftake i (some { o with account := none })).unbindCount o.account).accept := by
  simp [reqUnbindAccount, hright, State.findRecord_eq ho, hlive, State.modOfftake_eq ho]

theorem reqSetExportAccount_checked {p : PortId} {s : State} {n : Option Nat} (hright : s.hasRight p .settle = true)
    (hn : ∀ k, n = some k → ∃ a, s.account k = some a ∧ a.kind = .exportKind) :
    reqSetExportAccount p n s = (s.setExport n).accept := by
  cases n with
  | none => simp [reqSetExportAccount, hright]
  | some k =>
    obtain ⟨a, ha, hkind⟩ := hn k rfl
    simp [reqSetExportAccount, hright, ha, hkind]

/-- Settles O34: naming the account already named is the one case that leaves the part as it is. -/
theorem bindingRequestsComplete : Obligations.BindingRequestsComplete := by
  intro p s q hright
  refine ⟨?_, ?_, fun n htakes hn => ?_⟩
  · rintro i _ n o a htakes ho rfl hlive ha hkind
    have hclass : a.kind = o.cls.accountKind := hkind.trans (by cases o.cls <;> rfl)
    have hreply := reqBindAccount_checked hright ho hlive ha hclass
    exact ⟨fun hsame => exec_reply htakes (hreply.trans (if_pos hsame)),
      fun hnew => exec_reply htakes (hreply.trans (if_neg hnew))⟩
  · rintro i _ o htakes ho rfl hlive
    exact exec_reply htakes (reqUnbindAccount_checked hright ho hlive)
  · have hreply := reqSetExportAccount_checked hright hn
    unfold State.setExport at hreply
    refine ⟨fun hsame => ?_, fun hnew => ?_⟩
    · rw [if_pos hsame] at hreply
      exact exec_reply htakes hreply
    · rw [if_neg hnew] at hreply
      exact exec_reply htakes hreply

end Sys2Proof.Machine
end

section
/-! ## The carry into one account (R172, R173) -/

namespace Sys2Proof.Machine

open Sys2Proof

/-- An account with another residue. -/
def Account.withResidue (r : Nat) (a : Account) : Account := { a with residue := r }

@[simp] theorem Account.figures_withResidue (r : Nat) (a : Account) (b : Band) :
    (a.withResidue r).figures b = a.figures b := by cases b <;> rfl

@[simp] theorem Account.flags_withResidue (r : Nat) (a : Account) : (a.withResidue r).flags = a.flags := rfl

/-- What a carry with a whole kWh makes of an account. -/
theorem State.carried_whole {s : State} {amount : Nat} {a : Account} (h : (a.residue + amount) / 3600 ≠ 0) :
    s.carried amount a = (a.withResidue ((a.residue + amount) % 3600)).counted s.band ((a.residue + amount) / 3600)
      (s.lookup a.kind.medium a.key s.band) := if_neg h

theorem State.raiseCarry_withAccount (s : State) (n e : Nat) (x : Option Account) (ans : PriceAnswer) :
    (s.withAccount e x).raiseCarry n ans = { s.withAccount e x with notices := (s.raiseCarry n ans).notices } := by
  unfold State.raiseCarry
  dsimp only
  repeat' split
  all_goals rfl

/-- A carry writes its account's entry and, with a whole kWh, the notices of its lookup. -/
theorem State.carry_eq {s : State} (hs : s.numbersDistinct) {e : Nat} {a : Account} (ha : s.accountAt e = some a)
    (amount : Nat) :
    s.carry a.number amount = { s.withAccount e (some (s.carried amount a)) with
      notices := if (a.residue + amount) / 3600 = 0 then s.notices
        else (s.raiseCarry a.number (s.lookup a.kind.medium a.key s.band)).notices } := by
  rw [State.carry, State.account_of_accountAt hs ha]
  dsimp only
  rw [State.modAccount_eq_withAccount hs ha]
  by_cases hwhole : (a.residue + amount) / 3600 = 0
  · simp only [if_pos hwhole, State.carried]
    rfl
  · have hdistinct := State.numbersDistinct_withAccount (b := a.withResidue ((a.residue + amount) % 3600)) hs ha rfl
    have hcounted := State.modAccount_eq_withAccount hdistinct (State.accountAt_withAccount_self ha _)
    rw [if_neg hwhole, if_neg hwhole, ← Account.withResidue,
      show a.number = (a.withResidue ((a.residue + amount) % 3600)).number from rfl, hcounted,
      State.withAccount_withAccount, State.raiseCarry_withAccount, State.carried_whole hwhole]
    rfl

/-! ### The figures of a band -/

/-- What is counted in a band is counted in no other. -/
theorem Account.figures_counted_other (a : Account) {b b' : Band} (h : b' ≠ b) (n : Nat) (ans : PriceAnswer) :
    (a.counted b n ans).figures b' = a.figures b' := by
  cases b <;> cases b'
  · exact absurd rfl h
  · cases hprice : ans.price <;> simp [Account.counted, hprice, Account.withFigures, Account.figures]
  · cases hprice : ans.price <;> simp [Account.counted, hprice, Account.withFigures, Account.figures]
  · exact absurd rfl h

/-- Whole kWh charged at the price found (R161, R173). -/
theorem Account.counted_priced (a : Account) (b : Band) (n : Nat) {ans : PriceAnswer} {x : Nat}
    (h : ans.price = some x) :
    (a.counted b n ans).figures b = ⟨min Config.maxEnergy ((a.figures b).energy + n),
        min Config.maxCharge ((a.figures b).charge + n * x), (a.figures b).unpriced⟩
      ∧ (a.counted b n ans).flags = { a.flags with
        overlap := a.flags.overlap || ans.overlap
        saturated := a.flags.saturated || (decide (Config.maxEnergy < (a.figures b).energy + n)
          || decide (Config.maxCharge < (a.figures b).charge + n * x)) } := by
  cases b <;> simp [Account.counted, h, Account.withFigures, Account.figures, AccountFlags.with, satAdd, overflows]

/-- Whole kWh that no price is found for (R161, R173). -/
theorem Account.counted_missed (a : Account) (b : Band) (n : Nat) {ans : PriceAnswer} (h : ans.price = none) :
    (a.counted b n ans).figures b = ⟨min Config.maxEnergy ((a.figures b).energy + n), (a.figures b).charge,
        min Config.maxEnergy ((a.figures b).unpriced + n)⟩
      ∧ (a.counted b n ans).flags = { a.flags with
        overlap := a.flags.overlap || ans.overlap
        unpriced := true
        saturated := a.flags.saturated || (decide (Config.maxEnergy < (a.figures b).energy + n)
          || decide (Config.maxEnergy < (a.figures b).unpriced + n)) } := by
  cases b <;> simp [Account.counted, h, Account.withFigures, Account.figures, AccountFlags.with, satAdd, overflows]

/-- Settles O36: the carry is `State.carried` of the one account, and the kWh counted are priced or missed. -/
theorem carryCountsAndPrices : Obligations.CarryCountsAndPrices := by
  rintro s _ e amount a hs ha rfl t k ans
  have ht : t = _ := State.carry_eq hs ha amount
  have hresidue : (s.carried amount a).residue = (a.residue + amount) % 3600 := by
    unfold State.carried
    split
    · rfl
    · rw [Account.counted_frame]
  refine ⟨s.carried amount a, ?_, s.carried_frame amount a, hresidue, fun hnone => ?_, fun hwhole => ?_⟩
  · rw [ht]
  · have hsmall : (a.residue + amount) % 3600 = a.residue + amount := by omega
    rw [ht, State.carried, if_pos hnone, hsmall]
    exact ⟨rfl, if_pos hnone⟩
  · have hne : (a.residue + amount) / 3600 ≠ 0 := Nat.ne_of_gt hwhole
    have hnotices : t.notices = (s.raiseCarry a.number ans).notices := by
      rw [ht]
      exact if_neg hne
    have hother : ∀ b, b ≠ s.band → (s.carried amount a).figures b = a.figures b := fun b hb => by
      rw [State.carried_whole hne, Account.figures_counted_other _ hb, Account.figures_withResidue]
    have hsecondary : s.band = .primary → (s.carried amount a).secondary = a.secondary := fun hb =>
      hother .secondary (by simp [hb])
    have hprimary : s.band = .secondary → (s.carried amount a).primary = a.primary := fun hb =>
      hother .primary (by simp [hb])
    rw [State.carried_whole hne] at hprimary hsecondary ⊢
    cases hprice : ans.price with
    | some x =>
      obtain ⟨hcounted, hflags⟩ := Account.counted_priced (a.withResidue ((a.residue + amount) % 3600)) s.band k hprice
      rw [Account.figures_withResidue] at hcounted hflags
      rw [hcounted, hflags]
      exact ⟨rfl, fun y hy => by cases hy; exact ⟨rfl, rfl, rfl, by simp⟩, nofun, rfl, rfl, hsecondary, hprimary,
        hnotices⟩
    | none =>
      obtain ⟨hcounted, hflags⟩ := Account.counted_missed (a.withResidue ((a.residue + amount) % 3600)) s.band k hprice
      rw [Account.figures_withResidue] at hcounted hflags
      rw [hcounted, hflags]
      exact ⟨rfl, nofun, fun _ => ⟨rfl, rfl, rfl, by simp⟩, rfl, rfl, hsecondary, hprimary, hnotices⟩

end Sys2Proof.Machine
end

section
/-! ## CLOSE_PERIOD, TAKE_STATEMENT and REPRICE (R175 to R177) -/

namespace Sys2Proof.Machine

open Sys2Proof

theorem reqClosePeriod_closes {p : PortId} {s : State} {e : Nat} {a : Account} (hright : s.hasRight p .settle = true)
    (hs : s.numbersDistinct) (ha : s.accountAt e = some a) (hnone : a.statement = none) :
    reqClosePeriod p a.number s = ⟨.ok, .period a.period, s.withAccount e (some a.closed)⟩ := by
  simp [reqClosePeriod, hright, State.account_of_accountAt hs ha, hnone, State.modAccount_eq_withAccount hs ha]

theorem reqTakeStatement_hands {p : PortId} {s : State} {e : Nat} {a : Account} {st : Statement}
    (hright : s.hasRight p .settle = true) (hs : s.numbersDistinct) (ha : s.accountAt e = some a)
    (hst : a.statement = some st) :
    reqTakeStatement p a.number s =
      ⟨.ok, .statement st, s.withAccount e (some { a with statement := none })⟩ := by
  simp [reqTakeStatement, hright, State.account_of_accountAt hs ha, hst, State.modAccount_eq_withAccount hs ha]

/-! ### One band repriced -/

/-- The figures of a band once its unpriced kWh have found a price, or missed (R177). -/
def BandFigures.repriced (f : BandFigures) : Option Nat → BandFigures
  | some x => if f.unpriced = 0 then f else ⟨f.energy, min Config.maxCharge (f.charge + f.unpriced * x), 0⟩
  | none => f

/-- The charge of a band would pass its top (R161). -/
def BandFigures.saturates (f : BandFigures) (price : Option Nat) : Bool :=
  price.any fun x => decide (Config.maxCharge < f.charge + f.unpriced * x ∧ f.unpriced ≠ 0)

/-- Figures stay as they are exactly when there is nothing to price, or no price. -/
theorem BandFigures.repriced_eq_self_iff {f : BandFigures} {price : Option Nat} :
    f.repriced price = f ↔ f.unpriced = 0 ∨ price = none := by
  cases price with
  | none => simp [BandFigures.repriced]
  | some x =>
    by_cases hf : f.unpriced = 0
    · simp [BandFigures.repriced, hf]
    · have hmoved : f.repriced (some x) ≠ f := fun h => hf (by rw [← h, BandFigures.repriced, if_neg hf])
      simp [hmoved, hf]

/-- The band has unpriced kWh, and more than one pair answers for them (R184). -/
def State.overlapsIn (s : State) (a : Account) (b : Band) : Bool :=
  decide ((a.figures b).unpriced ≠ 0) && (s.lookup a.kind.medium a.key b).overlap

/-- The account with one band repriced (R177). -/
def State.repricedIn (s : State) (b : Band) (a : Account) : Account :=
  { a.withFigures b ((a.figures b).repriced (s.lookup a.kind.medium a.key b).price) with
    flags := { a.flags with
      overlap := a.flags.overlap || s.overlapsIn a b
      saturated := a.flags.saturated || (a.figures b).saturates (s.lookup a.kind.medium a.key b).price } }

theorem Account.withFigures_self (a : Account) (b : Band) : a.withFigures b (a.figures b) = a := by cases b <;> rfl

theorem State.repricedIn_settled {s : State} {b : Band} {a : Account} (h : (a.figures b).unpriced = 0) :
    s.repricedIn b a = a := by
  have hsaturates : ∀ price, (a.figures b).saturates price = false := fun price => by
    cases price <;> simp [BandFigures.saturates, h]
  rw [State.repricedIn, BandFigures.repriced_eq_self_iff.mpr (.inl h), Account.withFigures_self, hsaturates]
  simp [State.overlapsIn, h]

theorem State.repricedIn_unsettled {s : State} {b : Band} {a : Account} (h : (a.figures b).unpriced ≠ 0) :
    s.repricedIn b a = a.repriced b (s.lookup a.kind.medium a.key b) := by
  cases hprice : (s.lookup a.kind.medium a.key b).price <;>
    simp [State.repricedIn, Account.repriced, hprice, BandFigures.repriced, BandFigures.saturates, State.overlapsIn, h,
      AccountFlags.with, satAdd, overflows, Account.withFigures_self]

/-- The notice of a repriced band whose lookup overlaps (R177). -/
def State.overlapNoted (s : State) (n : Nat) (overlaps : Bool) : State :=
  if overlaps then s.raise .tariffOverlap n else s

theorem State.overlapNoted_frame (s : State) (n : Nat) (overlaps : Bool) :
    s.overlapNoted n overlaps = { s with notices := (s.overlapNoted n overlaps).notices } := by
  cases overlaps <;> rfl

theorem State.overlapNoted_withAccount (s : State) (n e : Nat) (overlaps : Bool) (x : Option Account) :
    (s.overlapNoted n overlaps).withAccount e x = (s.withAccount e x).overlapNoted n overlaps := by
  cases overlaps <;> rfl

theorem State.notice_overlapNoted (s : State) (n : Nat) (overlaps : Bool) (k : NoticeKind) :
    (s.overlapNoted n overlaps).notice k =
      if k = .tariffOverlap ∧ overlaps = true then (s.notice k).raise n else s.notice k := by
  cases overlaps <;> simp [State.overlapNoted, State.notice_raise]

theorem State.withAccount_self {s : State} {e : Nat} {a : Account} (ha : s.accountAt e = some a) :
    s.withAccount e (some a) = s := by
  have hentry : s.accounts.setIfInBounds e (some a) = s.accounts := by
    ext1 k hk
    rw [Vector.getElem_setIfInBounds hk]
    split
    · next hek =>
      subst hek
      exact (Option.some.inj ((Vector.getElem?_eq_getElem hk).symm.trans (Option.join_eq_some_iff.mp ha))).symm
    · rfl
  rw [State.withAccount, hentry]

/-- A band is repriced in its account's entry, and an overlap noted. -/
theorem State.repriceBand_eq {s : State} (hs : s.numbersDistinct) {e : Nat} {a : Account} (ha : s.accountAt e = some a)
    (b : Band) :
    s.repriceBand a.number b =
      (s.withAccount e (some (s.repricedIn b a))).overlapNoted a.number (s.overlapsIn a b) := by
  rw [State.repriceBand, State.account_of_accountAt hs ha]
  dsimp only
  by_cases hsettled : (a.figures b).unpriced = 0
  · have hnoted : s.overlapsIn a b = false := by simp [State.overlapsIn, hsettled]
    rw [if_pos hsettled, State.repricedIn_settled hsettled, State.withAccount_self ha, hnoted]
    rfl
  · have hnoted : s.overlapsIn a b = (s.lookup a.kind.medium a.key b).overlap := by simp [State.overlapsIn, hsettled]
    rw [if_neg hsettled, State.repricedIn_unsettled hsettled, State.modAccount_eq_withAccount hs ha, hnoted]
    rfl

theorem State.numbersDistinct_overlapNoted {s : State} (hs : s.numbersDistinct) (n : Nat) (overlaps : Bool) :
    (s.overlapNoted n overlaps).numbersDistinct := by cases overlaps <;> exact hs

@[simp] theorem State.accountAt_overlapNoted (s : State) (n : Nat) (overlaps : Bool) (e : Nat) :
    (s.overlapNoted n overlaps).accountAt e = s.accountAt e := by cases overlaps <;> rfl

/-- Neither the entry rewritten nor the notice raised is read by a lookup. -/
@[simp] theorem State.lookup_overlapNoted_withAccount (s : State) (e : Nat) (x : Option Account) (n : Nat)
    (overlaps : Bool) : ((s.withAccount e x).overlapNoted n overlaps).lookup = s.lookup := by
  cases overlaps <;> rfl

/-! ### Both bands repriced -/

/-- The account that a REPRICE leaves (R177). -/
def State.repricedAccount (s : State) (a : Account) : Account :=
  (s.repricedIn .secondary (s.repricedIn .primary a)).settleUnpriced

/-- The part that a REPRICE of the account in entry `e` leaves. -/
def State.repricedState (s : State) (e : Nat) (a : Account) : State :=
  ((s.withAccount e (some (s.repricedAccount a))).overlapNoted a.number (s.overlapsIn a .primary)).overlapNoted
    a.number (s.overlapsIn a .secondary)

/-- The second band is repriced as if the first had not been. -/
theorem State.repriceBands_eq {s : State} (hs : s.numbersDistinct) {e : Nat} {a : Account}
    (ha : s.accountAt e = some a) :
    (s.repriceBand a.number .primary).repriceBand a.number .secondary =
      ((s.withAccount e (some (s.repricedIn .secondary (s.repricedIn .primary a)))).overlapNoted a.number
        (s.overlapsIn a .primary)).overlapNoted a.number (s.overlapsIn a .secondary) := by
  have hdistinct : (s.withAccount e (some (s.repricedIn .primary a))).numbersDistinct :=
    State.numbersDistinct_withAccount hs ha rfl
  have hentry := State.accountAt_withAccount_self ha (some (s.repricedIn .primary a))
  rw [State.repriceBand_eq hs ha]
  refine (State.repriceBand_eq (State.numbersDistinct_overlapNoted hdistinct a.number _)
    ((State.accountAt_overlapNoted _ _ _ _).trans hentry) .secondary).trans ?_
  simp only [State.overlapNoted_withAccount, State.withAccount_withAccount, State.repricedIn, State.overlapsIn,
    State.lookup_overlapNoted_withAccount]
  rfl

theorem State.reprice_eq {s : State} (hs : s.numbersDistinct) {e : Nat} {a : Account} (ha : s.accountAt e = some a) :
    ((s.repriceBand a.number .primary).repriceBand a.number .secondary).modAccount a.number Account.settleUnpriced =
      s.repricedState e a := by
  have hdistinct : (s.withAccount e (some (s.repricedIn .secondary (s.repricedIn .primary a)))).numbersDistinct :=
    State.numbersDistinct_withAccount hs ha rfl
  have hentry := State.accountAt_withAccount_self ha (some (s.repricedIn .secondary (s.repricedIn .primary a)))
  rw [State.repriceBands_eq hs ha]
  refine (State.modAccount_eq_withAccount
    (State.numbersDistinct_overlapNoted (State.numbersDistinct_overlapNoted hdistinct _ _) _ _)
    (((State.accountAt_overlapNoted _ _ _ _).trans (State.accountAt_overlapNoted _ _ _ _)).trans hentry) _).trans ?_
  rw [State.overlapNoted_withAccount, State.overlapNoted_withAccount, State.withAccount_withAccount]
  rfl

theorem State.repricedState_frame (s : State) (e : Nat) (a : Account) :
    s.repricedState e a =
      { s.withAccount e (some (s.repricedAccount a)) with notices := (s.repricedState e a).notices } := by
  rw [State.repricedState, State.overlapNoted_frame, State.overlapNoted_frame]

/-- The overlap is noted once for each band that has one (R177). -/
theorem State.notice_repricedState (s : State) (e : Nat) (a : Account) (k : NoticeKind) :
    (s.repricedState e a).notice k = if k = .tariffOverlap then
        ((if s.overlapsIn a .primary then [a.number] else []) ++
          (if s.overlapsIn a .secondary then [a.number] else [])).foldl (fun x i => x.raise i) (s.notice k)
      else s.notice k := by
  have hkept : (s.withAccount e (some (s.repricedAccount a))).notice k = s.notice k := rfl
  rw [State.repricedState, State.notice_overlapNoted, State.notice_overlapNoted, hkept]
  by_cases hk : k = .tariffOverlap <;> cases s.overlapsIn a .primary <;> cases s.overlapsIn a .secondary <;> simp [hk]

theorem Account.settleUnpriced_eq (a : Account) :
    a.settleUnpriced = { a with flags := { a.flags with
      unpriced := if a.primary.unpriced = 0 ∧ a.secondary.unpriced = 0 then false else a.flags.unpriced } } := by
  unfold Account.settleUnpriced
  split <;> rfl

/-- Both bands of the account that a REPRICE leaves, and its flags (R177). -/
theorem State.repricedAccount_eq (s : State) (a : Account) :
    s.repricedAccount a =
      let first := a.primary.repriced (s.lookup a.kind.medium a.key .primary).price
      let second := a.secondary.repriced (s.lookup a.kind.medium a.key .secondary).price
      { a with
        primary := first
        secondary := second
        flags := { a.flags with
          overlap := a.flags.overlap || s.overlapsIn a .primary || s.overlapsIn a .secondary
          saturated := a.flags.saturated || a.primary.saturates (s.lookup a.kind.medium a.key .primary).price
            || a.secondary.saturates (s.lookup a.kind.medium a.key .secondary).price
          unpriced := if first.unpriced = 0 ∧ second.unpriced = 0 then false else a.flags.unpriced } } := by
  rw [State.repricedAccount, Account.settleUnpriced_eq]
  rfl

/-- REPRICE answers NO_TARIFF when there is something unpriced and no band was priced (R177). -/
theorem reqReprice_eq {p : PortId} {s : State} {e : Nat} {a : Account} (hright : s.hasRight p .settle = true)
    (hs : s.numbersDistinct) (ha : s.accountAt e = some a) :
    reqReprice p a.number s =
      if (a.primary.unpriced ≠ 0 ∨ a.secondary.unpriced ≠ 0)
          ∧ a.primary.repriced (s.lookup a.kind.medium a.key .primary).price = a.primary
          ∧ a.secondary.repriced (s.lookup a.kind.medium a.key .secondary).price = a.secondary then
        (s.repricedState e a).refuse .noTariff
      else (s.repricedState e a).accept := by
  have hprices : ∀ b, s.pricesBand a b = false ↔
      (a.figures b).repriced (s.lookup a.kind.medium a.key b).price = a.figures b := fun b => by
    rw [BandFigures.repriced_eq_self_iff]
    simp [State.pricesBand, Decidable.or_iff_not_imp_left]
  have hpriced : (a.primary.unpriced = 0 ∧ a.secondary.unpriced = 0)
      ∨ s.pricesBand a .primary = true ∨ s.pricesBand a .secondary = true ↔
        ¬ ((a.primary.unpriced ≠ 0 ∨ a.secondary.unpriced ≠ 0)
          ∧ a.primary.repriced (s.lookup a.kind.medium a.key .primary).price = a.primary
          ∧ a.secondary.repriced (s.lookup a.kind.medium a.key .secondary).price = a.secondary) := by
    have hprimary := hprices .primary
    have hsecondary := hprices .secondary
    dsimp only [Account.figures] at hprimary hsecondary
    rw [← hprimary, ← hsecondary, not_and_or, not_or, not_not, not_not, not_and_or, Bool.not_eq_false,
      Bool.not_eq_false]
  simp only [reqReprice, hright, State.account_of_accountAt hs ha, State.reprice_eq hs ha, Bool.not_true,
    Bool.false_eq_true, if_false]
  rw [if_congr hpriced rfl rfl, ite_not]

/-- Settles O35: a close and a taking rewrite one entry, and a REPRICE is `State.repricedState`. -/
theorem periodRequestsComplete : Obligations.PeriodRequestsComplete := by
  refine ⟨?_, ?_⟩
  · rintro p _ e s q a hright hs ha rfl
    exact ⟨fun htakes hnone => exec_reply htakes (reqClosePeriod_closes hright hs ha hnone),
      fun st htakes hst => exec_reply htakes (reqTakeStatement_hands hright hs ha hst)⟩
  · rintro p _ e s q a htakes hright hs ha rfl
    have hreply := reqReprice_eq (p := p) hright hs ha
    have hframe := s.repricedState_frame e a
    rw [State.repricedAccount_eq] at hframe
    refine ⟨s.repricedState e a, hframe, fun k hk => ?_, ?_, fun hmissed => ?_, fun hpriced => ?_⟩
    · rw [State.notice_repricedState, if_neg hk]
    · rw [State.notice_repricedState, if_pos rfl]
      rfl
    · exact exec_reply htakes (hreply.trans (if_pos hmissed))
    · exact exec_reply htakes (hreply.trans (if_neg hpriced))

end Sys2Proof.Machine
end

section
/-! ## The law of the accounts (R159, R167, R172)

Three kinds of change keep it: accounts rewritten in place with their numbers, kinds and bound counts, a naming that
moves with the bound counts, and an entry opened or emptied that nothing names. -/

namespace Sys2Proof.Machine

open Sys2Proof

/-! ### What names an account -/

/-- The record of the slot names the account. -/
def State.names (s : State) (n i : Nat) : Bool := (s.offtake i).any fun o => o.account = some n

theorem State.names_some {s : State} {i : Nat} {o : Offtake} (ho : s.offtake i = some o) (n : Nat) :
    s.names n i = decide (o.account = some n) := by simp [State.names, ho]

theorem State.namings_eq (s : State) (n : Nat) :
    s.namings n = slotNumbers.countP (s.names n) + if s.plant.exportAccount = some n then 1 else 0 := by
  have hnamed : (s.namedBy n).length = slotNumbers.countP (s.names n) := by
    rw [State.namedBy, ← List.countP_eq_length_filter, List.countP_filterMap]
    refine List.countP_congr fun i _ => ?_
    cases ho : s.offtake i <;> simp [State.names, ho]
  rw [State.namings, hnamed]

theorem State.one_le_namings {s : State} {i n : Nat} {o : Offtake} (ho : s.offtake i = some o)
    (hn : o.account = some n) : 1 ≤ s.namings n := by
  have hcounted : 0 < slotNumbers.countP (s.names n) := List.countP_pos_iff.mpr
    ⟨i, mem_slotNumbers.mpr (State.offtake_lt ho), by rw [State.names_some ho, hn, decide_eq_true rfl]⟩
  rw [State.namings_eq]
  omega

/-- What is named by no record and no plant has no namings. -/
theorem State.namings_eq_zero {s : State} {n : Nat} (hrecords : ∀ i o, s.offtake i = some o → o.account ≠ some n)
    (hexport : s.plant.exportAccount ≠ some n) : s.namings n = 0 := by
  rw [State.namings_eq, if_neg hexport, Nat.add_zero, List.countP_eq_zero]
  intro i _ hnames
  obtain ⟨o, ho, hn⟩ := (Option.any_eq_true ..).mp hnames
  exact hrecords i o ho (of_decide_eq_true hn)

/-- A count over the slots changes with the one slot that changes. -/
theorem countP_slot {f g : Nat → Bool} {i : Nat} (hi : i < 24) (h : ∀ j, j ≠ i → g j = f j) :
    slotNumbers.countP g + (if f i then 1 else 0) = slotNumbers.countP f + if g i then 1 else 0 := by
  have hsplit : ∀ f : Nat → Bool, slotNumbers.countP f = (slotNumbers.erase i).countP f + if f i then 1 else 0 :=
    fun f => by rw [(List.perm_cons_erase (mem_slotNumbers.mpr hi)).countP_eq, List.countP_cons]
  have hrest : (slotNumbers.erase i).countP g = (slotNumbers.erase i).countP f :=
    List.countP_congr fun j hj => by rw [h j ((List.nodup_range.mem_erase_iff.mp hj).1)]
  rw [hsplit f, hsplit g, hrest]
  omega

/-! ### What the law reads of a record -/

/-- The class and the account of the record in a slot. -/
def State.bindingAt (s : State) (i : Nat) : Option (OffClass × Option Nat) :=
  (s.offtake i).map fun o => (o.cls, o.account)

theorem State.bindingAt_eq_some {s : State} {i : Nat} {c : OffClass} {x : Option Nat} :
    s.bindingAt i = some (c, x) ↔ ∃ o, s.offtake i = some o ∧ o.cls = c ∧ o.account = x := by
  simp [State.bindingAt]

theorem State.names_of_binding {s t : State} {i : Nat} (h : t.bindingAt i = s.bindingAt i) (n : Nat) :
    t.names n i = s.names n i := by
  have hbinding : ∀ s : State, s.names n i = (s.bindingAt i).any fun b => b.2 = some n := fun s => by
    cases ho : s.offtake i <;> simp [State.names, State.bindingAt, ho]
  rw [hbinding, hbinding, h]

theorem State.namings_of_bindings {s t : State} (hbindings : ∀ i, t.bindingAt i = s.bindingAt i)
    (hexport : t.plant.exportAccount = s.plant.exportAccount) (n : Nat) : t.namings n = s.namings n := by
  have hnames : t.names n = s.names n := funext fun i => State.names_of_binding (hbindings i) n
  rw [State.namings_eq, State.namings_eq, hnames, hexport]

/-- The table holds an account with the number and the kind. -/
def State.holds (s : State) (n : Nat) (k : AccountKind) : Prop :=
  ∃ e a, s.accountAt e = some a ∧ a.number = n ∧ a.kind = k

theorem State.holds_of_account {s : State} {n : Nat} {a : Account} (ha : s.account n = some a) : s.holds n a.kind := by
  unfold State.account at ha
  split at ha
  · next e hentry =>
    obtain ⟨b, hb, hn⟩ := State.accountEntry_spec hentry
    obtain rfl := Option.some.inj (hb.symm.trans ha)
    exact ⟨e, b, hb, hn, rfl⟩
  · cases ha

/-- A figure of an account kept in its number and kind leaves what the table holds. -/
theorem State.holds_of_map {s t : State} {f : Account → Account} {n : Nat} {k : AccountKind}
    (haccounts : ∀ e, t.accountAt e = (s.accountAt e).map f) (hf : ∀ a, (f a).number = a.number ∧ (f a).kind = a.kind)
    (h : s.holds n k) : t.holds n k := by
  obtain ⟨e, a, ha, rfl, rfl⟩ := h
  exact ⟨e, f a, by rw [haccounts, ha, Option.map_some], hf a⟩

/-- What the records and the plant name is held, each of its kind (R159). -/
theorem State.ledgerOk.record_holds {s : State} (h : s.ledgerOk) {i n : Nat} {o : Offtake} (ho : s.offtake i = some o)
    (hn : o.account = some n) : s.holds n o.cls.accountKind := by
  obtain ⟨-, ⟨-, hrecords, -⟩, -⟩ := h
  exact hrecords i o n ho hn

theorem State.ledgerOk.export_holds {s : State} (h : s.ledgerOk) {n : Nat} (hn : s.plant.exportAccount = some n) :
    s.holds n .exportKind := by
  obtain ⟨-, ⟨-, -, hexport⟩, -⟩ := h
  exact hexport n hn

/-! ### Accounts rewritten, and namings moved -/

namespace State.ledgerOk

variable {s t : State}

theorem distinct (h : s.ledgerOk) : s.numbersDistinct := h.1

theorem boundCount_eq (h : s.ledgerOk) {e : Nat} {a : Account} (ha : s.accountAt e = some a) :
    a.boundCount = s.namings a.number := by
  obtain ⟨-, ⟨hcounts, -, -⟩, -⟩ := h
  exact hcounts e a ha

theorem figures (h : s.ledgerOk) {e : Nat} {a : Account} (ha : s.accountAt e = some a) : a.figuresOk := h.2.2 e a ha

/-- Every account is rewritten in place, its bound count with its namings. -/
theorem rewritten (h : s.ledgerOk) {f : Account → Account} (haccounts : ∀ e, t.accountAt e = (s.accountAt e).map f)
    (hf : ∀ a, (f a).number = a.number ∧ (f a).kind = a.kind) (hfigures : ∀ a, a.figuresOk → (f a).figuresOk)
    (hcounts : ∀ a, a.boundCount = s.namings a.number → (f a).boundCount = t.namings a.number)
    (hrecords : ∀ i o n, t.offtake i = some o → o.account = some n → s.holds n o.cls.accountKind)
    (hexport : ∀ n, t.plant.exportAccount = some n → s.holds n .exportKind) : t.ledgerOk := by
  have hback : ∀ e b, t.accountAt e = some b → ∃ a, s.accountAt e = some a ∧ f a = b := fun e b hb =>
    Option.map_eq_some_iff.mp (haccounts e ▸ hb)
  refine ⟨State.numbersDistinct_of_map h.distinct haccounts fun a => (hf a).1,
    ⟨fun e b hb => ?_, fun i o n ho hn => State.holds_of_map haccounts hf (hrecords i o n ho hn),
      fun n hn => State.holds_of_map haccounts hf (hexport n hn)⟩, fun e b hb => ?_⟩
  · obtain ⟨a, ha, rfl⟩ := hback e b hb
    rw [(hf a).1]
    exact hcounts a (h.boundCount_eq ha)
  · obtain ⟨a, ha, rfl⟩ := hback e b hb
    exact hfigures a (h.figures ha)

/-- The namings stay, and every account is rewritten with its bound count. -/
theorem inPlace (h : s.ledgerOk) {f : Account → Account} (haccounts : ∀ e, t.accountAt e = (s.accountAt e).map f)
    (hf : ∀ a, (f a).number = a.number ∧ (f a).kind = a.kind) (hfigures : ∀ a, a.figuresOk → (f a).figuresOk)
    (hcounts : ∀ a, (f a).boundCount = a.boundCount) (hbindings : ∀ i, t.bindingAt i = s.bindingAt i)
    (hexport : t.plant.exportAccount = s.plant.exportAccount) : t.ledgerOk := by
  refine h.rewritten haccounts hf hfigures (fun a ha => ?_) (fun i o n ho hn => ?_)
    fun n hn => h.export_holds (hexport ▸ hn)
  · rw [hcounts, ha, State.namings_of_bindings hbindings hexport]
  · obtain ⟨x, hx, hcls, haccount⟩ := State.bindingAt_eq_some.mp
      ((hbindings i).symm.trans (State.bindingAt_eq_some.mpr ⟨o, ho, rfl, rfl⟩))
    rw [← hcls]
    exact h.record_holds hx (haccount.trans hn)

/-- Nothing that the law reads changes. -/
theorem bindings (h : s.ledgerOk) (hbindings : ∀ i, t.bindingAt i = s.bindingAt i) (haccounts : t.accounts = s.accounts)
    (hexport : t.plant.exportAccount = s.plant.exportAccount) : t.ledgerOk :=
  h.inPlace (f := id) (fun e => by rw [State.accountAt, haccounts, ← State.accountAt, Option.map_id, id])
    (fun _ => ⟨rfl, rfl⟩) (fun _ => id) (fun _ => rfl) hbindings hexport

end State.ledgerOk

theorem State.accountAt_unbindCount {s : State} (hs : s.numbersDistinct) (x : Option Nat) (e : Nat) :
    (s.unbindCount x).accountAt e = (s.accountAt e).map fun a =>
      { a with boundCount := a.boundCount - if x = some a.number then 1 else 0 } := by
  cases x with
  | none => simp [State.unbindCount]
  | some n =>
    rw [State.unbindCount, State.accountAt_modAccount hs]
    congr 1
    funext a
    by_cases ha : a.number = n
    · simp [ha]
    · simp [ha, Ne.symm ha]

theorem State.accountAt_bindCount {s : State} (hs : s.numbersDistinct) (x : Option Nat) (e : Nat) :
    (s.bindCount x).accountAt e = (s.accountAt e).map fun a =>
      { a with boundCount := a.boundCount + if x = some a.number then 1 else 0 } := by
  cases x with
  | none => simp [State.bindCount]
  | some n =>
    rw [State.bindCount, State.accountAt_modAccount hs]
    congr 1
    funext a
    by_cases ha : a.number = n
    · simp [ha]
    · simp [ha, Ne.symm ha]

/-- An account with its bound count moved, where a naming goes from the account `old` to the account `new`. -/
def Account.recounted (old new : Option Nat) (a : Account) : Account :=
  { a with
    boundCount := a.boundCount - (if old = some a.number then 1 else 0) + if new = some a.number then 1 else 0 }

theorem State.accountAt_rebindCount {s : State} (hs : s.numbersDistinct) (old new : Option Nat) (e : Nat) :
    ((s.unbindCount old).bindCount new).accountAt e = (s.accountAt e).map (Account.recounted old new) := by
  have hdistinct := State.numbersDistinct_of_map hs (State.accountAt_unbindCount hs old) fun _ => rfl
  rw [State.accountAt_bindCount hdistinct, State.accountAt_unbindCount hs, Option.map_map]
  rfl

theorem State.bindCount_congr {s t : State} (h : t.accounts = s.accounts) (n : Option Nat) :
    (t.bindCount n).accounts = (s.bindCount n).accounts := by
  cases n with
  | none => exact h
  | some k =>
    have hentry : t.accountEntry k = s.accountEntry k := by simp only [State.accountEntry, h]
    simp only [State.bindCount, State.modAccount, hentry]
    split <;> simp [h]

namespace State.ledgerOk

variable {s t : State}

/-- A naming moves from one account to another, and the bound counts with it (R167). -/
theorem rebound (h : s.ledgerOk) {old new : Option Nat}
    (haccounts : t.accounts = ((s.unbindCount old).bindCount new).accounts)
    (hold : ∀ n, old = some n → 1 ≤ s.namings n)
    (hnamings : ∀ n, t.namings n + (if old = some n then 1 else 0) = s.namings n + if new = some n then 1 else 0)
    (hrecords : ∀ i o n, t.offtake i = some o → o.account = some n → s.holds n o.cls.accountKind)
    (hexport : ∀ n, t.plant.exportAccount = some n → s.holds n .exportKind) : t.ledgerOk := by
  refine h.rewritten (f := Account.recounted old new) (fun e => ?_) (fun _ => ⟨rfl, rfl⟩) (fun _ => id) (fun a ha => ?_)
    hrecords hexport
  · rw [State.accountAt, haccounts, ← State.accountAt, State.accountAt_rebindCount h.distinct]
  · have hmoved := hnamings a.number
    have hcounted := hold a.number
    rw [Account.recounted, ha]
    by_cases hleft : old = some a.number
    · have := hcounted hleft
      simp only [hleft, if_true] at hmoved ⊢
      omega
    · simp only [hleft, if_false] at hmoved ⊢
      omega

/-- The record of a slot is put out, or names another account (R21, R168, R169). -/
theorem rebindSlot (h : s.ledgerOk) {i : Nat} {o : Offtake} (ho : s.offtake i = some o) {x : Option Offtake}
    {new : Option Nat} (hothers : ∀ j, j ≠ i → t.offtake j = s.offtake j) (hself : t.offtake i = x)
    (hnew : new = x.bind (·.account)) (hholds : ∀ y n, x = some y → y.account = some n → s.holds n y.cls.accountKind)
    (haccounts : t.accounts = ((s.unbindCount o.account).bindCount new).accounts)
    (hexport : t.plant.exportAccount = s.plant.exportAccount) : t.ledgerOk := by
  refine h.rebound haccounts (fun n hn => State.one_le_namings ho hn) (fun n => ?_) (fun j y n hy hn => ?_)
    fun n hn => h.export_holds (hexport ▸ hn)
  · have hcount := countP_slot (f := s.names n) (g := t.names n) (State.offtake_lt ho) fun j hj =>
      State.names_of_binding (by rw [State.bindingAt, hothers j hj, State.bindingAt]) n
    have hself : t.names n i = decide (new = some n) := by
      rw [State.names, hself, hnew]
      cases x <;> simp
    rw [State.names_some ho, hself] at hcount
    simp only [decide_eq_true_eq] at hcount
    rw [State.namings_eq, State.namings_eq, hexport]
    omega
  · by_cases hji : j = i
    · subst hji
      exact hholds y n (hself.symm.trans hy) hn
    · exact h.record_holds (hothers j hji ▸ hy) hn

/-- A record that names no account is put in a VACANT slot (R13). -/
theorem created (h : s.ledgerOk) {i : Nat} (hi : i < 24) (hvacant : s.offtake i = none) {o : Offtake}
    (ho : o.account = none) : (s.putOfftake i (some o)).ledgerOk := by
  have hothers : ∀ j, j ≠ i → (s.putOfftake i (some o)).offtake j = s.offtake j := fun j hj =>
    State.offtake_putOfftake_ne s _ hj
  have hself : (s.putOfftake i (some o)).offtake i = some o := by rw [State.offtake_putOfftake, if_pos ⟨rfl, hi⟩]
  have hnames : ∀ n, (s.putOfftake i (some o)).names n = s.names n := fun n => funext fun j => by
    by_cases hji : j = i
    · subst hji
      rw [State.names_some hself, ho, State.names, hvacant]
      rfl
    · exact State.names_of_binding (by rw [State.bindingAt, hothers j hji, State.bindingAt]) n
  refine h.rewritten (f := id) (fun e => by rw [Option.map_id]; rfl) (fun _ => ⟨rfl, rfl⟩) (fun _ => id)
    (fun a ha => ?_) (fun j x n hx hn => ?_) fun n hn => h.export_holds hn
  · rw [id, ha, State.namings_eq, State.namings_eq, hnames]
    rfl
  · by_cases hji : j = i
    · subst hji
      obtain rfl := Option.some.inj (hself.symm.trans hx)
      exact absurd (ho.symm.trans hn) (by simp)
    · exact h.record_holds (hothers j hji ▸ hx) hn

theorem free (h : s.ledgerOk) (i : Nat) : (s.free i).ledgerOk := by
  cases ho : s.offtake i with
  | none => rwa [State.free, ho]
  | some o =>
    exact h.rebindSlot ho (x := none) (new := none) (fun j hj => by rw [State.offtake_free, if_neg hj.symm])
      (by rw [State.offtake_free, if_pos rfl]) rfl (fun _ _ hy => by cases hy)
      (State.free_accounts ho) (by rw [State.free_frame])

end State.ledgerOk

end Sys2Proof.Machine
end

section
/-! ### The figures of an account (R160, R161, R172) -/

namespace Sys2Proof.Machine

open Sys2Proof

theorem Account.figuresOk.band {a : Account} (h : a.figuresOk) (b : Band) : (a.figures b).ok := by
  obtain ⟨-, hprimary, hsecondary, -⟩ := h
  cases b
  · exact hprimary
  · exact hsecondary

/-- Bands that stay within their tops, and flags, are all that a count or a repricing writes. -/
theorem Account.figuresOk.of_bands {a b : Account} (h : a.figuresOk)
    (hframe : b = { a with primary := b.primary, secondary := b.secondary, flags := b.flags })
    (hbands : ∀ k, (b.figures k).ok) : b.figuresOk := by
  obtain ⟨hresidue, -, -, hrest⟩ := h
  rw [hframe]
  exact ⟨hresidue, hbands .primary, hbands .secondary, hrest⟩

theorem Account.figuresOk.counted {a : Account} (h : a.figuresOk) (b : Band) (n : Nat) (ans : PriceAnswer) :
    (a.counted b n ans).figuresOk := by
  refine h.of_bands (a.counted_frame b n ans) fun k => ?_
  by_cases hk : k = b
  · subst hk
    obtain ⟨-, hcharge, hunpriced⟩ := h.band k
    cases hprice : ans.price with
    | some x =>
      rw [(a.counted_priced k n hprice).1]
      exact ⟨min_le_left _ _, min_le_left _ _, hunpriced⟩
    | none =>
      rw [(a.counted_missed k n hprice).1]
      exact ⟨min_le_left _ _, hcharge, min_le_left _ _⟩
  · rw [a.figures_counted_other hk]
    exact h.band k

/-- A residue is a remainder of 3,600 (R172). -/
theorem Account.figuresOk.carried {a : Account} (h : a.figuresOk) (s : State) (amount : Nat) :
    (s.carried amount a).figuresOk := by
  obtain ⟨-, hrest⟩ := h
  have hresidue : (a.withResidue ((a.residue + amount) % 3600)).figuresOk := ⟨Nat.mod_lt _ (by decide), hrest⟩
  unfold State.carried
  split
  · exact hresidue
  · exact hresidue.counted _ _ _

/-- A deviation and its residue are added where the account is of kind EXPORT, which alone has them (R160, R174). -/
theorem AccountKind.deviationOk_added {k : AccountKind} {top x : Nat} (h : k.deviationOk top (some x)) {y : Nat}
    (hy : y ≤ top) : k.deviationOk top (some y) := ⟨h.1, hy⟩

theorem Account.figuresOk.addShortfall {a : Account} (h : a.figuresOk) (d : Nat) : (a.addShortfall d).figuresOk := by
  obtain ⟨hresidue, hprimary, hsecondary, hperiod, hshortResidue, hsurplusResidue, hshortfall, hsurplus⟩ := id h
  unfold Account.addShortfall
  split
  · next k r hk hr =>
    rw [hk] at hshortfall
    rw [hr] at hshortResidue
    exact ⟨hresidue, hprimary, hsecondary, hperiod,
      AccountKind.deviationOk_added hshortResidue (Nat.le_of_lt_succ (Nat.mod_lt _ (by decide))), hsurplusResidue,
      AccountKind.deviationOk_added hshortfall (min_le_left _ _), hsurplus⟩
  · exact h
  · exact h

theorem Account.figuresOk.addSurplus {a : Account} (h : a.figuresOk) (d : Nat) : (a.addSurplus d).figuresOk := by
  obtain ⟨hresidue, hprimary, hsecondary, hperiod, hshortResidue, hsurplusResidue, hshortfall, hsurplus⟩ := id h
  unfold Account.addSurplus
  split
  · next k r hk hr =>
    rw [hk] at hsurplus
    rw [hr] at hsurplusResidue
    exact ⟨hresidue, hprimary, hsecondary, hperiod, hshortResidue,
      AccountKind.deviationOk_added hsurplusResidue (Nat.le_of_lt_succ (Nat.mod_lt _ (by decide))), hshortfall,
      AccountKind.deviationOk_added hsurplus (min_le_left _ _)⟩
  · exact h
  · exact h

theorem Account.figuresOk.deviated {a : Account} (h : a.figuresOk) (below above : Nat) :
    (a.deviated below above).figuresOk := by
  have hbelow : (if 0 < below then a.addShortfall below else a).figuresOk := by
    split
    · exact h.addShortfall below
    · exact h
  unfold Account.deviated
  dsimp only
  split
  · exact hbelow.addSurplus above
  · exact hbelow

/-- What a tick feeds an account keeps its figures (R172, R174). -/
theorem Account.figuresOk.fed {a : Account} (h : a.figuresOk) (s : State) : (s.fed a).figuresOk := by
  have hmarked : ∀ est, (a.marked est).figuresOk := fun _ => h
  unfold State.fed State.recordsFed State.exportFed
  repeat' split
  · exact ((hmarked _).carried s _).deviated _ _
  · exact h
  · exact h
  · exact (hmarked _).carried s _

theorem State.fed_kind (s : State) (a : Account) : (s.fed a).kind = a.kind := by
  have hcarried : ∀ est amount, (s.carried amount (a.marked est)).kind = a.kind := fun est amount => by
    rw [State.carried_frame]
    rfl
  unfold State.fed State.recordsFed State.exportFed
  repeat' split
  · rw [Account.deviated_frame]
    exact hcarried _ _
  · rfl
  · rfl
  · exact hcarried _ _

theorem AccountKind.deviationOk_zero {k : AccountKind} {top top' : Nat} {v : Option Nat} (h : k.deviationOk top v) :
    k.deviationOk top' (v.map fun _ => 0) := by
  cases v with
  | none => exact h
  | some x => exact ⟨h.1, Nat.zero_le _⟩

theorem BandFigures.zero_ok : BandFigures.zero.ok := ⟨Nat.zero_le _, Nat.zero_le _, Nat.zero_le _⟩

/-- A close keeps the residues (R175). -/
theorem Account.figuresOk.closed {a : Account} (h : a.figuresOk) : a.closed.figuresOk := by
  obtain ⟨hresidue, -, -, -, hshortResidue, hsurplusResidue, hshortfall, hsurplus⟩ := h
  exact ⟨hresidue, BandFigures.zero_ok, BandFigures.zero_ok, Nat.le_of_lt_succ (Nat.mod_lt _ (by decide)),
    hshortResidue, hsurplusResidue, AccountKind.deviationOk_zero hshortfall, AccountKind.deviationOk_zero hsurplus⟩

theorem newAccount_figuresOk (n : Nat) (k : AccountKind) (key : BitVec 12) : (newAccount n k key).figuresOk := by
  have hdeviation : ∀ top, k.deviationOk top (k.deviation 0) := fun top => by
    by_cases hk : k = .exportKind <;> simp [AccountKind.deviation, AccountKind.deviationOk, hk]
  exact ⟨Nat.zero_lt_succ _, BandFigures.zero_ok, BandFigures.zero_ok, Nat.zero_le _, hdeviation _, hdeviation _,
    hdeviation _, hdeviation _⟩

theorem Account.repriced_frame (a : Account) (b : Band) (ans : PriceAnswer) :
    a.repriced b ans = { a with
      primary := (a.repriced b ans).primary
      secondary := (a.repriced b ans).secondary
      flags := (a.repriced b ans).flags } := by
  unfold Account.repriced
  dsimp only
  split
  · cases b <;> rfl
  · rfl

/-- A charge stays at its top (R161, R177). -/
theorem Account.figuresOk.repriced {a : Account} (h : a.figuresOk) (b : Band) (ans : PriceAnswer) :
    (a.repriced b ans).figuresOk := by
  refine h.of_bands (a.repriced_frame b ans) fun k => ?_
  have hkept := h.band k
  unfold Account.repriced
  cases ans.price with
  | none => exact hkept
  | some price =>
    have hpriced : BandFigures.ok ⟨(a.figures b).energy,
        satAdd Config.maxCharge (a.figures b).charge ((a.figures b).unpriced * price), 0⟩ :=
      ⟨(h.band b).1, min_le_left _ _, Nat.zero_le _⟩
    cases b <;> cases k
    · exact hpriced
    · exact hkept
    · exact hkept
    · exact hpriced

end Sys2Proof.Machine
end

section
/-! ### The operations keep the law of the accounts

Only the freeing of a record and the requests of the Account Table write a naming; every other operation leaves each
record its class and its account. -/

namespace Sys2Proof.Machine

open Sys2Proof

namespace State.ledgerOk

variable {s t : State}

/-! #### Writes of a slot -/

theorem same (h : s.ledgerOk) (hslots : t.slots = s.slots) (haccounts : t.accounts = s.accounts)
    (hplant : t.plant.exportAccount = s.plant.exportAccount) : t.ledgerOk :=
  h.bindings (fun i => by rw [State.bindingAt, State.offtake_of_slots hslots, State.bindingAt]) haccounts hplant

theorem modOfftake (h : s.ledgerOk) (i : Nat) (f : Offtake → Offtake)
    (hf : ∀ o, (f o).cls = o.cls ∧ (f o).account = o.account := by exact fun _ => ⟨rfl, rfl⟩) :
    (s.modOfftake i f).ledgerOk := by
  refine h.bindings (fun j => ?_) (by simp) (by simp)
  rw [State.bindingAt, State.offtake_modOfftake, State.bindingAt]
  split
  · cases s.offtake j with
    | none => rfl
    | some o => simp [hf o]
  · rfl

theorem putOfftake (h : s.ledgerOk) {i : Nat} {o : Offtake} (ho : s.offtake i = some o) (o' : Offtake)
    (hcls : o'.cls = o.cls := by rfl) (haccount : o'.account = o.account := by rfl) :
    (s.putOfftake i (some o')).ledgerOk := by
  refine h.bindings (fun j => ?_) rfl rfl
  by_cases hji : j = i
  · subst hji
    rw [State.bindingAt, State.offtake_putOfftake_self ho, State.bindingAt, ho, Option.map_some, Option.map_some, hcls,
      haccount]
  · rw [State.bindingAt, State.offtake_putOfftake_ne s _ hji, State.bindingAt]

/-- Every record is rewritten by `f`. -/
theorem mapSlots (h : s.ledgerOk) (f : Offtake → Offtake) (hslots : t.slots = s.slots.map (Option.map f))
    (haccounts : t.accounts = s.accounts) (hplant : t.plant.exportAccount = s.plant.exportAccount)
    (hf : ∀ o, (f o).cls = o.cls ∧ (f o).account = o.account := by exact fun _ => ⟨rfl, rfl⟩) : t.ledgerOk := by
  refine h.bindings (fun j => ?_) haccounts hplant
  rw [State.bindingAt, State.offtake_of_map hslots, State.bindingAt]
  cases s.offtake j with
  | none => rfl
  | some o => simp [hf o]

theorem withdraw (h : s.ledgerOk) (i : Nat) (st : Supply) : (s.withdraw i st).ledgerOk :=
  (h.modOfftake i fun o => { o.zeroGrant with supply := st }).same (by simp [State.withdraw]) (by simp [State.withdraw])
    (by simp [State.withdraw])

theorem foldl {α : Type} {f : State → α → State} (hf : ∀ t a, t.ledgerOk → (f t a).ledgerOk) (l : List α)
    (h : s.ledgerOk) : (l.foldl f s).ledgerOk := List.foldlRecOn l f h fun t ht a _ => hf t a ht

/-! #### The shared operations -/

theorem lapsed (h : s.ledgerOk) (i : Nat) : (s.lapsed i).ledgerOk := by
  have hwithdrawn : (if s.isActive i then s.withdraw i .held else s).ledgerOk := by
    split
    · exact h.withdraw i .held
    · exact h
  exact (hwithdrawn.modOfftake i fun o =>
    { o with ackGrant := 0, legacy := if o.link = .legacyBound then false else o.legacy }).same
      (by simp [State.lapsed]) (by simp [State.lapsed]) (by simp [State.lapsed])

theorem leaveLinked (h : s.ledgerOk) (i : Nat) : (s.leaveLinked i).ledgerOk := by
  cases ho : s.offtake i with
  | none => rwa [State.leaveLinked_vacant ho]
  | some o =>
    rw [State.leaveLinked_eq ho]
    split
    · exact (h.lapsed i).free i
    · exact h.lapsed i

theorem enterQuiet (h : s.ledgerOk) (i : Nat) : (s.enterQuiet i).ledgerOk := by
  unfold State.enterQuiet State.unlink
  refine modOfftake ?_ i Offtake.quieted
  repeat' split
  · exact h.leaveLinked i
  · exact h
  · exact h

theorem linkLoss (h : s.ledgerOk) (i : Nat) : (s.linkLoss i).ledgerOk := (h.enterQuiet i).same rfl rfl rfl

theorem joinSupply (h : s.ledgerOk) (i : Nat) : (s.joinSupply i).ledgerOk := by
  unfold State.joinSupply
  repeat' split
  · exact h.modOfftake i _
  · exact (h.modOfftake i fun o => { o with supply := .shed }).same (by simp) (by simp) (by simp)
  · exact h
  · exact h

theorem cutRecord (h : s.ledgerOk) (i : Nat) : (s.cutRecord i).ledgerOk :=
  ((h.withdraw i .cut).modOfftake i fun o => { o with overdrawTimer := 0, idleTimer := 0 }).same rfl rfl rfl

theorem releaseIdle (h : s.ledgerOk) (i : Nat) : (s.releaseIdle i).ledgerOk := by
  cases ho : s.offtake i with
  | none => rwa [State.releaseIdle, ho]
  | some o =>
    cases hr : o.retiring with
    | true =>
      rw [State.releaseIdle_retiring ho hr]
      exact h.free i
    | false =>
      rw [State.releaseIdle_live ho hr]
      exact ((h.putOfftake ho (o.charged s.plant.lockoutLimit)).same (t := s.chargedAt i o) rfl rfl rfl).enterQuiet i

theorem shedEach (is : List Nat) : ∀ {s : State}, s.ledgerOk → (s.shedEach is).1.ledgerOk := by
  induction is with
  | nil => exact id
  | cons i is ih =>
    intro s h
    unfold State.shedEach
    split
    · exact ih (h.withdraw i .shed)
    · exact ih h

theorem push (h : s.ledgerOk) (level : Nat) (origin : Origin) (cause : Cause) (lead : List Nat) :
    (s.push level origin cause lead).ledgerOk := by
  rw [State.push_eq]
  exact same (s := s.shedAt level lead) (shedEach _ (shedEach lead h)) rfl rfl rfl

theorem recover (h : s.ledgerOk) : s.recover.ledgerOk :=
  h.same (by rw [State.recover_frame]) (by rw [State.recover_frame]) (by rw [State.recover_frame])

/-! #### The offtake link -/

theorem quietExpiry (h : s.ledgerOk) (i : Nat) : (s.quietExpiry i).ledgerOk := by
  unfold State.quietExpiry
  repeat' split
  · exact h
  · exact h.modOfftake i _
  · exact h

theorem silenceExpiry (h : s.ledgerOk) (i : Nat) : (s.silenceExpiry i).ledgerOk := by
  unfold State.silenceExpiry
  repeat' split
  · exact h
  · exact h
  · exact h.modOfftake i _
  all_goals exact h.linkLoss i

theorem beginPoll (h : s.ledgerOk) : s.beginPoll.ledgerOk := by
  unfold State.beginPoll
  repeat' split
  all_goals exact h.same rfl rfl rfl

theorem pollTimedOut (h : s.ledgerOk) : s.pollTimedOut.ledgerOk := by
  unfold State.pollTimedOut
  split <;> exact h.same rfl rfl rfl

theorem beginSetpoint (h : s.ledgerOk) : s.beginSetpoint.ledgerOk := by
  unfold State.beginSetpoint
  repeat' split
  all_goals exact h.same rfl rfl rfl

theorem failAttempt (h : s.ledgerOk) : s.failAttempt.ledgerOk := by
  unfold State.failAttempt
  split
  · next i _ _ _ =>
    dsimp only
    split
    · exact (h.same (t := s.setpointEnded) rfl rfl rfl).linkLoss i
    · exact h.same rfl rfl rfl
  all_goals exact h.same rfl rfl rfl

theorem acknowledge (h : s.ledgerOk) (i v : Nat) : (s.acknowledge i v).ledgerOk := by
  have hended : s.setpointEnded.ledgerOk := h.same rfl rfl rfl
  cases ho : s.offtake i with
  | none => rwa [State.acknowledge, ho]
  | some o =>
    have hnoted : (s.acknowledged i v).ledgerOk :=
      (hended.modOfftake i fun o => { o with ackGrant := v }).same rfl rfl rfl
    rw [State.acknowledge_eq ho]
    split
    · exact hnoted.free i
    · exact hnoted.same (by simp) (by simp) (by simp)

theorem takeAck (h : s.ledgerOk) (m : LinkMsg) : (s.takeAck m).ledgerOk := by
  unfold State.takeAck
  repeat' split
  · exact h.acknowledge _ _
  · exact h.failAttempt
  all_goals exact h.same rfl rfl rfl

theorem takeReply {α : Type} (h : s.ledgerOk) (addr : Byte) (data : Option α) (f : State → Nat → α → State)
    (hf : ∀ t i d, t.ledgerOk → (f t i d).ledgerOk) : (s.takeReply addr data f).ledgerOk := by
  unfold State.takeReply
  split
  · have hended : s.pollEnded.ledgerOk := h.same rfl rfl rfl
    split
    · exact hf _ _ _ hended
    · exact hended
    · exact hended
  · exact h.failAttempt
  · exact h

theorem listenAdvert (h : s.ledgerOk) (i : Nat) (a : AdvertData) : (s.listenAdvert i a).ledgerOk := by
  cases ho : s.offtake i with
  | none => rwa [State.listenAdvert_none ho]
  | some o =>
    cases hm : resolveMode o a with
    | some m =>
      rw [State.listenAdvert_resolved ho hm]
      exact h.putOfftake ho _
    | none =>
      rw [State.listenAdvert_unresolved ho hm]
      split
      · exact h.putOfftake ho _
      · exact (h.putOfftake ho (o.unresolved a)).same rfl rfl rfl

theorem confirmAdvert (h : s.ledgerOk) {i : Nat} {o : Offtake} (ho : s.offtake i = some o) (a : AdvertData) :
    (s.confirmAdvert i o a).ledgerOk := by
  unfold State.confirmAdvert
  repeat' split
  · exact (h.putOfftake ho _).joinSupply i
  · exact h.putOfftake ho _
  · exact h.putOfftake ho _
  · exact (h.putOfftake ho _).listenAdvert i a

theorem takeAdvert (s : State) (i : Nat) (a : AdvertData) (h : s.ledgerOk) : (s.takeAdvert i a).ledgerOk := by
  have hbound : (s.boundAdvert i (storedAdvert a)).ledgerOk := ((h.leaveLinked i).modOfftake i _).listenAdvert i _
  unfold State.takeAdvert
  split
  · exact h
  · next o ho =>
    split
    · exact h.listenAdvert i _
    · exact h.confirmAdvert ho _
    · exact hbound
    · exact hbound
    · exact h

theorem takeStatus (s : State) (i : Nat) (c : CallData) (h : s.ledgerOk) : (s.takeStatus i c).ledgerOk := by
  unfold State.takeStatus
  split
  · exact h.modOfftake i (Offtake.called c)
  · exact h

theorem listenLegacy (h : s.ledgerOk) {i : Nat} {o : Offtake} (ho : s.offtake i = some o) (c : CallData) :
    (s.listenLegacy i o c).ledgerOk := by
  unfold State.listenLegacy
  dsimp only
  repeat' split
  · exact h.putOfftake ho _
  · exact (h.putOfftake ho _).joinSupply i
  · exact h.putOfftake ho _
  · exact (h.putOfftake ho { o with absent := false, silenceMs := 0, legacyRun := 0, noMode := true }).same rfl rfl rfl

theorem takeLegacy (s : State) (i : Nat) (c : CallData) (h : s.ledgerOk) : (s.takeLegacy i c).ledgerOk := by
  unfold State.takeLegacy
  split
  · exact h
  · next o ho =>
    split
    · exact h.listenLegacy ho c
    · exact h.modOfftake i (Offtake.called c)
    all_goals exact h

/-! #### The metering tick -/

/-- Measuring and feeding (R80, R171). -/
theorem metered (h : s.ledgerOk) : s.metered.ledgerOk := by
  refine h.inPlace (f := s.measure.fed) (State.accountAt_metered h.distinct)
    (fun a => ⟨s.measure.fed_number a, s.measure.fed_kind a⟩) (fun a ha => ha.fed s.measure) s.measure.fed_boundCount
    (fun i => ?_) (by rw [State.metered_frame])
  rw [State.bindingAt, State.offtake_metered, State.bindingAt, Option.map_map]
  rfl

theorem superviseDraw (h : s.ledgerOk) (i : Nat) (o : Offtake) : (s.superviseDraw i o).ledgerOk := by
  unfold State.superviseDraw
  dsimp only
  repeat' split
  · exact h.modOfftake i _
  · exact h.modOfftake i _
  · exact (h.modOfftake i _).cutRecord i
  · exact h.modOfftake i _

theorem superviseIdle (h : s.ledgerOk) (i : Nat) (o : Offtake) : (s.superviseIdle i o).ledgerOk := by
  have hcleared := h.modOfftake i fun o => { o with overdrawTimer := 0 }
  unfold State.superviseIdle
  dsimp only
  repeat' split
  · exact hcleared
  · exact hcleared
  · exact hcleared.modOfftake i _
  · exact (hcleared.modOfftake i _).releaseIdle i
  · exact hcleared.modOfftake i _

theorem supervise (s : State) (i : Nat) (h : s.ledgerOk) : (s.supervise i).ledgerOk := by
  unfold State.supervise
  repeat' split
  · exact h
  · exact h.superviseDraw i _
  · exact h.superviseDraw i _
  · exact h.superviseIdle i _
  · exact h.modOfftake i _
  · exact h.modOfftake i _

theorem meteringTick (h : s.ledgerOk) : s.meteringTick.ledgerOk := by
  have hsupervised := foldl supervise slotNumbers h.metered
  rw [State.meteringTick_eq]
  generalize slotNumbers.foldl State.supervise s.metered = u at hsupervised ⊢
  exact hsupervised.same rfl rfl rfl

theorem cutSlot (h : s.ledgerOk) (i : Nat) : (s.cutSlot i).ledgerOk := by
  unfold State.cutSlot
  repeat' split
  · exact h.cutRecord i
  · exact h
  · exact h

theorem idleSlot (h : s.ledgerOk) (i : Nat) : (s.idleSlot i).ledgerOk := by
  unfold State.idleSlot
  repeat' split
  · exact h.releaseIdle i
  · exact h
  · exact h

/-! #### The pass -/

theorem readmitFrom (q : List Nat) : ∀ {s : State}, s.ledgerOk → (s.readmitFrom q).ledgerOk := by
  induction q with
  | nil => exact fun h => h.same rfl rfl rfl
  | cons i q ih =>
    intro s h
    unfold State.readmitFrom
    split
    · exact (h.modOfftake i Offtake.readmitted).same rfl rfl rfl
    · exact ih (h.same (by simp) (by simp) (by simp))

theorem beginPass (h : s.ledgerOk) : s.beginPass.ledgerOk := by
  cases hpass : s.pass with
  | some p => rwa [State.beginPass, hpass]
  | none =>
    have hreadmit : s.readmit.ledgerOk := readmitFrom s.readmission h
    rw [State.beginPass_eq hpass]
    exact hreadmit.same (by rw [State.begun_frame]) (by rw [State.begun_frame, State.readmit_frame])
      (by rw [State.begun_frame, State.readmit_frame])

theorem writeGrant (r : PassResult) (s : State) (e : PassEntry) (h : s.ledgerOk) : (s.writeGrant r e).ledgerOk := by
  unfold State.writeGrant
  split
  · exact h
  · exact (h.modOfftake e.slot (Offtake.granted r e.slot)).same (by simp) (by simp) (by simp)

theorem takeSheds (h : s.ledgerOk) (ms : List ShedMember) : (s.takeSheds ms).ledgerOk := by
  by_cases habove : s.level < observedLevel ms
  · rw [State.takeSheds_above habove]
    exact h.push _ _ _ _
  · rw [State.takeSheds_within habove]
    exact (shedEach (ms.map (·.slot)) h).same rfl rfl rfl

theorem judgeTimer (h : s.ledgerOk) (level interval : Nat) : (s.judgeTimer level interval).ledgerOk :=
  h.same rfl rfl rfl

theorem completePass (h : s.ledgerOk) : s.completePass.ledgerOk := by
  cases hp : s.pass with
  | none => rwa [State.completePass_none hp]
  | some p =>
    have hwritten : (s.grantsWritten p).ledgerOk := foldl (writeGrant p.view.result) p.table h
    have hfigures : (s.figuresWritten p).ledgerOk := hwritten.same (by rw [State.figuresWritten_frame])
      (by rw [State.figuresWritten_frame, State.grantsWritten_frame])
      (by rw [State.figuresWritten_frame, State.grantsWritten_frame])
    have houtcome : ((s.figuresWritten p).takeOutcome p.shedMembers p.view.interval).ledgerOk :=
      ((hfigures.takeSheds p.shedMembers).judgeTimer _ _).recover
    rw [State.completePass_some hp]
    generalize (s.figuresWritten p).takeOutcome p.shedMembers p.view.interval = u at houtcome
    exact houtcome.same rfl rfl rfl

/-- Every event keeps the law. -/
theorem event (h : s.ledgerOk) {c : Instr} {f : State → State} (hf : eventOf c = some f) : (f s).ledgerOk := by
  cases c <;> simp only [eventOf, Option.some.injEq, reduceCtorEq] at hf <;> subst hf
  case writeFrame p x => exact h.same (by simp) (by simp) (by simp)
  case readAnswer p x => exact h.same (by simp) (by simp) (by simp)
  case sampleMessage bytes =>
    dsimp only
    split
    · exact h.same (by rw [State.takeSample_frame]) (by rw [State.takeSample_frame]) (by rw [State.takeSample_frame])
    · exact h
  case ageExpiry c =>
    dsimp only
    exact h.same (by rw [State.ageExpiry_frame]) (by rw [State.ageExpiry_frame]) (by rw [State.ageExpiry_frame])
  case staleTimerExpiry c =>
    dsimp only
    exact h.same (by rw [State.staleExpiry_frame]) (by rw [State.staleExpiry_frame]) (by rw [State.staleExpiry_frame])
  case quietHoldExpiry i => exact h.quietExpiry i
  case silenceExpiry i => exact h.silenceExpiry i
  case poll => exact h.beginPoll
  case pollTimeout => exact h.pollTimedOut
  case advert m => exact h.takeReply _ _ _ takeAdvert
  case status m => exact h.takeReply _ _ _ takeStatus
  case legacy m => exact h.takeReply _ _ _ takeLegacy
  case setpoint => exact h.beginSetpoint
  case setpointAck m => exact h.takeAck m
  case failedAttempt => exact h.failAttempt
  case meteringTick => exact h.meteringTick
  case cut i => exact h.cutSlot i
  case idleRelease i => exact h.idleSlot i
  case passBegin => exact h.beginPass
  case passCompletion => exact h.completePass
  case recoveryHoldExpiry => exact h.recover

theorem elapse (h : s.ledgerOk) : s.elapse.ledgerOk :=
  h.mapSlots Offtake.elapse rfl rfl rfl fun o => by
    unfold Offtake.elapse
    split <;> exact ⟨rfl, rfl⟩

end State.ledgerOk

end Sys2Proof.Machine
end

section
/-! ### The requests keep the law of the accounts -/

namespace Sys2Proof.Machine

open Sys2Proof

namespace State.ledgerOk

variable {s t : State}

/-! #### The Account Table -/

/-- An account rewritten, with its number, its kind and its bound count. -/
theorem modAccount (h : s.ledgerOk) (n : Nat) (f : Account → Account)
    (hf : ∀ a, (f a).number = a.number ∧ (f a).kind = a.kind ∧ (f a).boundCount = a.boundCount)
    (hfigures : ∀ a, a.figuresOk → (f a).figuresOk) : (s.modAccount n f).ledgerOk := by
  refine h.inPlace (State.modAccount_rewrites h.distinct n f) (fun a => ?_) (fun a ha => ?_) (fun a => ?_)
    (fun i => by rw [State.bindingAt, State.offtake_modAccount, State.bindingAt]) (by simp)
  · obtain ⟨hnumber, hkind, -⟩ := hf a
    split
    · exact ⟨hnumber, hkind⟩
    · exact ⟨rfl, rfl⟩
  · split
    · exact hfigures a ha
    · exact ha
  · obtain ⟨-, -, hcount⟩ := hf a
    split
    · exact hcount
    · rfl

/-- What names an account that is not in the table names nothing. -/
theorem no_namings (h : s.ledgerOk) {n : Nat} (hnew : ∀ e a, s.accountAt e = some a → a.number ≠ n) :
    s.namings n = 0 := by
  have hno : ∀ k, ¬ s.holds n k := by
    rintro k ⟨e, a, ha, hn, -⟩
    exact hnew e a ha hn
  exact State.namings_eq_zero (fun i o ho hn => hno _ (h.record_holds ho hn)) fun hn => hno _ (h.export_holds hn)

/-- An account with a new number, which nothing names, is put in a VACANT entry (R163). -/
theorem opened (h : s.ledgerOk) {e : Nat} (he : e < 32) (hvacant : s.accountAt e = none) {b : Account}
    (hnew : ∀ e a, s.accountAt e = some a → a.number ≠ b.number) (hcount : b.boundCount = 0) (hfigures : b.figuresOk) :
    (s.withAccount e (some b)).ledgerOk := by
  have hentry := State.accountAt_withAccount s he (some b)
  have hkept : ∀ k a, s.accountAt k = some a → (s.withAccount e (some b)).accountAt k = some a := fun k a ha => by
    rw [hentry, if_neg, ha]
    rintro rfl
    exact absurd (hvacant.symm.trans ha) (by simp)
  have hcases : ∀ k a, (s.withAccount e (some b)).accountAt k = some a → (e = k ∧ b = a) ∨ s.accountAt k = some a := by
    intro k a ha
    rw [hentry] at ha
    split at ha
    · next hek => exact .inl ⟨hek, Option.some.inj ha⟩
    · exact .inr ha
  have hholds : ∀ n k, s.holds n k → (s.withAccount e (some b)).holds n k := by
    rintro n k ⟨j, a, ha, hn⟩
    exact ⟨j, a, hkept j a ha, hn⟩
  refine ⟨fun j k x y hx hy hjk => ?_, ⟨fun k a ha => ?_, fun i o n ho hn => hholds _ _ (h.record_holds ho hn),
    fun n hn => hholds _ _ (h.export_holds hn)⟩, fun k a ha => ?_⟩
  · rcases hcases j x hx with ⟨rfl, rfl⟩ | hx <;> rcases hcases k y hy with ⟨rfl, rfl⟩ | hy
    · exact absurd rfl hjk
    · exact (hnew k y hy).symm
    · exact hnew j x hx
    · exact h.distinct j k x y hx hy hjk
  · rcases hcases k a ha with ⟨-, rfl⟩ | ha
    · exact hcount.trans (h.no_namings hnew).symm
    · exact h.boundCount_eq ha
  · rcases hcases k a ha with ⟨-, rfl⟩ | ha
    · exact hfigures
    · exact h.figures ha

/-- An account that nothing names is taken out of its entry (R166). -/
theorem retired (h : s.ledgerOk) {e : Nat} {a : Account} (ha : s.accountAt e = some a) (hunbound : a.boundCount = 0) :
    (s.withAccount e none).ledgerOk := by
  have hcases : ∀ k b, (s.withAccount e none).accountAt k = some b → s.accountAt k = some b := fun k b hb => by
    rw [State.accountAt_withAccount s (State.accountAt_lt ha)] at hb
    split at hb
    · cases hb
    · exact hb
  have hzero : s.namings a.number = 0 := (h.boundCount_eq ha).symm.trans hunbound
  have hholds : ∀ n k, n ≠ a.number → s.holds n k → (s.withAccount e none).holds n k := by
    rintro n k hn ⟨j, b, hb, hnumber, hkind⟩
    refine ⟨j, b, ?_, hnumber, hkind⟩
    rw [State.accountAt_withAccount s (State.accountAt_lt ha), if_neg, hb]
    rintro rfl
    obtain rfl := Option.some.inj (ha.symm.trans hb)
    exact hn hnumber.symm
  refine ⟨fun j k x y hx hy => h.distinct j k x y (hcases j x hx) (hcases k y hy), ⟨fun k b hb =>
    h.boundCount_eq (hcases k b hb), fun i o n ho hn => hholds _ _ ?_ (h.record_holds ho hn),
    fun n hn => hholds _ _ ?_ (h.export_holds hn)⟩, fun k b hb => h.figures (hcases k b hb)⟩
  · rintro rfl
    have hnamed := State.one_le_namings (s := s) ho hn
    omega
  · rintro rfl
    rw [State.namings_eq, if_pos (show s.plant.exportAccount = some a.number from hn)] at hzero
    omega

theorem reqOpenAccount (h : s.ledgerOk) (p : PortId) (n k key : Nat) : (reqOpenAccount p n k key s).state.ledgerOk := by
  unfold Machine.reqOpenAccount
  repeat' split
  iterate 5 · exact h
  next hnew _ e hvacant =>
    have he : e < 32 := List.mem_range.mp (List.mem_of_find?_eq_some hvacant)
    have hnone : (((s.accounts[e]?).join).isNone) = true :=
      List.find?_some (p := fun i => ((s.accounts[i]?).join).isNone) hvacant
    refine h.opened he (Option.isNone_iff_eq_none.mp hnone) (fun j a ha hn => hnew ?_) rfl (newAccount_figuresOk _ _ _)
    exact State.account_isSome.mpr ⟨j, a, ha, hn⟩

theorem reqAmendAccount (h : s.ledgerOk) (p : PortId) (n key : Nat) : (reqAmendAccount p n key s).state.ledgerOk := by
  unfold Machine.reqAmendAccount
  repeat' split
  iterate 3 · exact h
  exact h.modAccount n _ (fun _ => ⟨rfl, rfl, rfl⟩) fun _ => id

theorem reqRetireAccount (h : s.ledgerOk) (p : PortId) (n : Nat) : (reqRetireAccount p n s).state.ledgerOk := by
  unfold Machine.reqRetireAccount
  repeat' split
  iterate 4 · exact h
  next a ha hunbound _ =>
    unfold State.closeEntry
    split
    · next e hentry =>
      rw [State.account_of_entry hentry] at ha
      exact h.retired ha (Nat.eq_zero_of_not_pos hunbound)
    · exact h

theorem reqClosePeriod (h : s.ledgerOk) (p : PortId) (n : Nat) : (reqClosePeriod p n s).state.ledgerOk := by
  unfold Machine.reqClosePeriod
  repeat' split
  iterate 3 · exact h
  exact h.modAccount n _ (fun _ => ⟨rfl, rfl, rfl⟩) fun _ ha => ha.closed

theorem reqTakeStatement (h : s.ledgerOk) (p : PortId) (n : Nat) : (reqTakeStatement p n s).state.ledgerOk := by
  unfold Machine.reqTakeStatement
  repeat' split
  iterate 3 · exact h
  exact h.modAccount n _ (fun _ => ⟨rfl, rfl, rfl⟩) fun _ => id

theorem repriceBand (h : s.ledgerOk) (n : Nat) (b : Band) : (s.repriceBand n b).ledgerOk := by
  unfold State.repriceBand
  split
  · exact h
  · split
    · exact h
    · next a _ _ =>
      have hrepriced := h.modAccount n (·.repriced b (s.lookup a.kind.medium a.key b))
        (fun x => by rw [Account.repriced_frame]; exact ⟨rfl, rfl, rfl⟩) fun _ hx => hx.repriced b _
      dsimp only
      split
      · exact hrepriced.same rfl rfl rfl
      · exact hrepriced

theorem reqReprice (h : s.ledgerOk) (p : PortId) (n : Nat) : (reqReprice p n s).state.ledgerOk := by
  have hsettled := ((h.repriceBand n .primary).repriceBand n .secondary).modAccount n Account.settleUnpriced
    (fun a => by rw [Account.settleUnpriced_eq]; exact ⟨rfl, rfl, rfl⟩)
    fun a ha => by rw [Account.settleUnpriced_eq]; exact ha
  unfold Machine.reqReprice
  dsimp only
  repeat' split
  · exact h
  · exact h
  · exact hsettled
  · exact hsettled

/-! #### Naming an account -/

/-- A record names another account of its class's kind, or none (R168, R169). -/
theorem rename (h : s.ledgerOk) {i : Nat} {o : Offtake} (ho : s.offtake i = some o) (new : Option Nat)
    (hholds : ∀ n, new = some n → s.holds n o.cls.accountKind) :
    (((s.modOfftake i fun o => { o with account := new }).unbindCount o.account).bindCount new).ledgerOk := by
  have hslots (j : Nat) : (((s.modOfftake i fun o => { o with account := new }).unbindCount o.account).bindCount
      new).offtake j = (s.modOfftake i fun o => { o with account := new }).offtake j :=
    State.offtake_of_slots (by simp) j
  refine h.rebindSlot ho (x := some { o with account := new }) (new := new) (fun j hj => ?_) ?_ rfl ?_ ?_ ?_
  · rw [hslots, State.offtake_modOfftake, if_neg hj.symm]
  · rw [hslots, State.offtake_modOfftake, if_pos rfl, ho, Option.map_some]
  · rintro y n hy hn
    cases hy
    exact hholds n hn
  · exact State.bindCount_congr (State.unbindCount_congr (by simp) _) _
  · rw [State.bindCount_frame, State.unbindCount_frame, State.modOfftake_plant]

theorem reqBindAccount (h : s.ledgerOk) (p : PortId) (i : Nat) (tag : Tag) (n : Nat) :
    (reqBindAccount p i tag n s).state.ledgerOk := by
  unfold Machine.reqBindAccount
  repeat' split
  iterate 6 · exact h
  next o hfind hlive _ a ha hkind _ =>
    refine h.rename (State.findRecord_ok hfind).1 (some n) fun m hm => ?_
    cases hm
    rw [← not_not.mp hkind]
    exact State.holds_of_account ha

theorem reqUnbindAccount (h : s.ledgerOk) (p : PortId) (i : Nat) (tag : Tag) :
    (reqUnbindAccount p i tag s).state.ledgerOk := by
  unfold Machine.reqUnbindAccount
  repeat' split
  iterate 3 · exact h
  next o hfind _ => exact h.rename (State.findRecord_ok hfind).1 none fun _ hm => by cases hm

/-- The plant names another account of kind EXPORT, or none (R170). -/
theorem setExport (h : s.ledgerOk) (n : Option Nat) (hholds : ∀ k, n = some k → s.holds k .exportKind) :
    (s.setExport n).ledgerOk := by
  have hslots (j : Nat) : (s.setExport n).offtake j = s.offtake j := State.offtake_of_slots (by simp) j
  by_cases hsame : s.plant.exportAccount = n
  · rwa [State.setExport, if_pos hsame]
  have hplant : (s.setExport n).plant.exportAccount = n := by
    rw [State.setExport, if_neg hsame, State.bindCount_frame, State.unbindCount_frame]
  refine h.rebound (old := s.plant.exportAccount) (new := n) ?_ (fun k hk => ?_) (fun k => ?_)
    (fun i o k ho hk => h.record_holds (hslots i ▸ ho) hk) fun k hk => hholds k (hplant ▸ hk)
  · rw [State.setExport, if_neg hsame]
    have hunbound : ∀ x, ({ s with plant := { s.plant with exportAccount := n } }.unbindCount x).accounts =
        (s.unbindCount x).accounts := State.unbindCount_congr (s := s) rfl
    exact State.bindCount_congr (hunbound s.plant.exportAccount) n
  · rw [State.namings_eq, if_pos hk]
    omega
  · have hnames : (s.setExport n).names k = s.names k :=
      funext fun i => State.names_of_binding (by rw [State.bindingAt, hslots, State.bindingAt]) k
    rw [State.namings_eq, State.namings_eq, hnames, hplant]
    omega

theorem reqSetExportAccount (h : s.ledgerOk) (p : PortId) (n : Option Nat) :
    (reqSetExportAccount p n s).state.ledgerOk := by
  unfold Machine.reqSetExportAccount
  repeat' split
  · exact h
  · exact h.setExport none fun _ hk => by cases hk
  · exact h
  · exact h
  · next k _ a ha hkind =>
    refine h.setExport (some k) fun m hm => ?_
    cases hm
    rw [← not_not.mp hkind]
    exact State.holds_of_account ha

/-! #### Records -/

/-- A new record names no account (R13, R28). -/
theorem reqCreateOfftake (h : s.ledgerOk) (p : PortId) (b : CreateBody) : (reqCreateOfftake p b s).state.ledgerOk := by
  unfold Machine.reqCreateOfftake
  repeat' split
  iterate 7 · exact h
  next c _ _ _ _ _ _ i hi =>
    have hvacant : s.offtake i = none := by simpa using List.find?_some hi
    exact h.created (mem_slotNumbers.mp (List.mem_of_find?_eq_some hi)) hvacant (o := createdRecord b c) rfl

theorem reqAmendOfftake (h : s.ledgerOk) (p : PortId) (b : AmendBody) : (reqAmendOfftake p b s).state.ledgerOk := by
  unfold Machine.reqAmendOfftake
  split
  · exact h
  · next o hfind =>
    have hput : (s.putOfftake b.slot (some (o.rebound (amended b o)))).ledgerOk := by
      rw [Offtake.rebound_eq]
      exact h.putOfftake (State.findRecord_ok hfind).1 _
    dsimp only
    repeat' split
    iterate 5 · exact h
    · exact hput.enterQuiet b.slot
    · exact hput

theorem reqRetireOfftake (h : s.ledgerOk) (p : PortId) (i : Nat) (tag : Tag) :
    (reqRetireOfftake p i tag s).state.ledgerOk := by
  have hretired : ∀ o, (s.retire i o).ledgerOk := fun o =>
    ((h.modOfftake i fun o => { o with retiring := true }).withdraw i o.supply.atRetirement).same rfl rfl rfl
  unfold Machine.reqRetireOfftake
  repeat' split
  iterate 3 · exact h
  · exact hretired _
  · exact (hretired _).free i

theorem reqRenegotiate (h : s.ledgerOk) (p : PortId) (i : Nat) (tag : Tag) :
    (reqRenegotiate p i tag s).state.ledgerOk := by
  unfold Machine.reqRenegotiate
  repeat' split
  iterate 3 · exact h
  exact h.enterQuiet i

theorem reqRelease (h : s.ledgerOk) (p : PortId) (i : Nat) (tag : Tag) : (reqRelease p i tag s).state.ledgerOk := by
  unfold Machine.reqRelease
  repeat' split
  iterate 4 · exact h
  exact (h.modOfftake i _).enterQuiet i

/-- SET_PLANT keeps the export account (R101). -/
theorem reqSetPlant (h : s.ledgerOk) (p : PortId) (b : PlantBody) : (reqSetPlant p b s).state.ledgerOk := by
  unfold Machine.reqSetPlant
  dsimp only
  repeat' split
  iterate 4 · exact h
  · refine h.mapSlots (Offtake.limitedTo _) rfl rfl rfl fun o => ?_
    unfold Offtake.limitedTo
    split <;> exact ⟨rfl, rfl⟩
  · exact h.same rfl rfl rfl

theorem reqPushCurtail (h : s.ledgerOk) (p : PortId) (level : Nat) : (reqPushCurtail p level s).state.ledgerOk := by
  unfold Machine.reqPushCurtail
  repeat' split
  iterate 3 · exact h
  exact h.push _ _ _ _

/-- RESTART frees the retiring records, and their namings with them (R23). -/
theorem restarted (h : s.ledgerOk) : s.restarted.ledgerOk := by
  have hslot : ∀ (t : State) (i : Nat), t.ledgerOk → (t.restartSlot i).ledgerOk := fun t i ht => by
    unfold State.restartSlot
    repeat' split
    · exact ht.free i
    · next o ho _ => exact ht.putOfftake ho o.restarted
    · exact ht
  exact (foldl hslot slotNumbers h).same (by rw [State.restarted_frame]) s.restarted_accounts
    (by rw [State.restarted_frame, restartSlots_frame])

/-! #### Every request -/

theorem request (h : s.ledgerOk) (p : PortId) (r : Request) : (replyOf p r s).state.ledgerOk := by
  cases r <;> dsimp only [replyOf]
  case createOfftake b => exact h.reqCreateOfftake p b
  case amendOfftake b => exact h.reqAmendOfftake p b
  case retireOfftake i t => exact h.reqRetireOfftake p i t
  case renegotiate i t => exact h.reqRenegotiate p i t
  case release i t => exact h.reqRelease p i t
  case setPlant b => exact h.reqSetPlant p b
  case pushCurtail level => exact h.reqPushCurtail p level
  case openAccount n k key => exact h.reqOpenAccount p n k key
  case amendAccount n key => exact h.reqAmendAccount p n key
  case retireAccount n => exact h.reqRetireAccount p n
  case bindAccount i t n => exact h.reqBindAccount p i t n
  case unbindAccount i t => exact h.reqUnbindAccount p i t
  case setExportAccount n => exact h.reqSetExportAccount p n
  case closePeriod n => exact h.reqClosePeriod p n
  case takeStatement n => exact h.reqTakeStatement p n
  case reprice n => exact h.reqReprice p n
  case restart =>
    unfold Machine.reqRestart
    split
    · exact h
    · exact h.restarted
  case popCurtail =>
    unfold Machine.reqPopCurtail
    repeat' split
    iterate 3 · exact h
    exact h.same (by rw [State.accept_state, State.pop_frame]) (by rw [State.accept_state, State.pop_frame])
      (by rw [State.accept_state, State.pop_frame])
  case readPlant | readBalance | readCurtail => exact h
  case findOfftake t | readOfftake i | readChannel c | readGrade g | readWindow w | readAccount n | readTariff i
      | readNotices =>
    dsimp only [reqFindOfftake, reqReadOfftake, reqReadChannel, reqReadGrade, reqReadWindow, reqReadAccount,
      reqReadTariff, reqReadNotices]
    split <;> exact h.same rfl rfl rfl
  case setChannel b | setCommitment v | setGrade b | setWindow b | clearWindow w | writeTariff b | invalidateTariff i
      | probeTariff m key | setSeason n | setBand b | clearNotice c | setRouting port add drop | setNoticeMode m =>
    dsimp only [reqSetChannel, reqSetCommitment, reqSetGrade, reqSetWindow, reqClearWindow, reqWriteTariff,
      reqInvalidateTariff, reqProbeTariff, reqSetSeason, reqSetBand, reqClearNotice, reqSetRouting, reqSetNoticeMode]
    repeat' split
    all_goals exact h.same rfl rfl rfl

end State.ledgerOk

/-! ### The step lemma -/

theorem State.released_ledgerOk (m n : Bool) (waiting : List Instr) :
    State.ledgerOk { State.released m n with pending := waiting } := by
  obtain ⟨-, -, -, -, -, -, -, hledger, -⟩ := resetIsLawful
  exact hledger.same rfl rfl rfl

/-- Settles O57: only the freeing of a record and the binding requests move a naming, and the bound counts with it. -/
theorem ledgerStaysBalanced : Obligations.LedgerStaysBalanced :=
  step_keeps (exec_keeps (fun _ hs => hs.same rfl rfl rfl) (fun _ m n _ => State.released_ledgerOk m n _)
      (fun p r _ _ _ _ hs => (hs.request p r).same (by simp) (by simp) (by simp)) (fun _ _ _ hf _ hs => hs.event hf))
    (fun _ hs => hs.elapse) (fun _ _ hs => hs.same rfl rfl rfl)

end Sys2Proof.Machine
end

section
/-! ## The lookup of the Tariff Match Table (R182 to R184) -/

namespace Sys2Proof.Machine

open Sys2Proof

theorem TariffPair.covers_iff {t : TariffPair} {m : Medium} {key : BitVec 12} {season : Nat} :
    t.covers m key season = true ↔
      t.valid = true ∧ t.medium = m ∧ key &&& t.mask = t.key &&& t.mask ∧ (t.shared = true ∨ t.season = season) := by
  simp [TariffPair.covers, and_assoc]

/-- A match set holds every pair that covers the key, and no pair number lies outside the table (R182). -/
theorem State.mem_matchSet {s : State} {m : Medium} {key : BitVec 12} {i : Nat} :
    i ∈ s.matchSet m key ↔ ∃ t, s.pairs[i]? = some t ∧ t.covers m key s.season = true := by
  have hbound : ∀ t, s.pairs[i]? = some t → i < Config.pairs := fun t ht => (Vector.getElem?_eq_some_iff.mp ht).1
  rw [State.matchSet, List.mem_filter, List.mem_range, Option.any_eq_true]
  exact and_iff_right_of_imp fun ⟨t, ht, _⟩ => hbound t ht

theorem State.matchSet_ascending (s : State) (m : Medium) (key : BitVec 12) : (s.matchSet m key).Pairwise (· < ·) :=
  List.pairwise_lt_range.filter _

/-- The lowest-numbered member of a match set stands first in it (R183). -/
theorem State.matchSet_eq_cons {s : State} {m : Medium} {key : BitVec 12} {i : Nat} (hi : i ∈ s.matchSet m key)
    (hlowest : ∀ j, j < i → j ∉ s.matchSet m key) : ∃ rest, s.matchSet m key = i :: rest := by
  have hascending := s.matchSet_ascending m key
  cases hset : s.matchSet m key with
  | nil => simp [hset] at hi
  | cons head rest =>
    rw [hset] at hi hascending
    rcases List.mem_cons.mp hi with rfl | hrest
    · exact ⟨rest, rfl⟩
    · exact absurd (hset ▸ List.mem_cons_self) (hlowest head (List.rel_of_pairwise_cons hascending hrest))

theorem State.lookup_of_matchSet_nil {s : State} {m : Medium} {key : BitVec 12} (hset : s.matchSet m key = []) (b : Band) :
    s.lookup m key b = ⟨none, false⟩ := by simp [State.lookup, hset]

/-- The pair that stands first in the match set is chosen, and its half alone is read (R183, R184). -/
theorem State.lookup_of_matchSet_cons {s : State} {m : Medium} {key : BitVec 12} {i : Nat} {rest : List Nat} {t : TariffPair}
    (hset : s.matchSet m key = i :: rest) (ht : s.pairs[i]? = some t) (b : Band) :
    s.lookup m key b = ⟨t.half b, !rest.isEmpty⟩ := by simp [State.lookup, hset, ht]

theorem TariffPair.half_eq_ite (t : TariffPair) (b : Band) :
    t.half b = if b = .primary then t.primary else t.secondary := by cases b <;> rfl

/-- More than one pair matches just when the match set has a member besides its first (R183). -/
theorem State.matchSet_rest_nonempty_iff {s : State} {m : Medium} {key : BitVec 12} {i : Nat} {rest : List Nat}
    (hset : s.matchSet m key = i :: rest) : rest ≠ [] ↔ ∃ j, j ≠ i ∧ j ∈ s.matchSet m key := by
  have hascending := s.matchSet_ascending m key
  rw [hset] at hascending ⊢
  constructor
  · intro hrest
    obtain ⟨j, hj⟩ := List.exists_mem_of_ne_nil rest hrest
    exact ⟨j, (List.rel_of_pairwise_cons hascending hj).ne', List.mem_cons_of_mem i hj⟩
  · rintro ⟨j, hne, hj⟩
    exact List.ne_nil_of_mem (List.mem_of_ne_of_mem hne hj)

/-- Settles O38: the pairs that match are the members of the match set (`State.mem_matchSet`), whose lowest stands first. -/
theorem lookupChoosesTheLowestMatch : Obligations.LookupChoosesTheLowestMatch := by
  intro s m key b
  simp only [← TariffPair.covers_iff, ← State.mem_matchSet]
  refine ⟨fun hnone => State.lookup_of_matchSet_nil (List.eq_nil_iff_forall_not_mem.mpr hnone) b,
    fun i t ht hi hlowest => ?_⟩
  obtain ⟨rest, hset⟩ := State.matchSet_eq_cons hi hlowest
  rw [State.lookup_of_matchSet_cons hset ht, ← State.matchSet_rest_nonempty_iff hset]
  exact ⟨t.half_eq_ite b, by simp⟩

end Sys2Proof.Machine
end

section
/-! ## WRITE_TARIFF, INVALIDATE_TARIFF, SET_SEASON and SET_BAND (R186, R187, R190, R191) -/

namespace Sys2Proof.Machine

open Sys2Proof

theorem Band.ofCode_code (b : Band) : Band.ofCode b.code = some b := by cases b <;> rfl

theorem tariffValuesOk_of {b : TariffBody} (hkey : b.key ≤ 4095) (hmask : b.mask ≤ 4095) (hseason : b.season ≤ 255)
    (hprimary : ∀ x, b.primary = some x → x ≤ 999999) (hsecondary : ∀ x, b.secondary = some x → x ≤ 999999) :
    tariffValuesOk b = true := by
  have hprice : ∀ price : Option Nat, (∀ x, price = some x → x ≤ 999999) → price.all (· ≤ 999999) = true := by
    rintro (_ | x) h
    · rfl
    · simpa using h x rfl
  simp [tariffValuesOk, hkey, hmask, hseason, hprice _ hprimary, hprice _ hsecondary]

/-- Past its checks WRITE_TARIFF writes the whole pair it carries, and makes it valid (R186). -/
theorem reqWriteTariff_writes {p : PortId} {b : TariffBody} {m : Medium} {s : State} (hright : s.hasRight p .settle = true)
    (hpair : b.pair < 16) (hmedium : b.medium = m.code) (hvalues : tariffValuesOk b = true) :
    reqWriteTariff p b s = (s.withPair b.pair (writtenPair b m)).accept := by
  simp [reqWriteTariff, hright, hpair, hmedium, Medium.ofCode_code, hvalues, State.withPair]

/-- Past its checks INVALIDATE_TARIFF rewrites the one pair it names (R187). -/
theorem reqInvalidateTariff_invalidates {p : PortId} {n : Nat} {pair : TariffPair} {s : State}
    (hright : s.hasRight p .settle = true) (hpair : s.pairs[n]? = some pair) :
    reqInvalidateTariff p n s = (s.withPair n { pair with valid := false }).accept := by
  have hn : n < 16 := (Vector.getElem?_eq_some_iff.mp hpair).1
  simp [reqInvalidateTariff, hright, hn, modAt_eq _ _ _ _ hpair, State.withPair]

theorem reqSetSeason_sets {p : PortId} {n : Nat} {s : State} (hright : s.hasRight p .settle = true) (hn : n ≤ 255) :
    reqSetSeason p n s = State.accept { s with season := n } := by
  simp [reqSetSeason, hright, hn]

theorem reqSetBand_sets {p : PortId} {s : State} (b : Band) (hright : s.hasRight p .settle = true) :
    reqSetBand p b.code s = State.accept { s with band := b } := by
  simp [reqSetBand, hright, Band.ofCode_code]

/-- Settles O37: past their checks the requests write one pair (`withPair`), the season or the band. -/
theorem tariffRequestsComplete : Obligations.TariffRequestsComplete := by
  intro p s q hright
  refine ⟨fun b m htakes hpair hmedium hkey hmask hseason hprimary hsecondary => ?_, fun n pair htakes hpair => ?_,
    fun n htakes hn => ?_, fun b htakes => ?_⟩
  · have hvalues := tariffValuesOk_of hkey hmask hseason hprimary hsecondary
    exact exec_reply htakes (reqWriteTariff_writes hright hpair hmedium hvalues)
  · exact exec_reply htakes (reqInvalidateTariff_invalidates hright hpair)
  · exact exec_reply htakes (reqSetSeason_sets hright hn)
  · exact exec_reply htakes (reqSetBand_sets b hright)

end Sys2Proof.Machine
end

section
/-! # The request ports, the notices and the start-up

The declarations below are elaborated one after another: the memory the whole text needs at once stays smaller. -/

set_option Elab.async false

section
/-! ## A step, and what stands still in reset (R198, R205) -/

namespace Sys2Proof.Machine

open Sys2Proof

theorem step_cons {s : State} {c : Instr} {rest : List Instr} (h : s.pending = c :: rest) :
    step s = exec c { s with pending := rest } := by rw [step, h]

theorem step_idle {s : State} (h : s.pending = []) : step s = idleStep s := by rw [step, h]

theorem idleStep_inReset {s : State} (h : s.inReset = true) : idleStep s = .next s := if_pos h

theorem idleStep_quiet {s : State} (h : s.inReset = false) (hdue : s.due = none) : idleStep s = .next s.elapse := by
  rw [idleStep, h, hdue]
  rfl

theorem idleStep_due {s : State} {c : Instr} (h : s.inReset = false) (hdue : s.due = some c) : idleStep s = exec c s := by
  rw [idleStep, h, hdue]
  rfl

/-- Settles O1. -/
theorem stepRunsTheFrontCommand : Obligations.StepRunsTheFrontCommand := fun _ _ _ hfront => step_cons hfront

/-- Settles O2: the three cases of `idleStep`. -/
theorem idleStepTakesWhatIsDue : Obligations.IdleStepTakesWhatIsDue := by
  intro s hempty
  rw [step_idle hempty]
  exact ⟨idleStep_inReset, idleStep_quiet, fun hrun _ hdue => idleStep_due hrun hdue⟩

/-! ### Reset -/

theorem alertLine_inReset {s : State} (h : s.inReset = true) (p : PortId) : alertLine s p = false := by
  simp [alertLine, h]

theorem State.intoReset_port (s : State) (p : PortId) : s.intoReset.port p = { s.port p with miso := [] } := by
  cases p <;> rfl

/-- Settles O5: the fall of RESETn writes the outputs alone, and the release is `State.released`, which reads the
straps in two fields. -/
theorem fullResetAndReleaseComplete : Obligations.FullResetAndReleaseComplete := by
  intro s m n
  refine ⟨⟨s.intoReset, rfl, rfl, fun p => ⟨alertLine_inReset rfl p, ?_⟩, rfl⟩, rfl⟩
  rw [State.intoReset_port]

/-- Settles O6: a request is discarded in reset, and an event does not run. -/
theorem nothingRunsInReset : Obligations.NothingRunsInReset := by
  intro c s hreset hfull hrelease
  rcases exec_cases c with rfl | ⟨m, n, rfl⟩ | ⟨p, r, rfl⟩ | ⟨f, hf⟩
  · exact absurd rfl hfull
  · exact absurd rfl (hrelease m n)
  · rw [exec_request, applyRequest_discarded (.inl hreset)]
  · rw [exec_event hf, runEvent_inReset hreset]

end Sys2Proof.Machine
end

section
/-! ## Figures and request bodies on the wire (section 11.4, R207, R209) -/

namespace Sys2Proof

@[simp] theorem length_beBytes (w v : Nat) : (beBytes w v).length = w := by
  induction w with
  | zero => rfl
  | succ w ih => rw [beBytes, List.length_cons, ih]

theorem beBytes_one (v : Nat) : beBytes 1 v = [BitVec.ofNat 8 v] := by simp [beBytes]

theorem fitsBytes_iff {w v : Nat} : fitsBytes w v = true ↔ v < 256 ^ w := by simp [fitsBytes]

/-! ### Each figure is read back, and what follows it is left -/

theorem takeNat_append {w : Nat} {bs rest : List Byte} (h : bs.length = w) :
    takeNat w (bs ++ rest) = some (beNat bs, rest) := by
  subst h
  simp [takeNat]

theorem takeNat_put {w v : Nat} (h : fitsBytes w v = true) (rest : List Byte) :
    takeNat w (beBytes w v ++ rest) = some (v, rest) := by
  rw [takeNat_append (length_beBytes w v), beNat_beBytes (fitsBytes_iff.mp h)]

theorem takeInt_put {w : Nat} {v : Int} (hw : 1 ≤ w) (h : fitsSigned w v = true) (rest : List Byte) :
    takeInt w (putInt w v ++ rest) = some (v, rest) := by
  obtain ⟨k, rfl⟩ := Nat.exists_eq_add_of_le' hw
  obtain ⟨hlow, hhigh⟩ := of_decide_eq_true h
  rw [Nat.add_sub_cancel] at hlow hhigh
  have hread : signedOf (k + 1) (unsignedOf (k + 1) v) = v := signedOf_unsignedOf (by omega) (by omega)
  rw [takeInt, putInt, takeNat_put (fitsBytes_iff.mpr (unsignedOf_lt (k + 1) v)), Option.map_some, hread]

theorem takeChannel_put {c : Option Nat} (h : fitsChannel c = true) (rest : List Byte) :
    takeChannel (putChannel c ++ rest) = some (c, rest) := by
  have hbound : c.getD 0 < 255 := of_decide_eq_true h
  cases c with
  | none => rw [takeChannel, putChannel, takeNat_put rfl]; rfl
  | some n =>
    have hn : n < 255 := hbound
    rw [takeChannel, putChannel, takeNat_put (fitsBytes_iff.mpr (show n < 256 by omega))]
    simp [hn.ne]

theorem takePrice_put {c : Option Nat} (h : fitsPrice c = true) (rest : List Byte) :
    takePrice (putPrice c ++ rest) = some (c, rest) := by
  have hbound : c.getD 0 < 4294967295 := of_decide_eq_true h
  cases c with
  | none => rw [takePrice, putPrice, takeNat_put rfl]; rfl
  | some n =>
    have hn : n < 4294967295 := hbound
    rw [takePrice, putPrice, takeNat_put (fitsBytes_iff.mpr (show n < 4294967296 by omega))]
    simp [hn.ne]

theorem takeAccount_put {c : Option Nat} (h : fitsAccount c = true) (rest : List Byte) :
    takeAccount (putAccount c ++ rest) = some (c, rest) := by
  obtain ⟨hzero, hbound⟩ := of_decide_eq_true h
  cases c with
  | none => rw [takeAccount, putAccount, takeNat_put rfl]; rfl
  | some n =>
    have hn : n ≠ 0 := fun h => hzero (congrArg some h)
    rw [takeAccount, putAccount, takeNat_put (fitsBytes_iff.mpr (show n < 65536 from hbound))]
    simp [hn]

theorem takeTag_put (t : Tag) (rest : List Byte) : takeTag (putTag t ++ rest) = some (t, rest) := by
  rw [takeTag, putTag, takeNat_put (fitsBytes_iff.mpr t.isLt)]
  simp

theorem takeBits16_put (m : BitVec 16) (rest : List Byte) : takeBits16 (putBits16 m ++ rest) = some (m, rest) := by
  rw [takeBits16, putBits16, takeNat_put (fitsBytes_iff.mpr m.isLt)]
  simp

/-! ### Each block of figures is read back

A block is read figure after figure: the reading of the next one is replaced by the figure and what follows it. -/

theorem bind_taken {α β : Type} {x : Option α} {a : α} (h : x = some a) (k : α → Option β) : (x >>= k) = k a := by
  rw [h]
  rfl

theorem bind_takeNat {α : Type} {w v : Nat} (h : fitsBytes w v = true) (rest : List Byte)
    (k : Nat × List Byte → Option α) : (takeNat w (beBytes w v ++ rest) >>= k) = k (v, rest) :=
  bind_taken (takeNat_put h rest) k

theorem bind_takeByte {α : Type} (b : Byte) (rest : List Byte) (k : Nat × List Byte → Option α) :
    (takeNat 1 (beBytes 1 b.toNat ++ rest) >>= k) = k (b.toNat, rest) := bind_takeNat (fitsBytes_iff.mpr b.isLt) rest k

theorem bind_takeFlag {α : Type} (b : Bool) (rest : List Byte) (k : Nat × List Byte → Option α) :
    (takeNat 1 (beBytes 1 b.toNat ++ rest) >>= k) = k (b.toNat, rest) :=
  bind_takeNat (fitsBytes_iff.mpr (b.toNat_lt.trans (by decide))) rest k

theorem bind_takeInt {α : Type} {w : Nat} {v : Int} (hw : 1 ≤ w) (h : fitsSigned w v = true) (rest : List Byte)
    (k : Int × List Byte → Option α) : (takeInt w (putInt w v ++ rest) >>= k) = k (v, rest) :=
  bind_taken (takeInt_put hw h rest) k

theorem bind_takeChannel {α : Type} {c : Option Nat} (h : fitsChannel c = true) (rest : List Byte)
    (k : Option Nat × List Byte → Option α) : (takeChannel (putChannel c ++ rest) >>= k) = k (c, rest) :=
  bind_taken (takeChannel_put h rest) k

theorem bind_takePrice {α : Type} {c : Option Nat} (h : fitsPrice c = true) (rest : List Byte)
    (k : Option Nat × List Byte → Option α) : (takePrice (putPrice c ++ rest) >>= k) = k (c, rest) :=
  bind_taken (takePrice_put h rest) k

theorem bind_takeTag {α : Type} (t : Tag) (rest : List Byte) (k : Tag × List Byte → Option α) :
    (takeTag (putTag t ++ rest) >>= k) = k (t, rest) :=
  bind_taken (takeTag_put t rest) k

theorem bind_takeBits16 {α : Type} (m : BitVec 16) (rest : List Byte) (k : BitVec 16 × List Byte → Option α) :
    (takeBits16 (putBits16 m ++ rest) >>= k) = k (m, rest) :=
  bind_taken (takeBits16_put m rest) k

theorem takeFigures_put {f : OfftakeFigures} (h : f.wf = true) (rest : List Byte) :
    takeFigures (putFigures f ++ rest) = some (f, rest) := by
  simp only [OfftakeFigures.wf, Bool.and_eq_true] at h
  simp only [putFigures, List.append_assoc]
  simp only [takeFigures, ↓bind_takeNat, ↓bind_takeByte, h, BitVec.ofNat_toNat, BitVec.setWidth_eq]

theorem takeSlotTag_put {i : Nat} (h : fitsBytes 1 i = true) (t : Tag) (rest : List Byte) :
    takeSlotTag (beBytes 1 i ++ (putTag t ++ rest)) = some (i, t, rest) := by
  simp only [takeSlotTag, ↓bind_takeNat, ↓bind_takeTag, h]

theorem takeChannelBody_put {b : ChannelBody} (h : b.wf = true) (rest : List Byte) :
    takeChannelBody (putChannelBody b ++ rest) = some (b, rest) := by
  simp only [ChannelBody.wf, Bool.and_eq_true] at h
  simp only [putChannelBody, List.append_assoc]
  simp only [takeChannelBody, ↓bind_takeNat, ↓bind_takeInt, h, Nat.one_le_ofNat]

theorem takeGradeBody_put {b : GradeBody} (h : b.wf = true) (rest : List Byte) :
    takeGradeBody (putGradeBody b ++ rest) = some (b, rest) := by
  simp only [GradeBody.wf, Bool.and_eq_true] at h
  simp only [putGradeBody, List.append_assoc]
  simp only [takeGradeBody, ↓bind_takeNat, ↓bind_takeInt, ↓bind_takeChannel, h, Nat.one_le_ofNat]

theorem takeWindowBody_put {b : WindowBody} (h : b.wf = true) (rest : List Byte) :
    takeWindowBody (putWindowBody b ++ rest) = some (b, rest) := by
  simp only [WindowBody.wf, Bool.and_eq_true] at h
  simp only [putWindowBody, List.append_assoc]
  simp only [takeWindowBody, ↓bind_takeNat, ↓bind_takeInt, ↓bind_takeTag, h, Nat.one_le_ofNat]

theorem takePlantBody_put {b : PlantBody} (h : b.wf = true) (rest : List Byte) :
    takePlantBody (putPlantBody b ++ rest) = some (b, rest) := by
  simp only [PlantBody.wf, Bool.and_eq_true] at h
  simp only [putPlantBody, List.append_assoc]
  simp only [takePlantBody, ↓bind_takeNat, ↓bind_takeChannel, h]

theorem takeTariffBody_put {b : TariffBody} (h : b.wf = true) (rest : List Byte) :
    takeTariffBody (putTariffBody b ++ rest) = some (b, rest) := by
  simp only [TariffBody.wf, Bool.and_eq_true] at h
  have hflag : decide (b.shared.toNat ≠ 0) = b.shared := by cases b.shared <;> rfl
  simp only [putTariffBody, List.append_assoc]
  simp only [takeTariffBody, ↓bind_takeNat, ↓bind_takeFlag, ↓bind_takePrice, h, hflag]

end Sys2Proof
end

section
/-! ## Requests on the wire (R207, R209) -/

namespace Sys2Proof

/-! ### Each request is read back from its body -/

theorem takeCreate_put {b : CreateBody} (h : b.fig.wf = true) (rest : List Byte) :
    takeCreate ((putTag b.tag ++ putFigures b.fig) ++ rest) = some (b, rest) := by
  rw [List.append_assoc]
  simp only [takeCreate, ↓bind_takeTag, ↓bind_taken (takeFigures_put h rest)]

theorem takeAmend_put {b : AmendBody} (h : (fitsBytes 1 b.slot && b.fig.wf) = true) (rest : List Byte) :
    takeAmend ((beBytes 1 b.slot ++ (putTag b.tag ++ (putBits16 b.mask ++ putFigures b.fig))) ++ rest) =
      some (b, rest) := by
  obtain ⟨hslot, hfig⟩ := (Bool.and_eq_true _ _).mp h
  simp only [List.append_assoc]
  simp only [takeAmend, ↓bind_takeNat, ↓bind_takeTag, ↓bind_takeBits16, ↓bind_taken (takeFigures_put hfig rest), hslot]

theorem takeSlotTag_body {i : Nat} (h : fitsBytes 1 i = true) (t : Tag) (rest : List Byte) :
    takeSlotTag ((beBytes 1 i ++ putTag t) ++ rest) = some (i, t, rest) := by
  rw [List.append_assoc, takeSlotTag_put h]

/-- A request made from figures that are read. -/
theorem map_taken {α : Type} {x : Option α} {a : α} (h : x = some a) (f : α → Request) : x.map f = some (f a) := by
  rw [h, Option.map_some]

/-- A request is read back from bytes that begin with its body. -/
theorem takeRequestBody_put {r : Request} (h : r.wf = true) (rest : List Byte) :
    takeRequestBody r.code (r.body ++ rest) = some r := by
  cases r with
  | createOfftake => exact map_taken (takeCreate_put h rest) (.createOfftake ·.1)
  | amendOfftake => exact map_taken (takeAmend_put h rest) (.amendOfftake ·.1)
  | findOfftake t => exact map_taken (takeTag_put t rest) (.findOfftake ·.1)
  | readOfftake => exact map_taken (takeNat_put h rest) (.readOfftake ·.1)
  | retireOfftake i t => exact map_taken (takeSlotTag_body h t rest) fun x => .retireOfftake x.1 x.2.1
  | renegotiate i t => exact map_taken (takeSlotTag_body h t rest) fun x => .renegotiate x.1 x.2.1
  | release i t => exact map_taken (takeSlotTag_body h t rest) fun x => .release x.1 x.2.1
  | setChannel => exact map_taken (takeChannelBody_put h rest) (.setChannel ·.1)
  | readChannel => exact map_taken (takeNat_put h rest) (.readChannel ·.1)
  | setGrade => exact map_taken (takeGradeBody_put h rest) (.setGrade ·.1)
  | readGrade => exact map_taken (takeNat_put h rest) (.readGrade ·.1)
  | setWindow => exact map_taken (takeWindowBody_put h rest) (.setWindow ·.1)
  | clearWindow => exact map_taken (takeNat_put h rest) (.clearWindow ·.1)
  | readWindow => exact map_taken (takeNat_put h rest) (.readWindow ·.1)
  | setPlant => exact map_taken (takePlantBody_put h rest) (.setPlant ·.1)
  | readPlant => rfl
  | setCommitment => exact map_taken (takeInt_put (by decide) h rest) (.setCommitment ·.1)
  | readBalance => rfl
  | pushCurtail => exact map_taken (takeNat_put h rest) (.pushCurtail ·.1)
  | popCurtail => rfl
  | readCurtail => rfl
  | openAccount n k key =>
    obtain ⟨hnk, hkey⟩ := Bool.and_eq_true_iff.mp h
    obtain ⟨hn, hk⟩ := Bool.and_eq_true_iff.mp hnk
    rw [show (Request.openAccount n k key).body ++ rest = _ from List.append_assoc _ _ _, List.append_assoc]
    exact (bind_takeNat hn _ _).trans ((bind_takeNat hk _ _).trans (bind_takeNat hkey rest _))
  | amendAccount n key =>
    obtain ⟨hn, hkey⟩ := Bool.and_eq_true_iff.mp h
    rw [show (Request.amendAccount n key).body ++ rest = _ from List.append_assoc _ _ _]
    exact (bind_takeNat hn _ _).trans (bind_takeNat hkey rest _)
  | readAccount => exact map_taken (takeNat_put h rest) (.readAccount ·.1)
  | retireAccount => exact map_taken (takeNat_put h rest) (.retireAccount ·.1)
  | bindAccount i t n =>
    obtain ⟨hi, hn⟩ := Bool.and_eq_true_iff.mp h
    rw [show (Request.bindAccount i t n).body ++ rest = _ from List.append_assoc _ _ _, List.append_assoc]
    exact (bind_taken (takeSlotTag_put hi t _) _).trans (bind_takeNat hn rest _)
  | unbindAccount i t => exact map_taken (takeSlotTag_body h t rest) fun x => .unbindAccount x.1 x.2.1
  | setExportAccount => exact map_taken (takeAccount_put h rest) (.setExportAccount ·.1)
  | closePeriod => exact map_taken (takeNat_put h rest) (.closePeriod ·.1)
  | takeStatement => exact map_taken (takeNat_put h rest) (.takeStatement ·.1)
  | reprice => exact map_taken (takeNat_put h rest) (.reprice ·.1)
  | writeTariff => exact map_taken (takeTariffBody_put h rest) (.writeTariff ·.1)
  | invalidateTariff => exact map_taken (takeNat_put h rest) (.invalidateTariff ·.1)
  | readTariff => exact map_taken (takeNat_put h rest) (.readTariff ·.1)
  | probeTariff n key =>
    obtain ⟨hn, hkey⟩ := Bool.and_eq_true_iff.mp h
    rw [show (Request.probeTariff n key).body ++ rest = _ from List.append_assoc _ _ _]
    exact (bind_takeNat hn _ _).trans (bind_takeNat hkey rest _)
  | setSeason => exact map_taken (takeNat_put h rest) (.setSeason ·.1)
  | setBand => exact map_taken (takeNat_put h rest) (.setBand ·.1)
  | readNotices => rfl
  | clearNotice => exact map_taken (takeNat_put h rest) (.clearNotice ·.1)
  | setRouting port add drop =>
    rw [show (Request.setRouting port add drop).body ++ rest = _ from List.append_assoc _ _ _, List.append_assoc]
    exact (bind_takeNat h _ _).trans ((bind_takeBits16 add _ _).trans (bind_takeBits16 drop rest _))
  | setNoticeMode => exact map_taken (takeNat_put h rest) (.setNoticeMode ·.1)
  | restart => rfl

/-- The body of a request has the length of its kind (R209). -/
theorem bodyLength_code (r : Request) : bodyLength r.code = some r.body.length := by cases r <;> rfl

theorem Request.code_lt (r : Request) : r.code < 256 := by cases r <;> exact Nat.le_of_ble_eq_true rfl

theorem Request.length_body_lt (r : Request) : r.body.length < 256 := by
  cases r <;> exact Nat.le_of_ble_eq_true rfl

end Sys2Proof
end

section
/-! ## Frames of requests (R196)

A frame is read as a row of entries, each a kind code, a length and a body; `readFrame_eq_some` says once what a row of
bytes that is read has been examined for. -/

namespace Sys2Proof

/-- A kind code and a body as they stand in a frame (R207). -/
def requestEntry (r : Byte × List Byte) : List Byte := r.1 :: BitVec.ofNat 8 r.2.length :: r.2

/-- The entry is of a kind in the table, with its kind's length, and spells the request. -/
def Spells (r : Byte × List Byte) (q : Request) : Prop :=
  bodyLength r.1.toNat = some r.2.length ∧ takeRequestBody r.1.toNat r.2 = some q

/-- The entries spell the requests. -/
abbrev Spelt (rs : List (Byte × List Byte)) (qs : List Request) : Prop := List.Forall₂ Spells rs qs

theorem Spelt.of_mem {rs : List (Byte × List Byte)} {qs : List Request} (h : Spelt rs qs) {r : Byte × List Byte}
    (hr : r ∈ rs) : ∃ q ∈ qs, Spells r q := by
  induction h with
  | nil => cases hr
  | cons hq _ ih =>
    rcases List.mem_cons.mp hr with rfl | hr
    · exact ⟨_, List.mem_cons_self, hq⟩
    · obtain ⟨q, hmem, hspells⟩ := ih hr
      exact ⟨q, List.mem_cons_of_mem _ hmem, hspells⟩

theorem takeNat_cons (b : Byte) (bs : List Byte) : takeNat 1 (b :: bs) = some (b.toNat, bs) := by
  simp [takeNat, beNat]

theorem takeNat_two (a b : Byte) (bs : List Byte) : takeNat 2 (a :: b :: bs) = some (a.toNat * 256 + b.toNat, bs) := by
  simp [takeNat, beNat]

theorem takeNat_nil {w : Nat} (hw : 1 ≤ w) : takeNat w [] = none := if_pos hw

/-- The requests of a row that begins with an entry. -/
theorem takeRequests_entry {r : Byte × List Byte} (hlen : r.2.length < 256) (n : Nat) (rest : List Byte)
    (qs : List Request) :
    takeRequests (n + 1) (requestEntry r ++ rest) = some qs ↔
      ∃ q later, Spells r q ∧ takeRequests n rest = some later ∧ q :: later = qs := by
  have hbyte : (BitVec.ofNat 8 r.2.length).toNat = r.2.length := by
    rw [BitVec.toNat_ofNat, Nat.mod_eq_of_lt hlen]
  simp only [takeRequests, requestEntry, List.cons_append, takeNat_cons, Option.bind_eq_bind, Option.bind_some, hbyte,
    List.length_append, Nat.le_add_right, and_true, List.take_left, List.drop_left, Spells]
  by_cases hkind : bodyLength r.1.toNat = some r.2.length
  · simp [hkind, Option.bind_eq_some_iff]
  · simp [hkind]

/-- A row of entries is read entry by entry, and what is behind it with the count that is left. -/
theorem takeRequests_entries (rest : List Byte) : ∀ (rs : List (Byte × List Byte)) (n : Nat) (qs : List Request),
    (∀ r ∈ rs, r.2.length < 256) → takeRequests n (rs.flatMap requestEntry ++ rest) = some qs →
    ∃ m first later, n = rs.length + m ∧ Spelt rs first ∧ takeRequests m rest = some later
      ∧ qs = first ++ later := by
  intro rs
  induction rs with
  | nil => exact fun n qs _ h => ⟨n, [], qs, by simp, .nil, h, rfl⟩
  | cons r rs ih =>
    intro n qs hlen h
    rw [List.flatMap_cons, List.append_assoc] at h
    cases n with
    | zero => simp [takeRequests, requestEntry] at h
    | succ n =>
      obtain ⟨q, behind, hq, hbehind, rfl⟩ := (takeRequests_entry (hlen r (by simp)) n _ qs).mp h
      obtain ⟨m, first, later, rfl, hfirst, hlater, rfl⟩ := ih n behind (fun x hx => hlen x (by simp [hx])) hbehind
      exact ⟨m, q :: first, later, by simp; omega, .cons hq hfirst, hlater, rfl⟩

/-- Bytes that fill a row of `n` requests leave nothing. -/
theorem takeRequests_nil {n : Nat} {qs : List Request} (h : takeRequests n [] = some qs) : n = 0 ∧ qs = [] := by
  cases n with
  | zero => simpa [takeRequests, eq_comm] using h
  | succ n => simp [takeRequests, takeNat_nil] at h

theorem takeRequests_zero {bs : List Byte} {qs : List Request} (h : takeRequests 0 bs = some qs) : bs = [] := by
  rw [takeRequests] at h
  split at h
  · assumption
  · cases h

/-- A body that runs beyond the frame is not read. -/
theorem takeRequests_short {code len : Byte} {body : List Byte} (h : body.length < len.toNat) (n : Nat) :
    takeRequests (n + 1) (code :: len :: body) = none := by
  simp [takeRequests, takeNat_cons, Nat.not_le.mpr h]

/-- The entry by which a frame carries a request. -/
def Request.entry (r : Request) : Byte × List Byte := (BitVec.ofNat 8 r.code, r.body)

theorem Request.entry_code (r : Request) : r.entry.1.toNat = r.code := by
  rw [Request.entry, BitVec.toNat_ofNat, Nat.mod_eq_of_lt r.code_lt]

theorem Request.bytes_eq (r : Request) : r.bytes = requestEntry r.entry := by
  simp [Request.bytes, requestEntry, Request.entry, beBytes_one]

theorem Request.entry_spells {r : Request} (h : r.wf = true) : Spells r.entry r := by
  refine ⟨?_, ?_⟩
  · rw [r.entry_code]
    exact bodyLength_code r
  · rw [r.entry_code]
    simpa [Request.entry] using takeRequestBody_put h []

theorem takeRequests_requestBytes {rs : List Request} (h : ∀ r ∈ rs, r.wf = true) :
    takeRequests rs.length (requestBytes rs) = some rs := by
  induction rs with
  | nil => rfl
  | cons r rs ih =>
    have hrow : requestBytes (r :: rs) = requestEntry r.entry ++ requestBytes rs := by
      simp [requestBytes, Request.bytes_eq]
    rw [hrow, List.length_cons, takeRequests_entry r.length_body_lt]
    exact ⟨r, rs, Request.entry_spells (h r (by simp)), ih fun x hx => h x (by simp [hx]), rfl⟩

end Sys2Proof
end

section
/-! ### The checks of a frame -/

namespace Sys2Proof

/-- What a row of bytes `a b tag count rest` read as frame `f` has been examined for (R196). -/
structure Frame.ReadFrom (f : Frame) (a b tag count : Byte) (rest : List Byte) : Prop where
  filled : 2 ≤ rest.length
  declared : a.toNat * 256 + b.toNat = rest.length + 4
  short : rest.length + 4 ≤ 256
  checked : crc16 ((a :: b :: tag :: count :: rest).take (rest.length + 2)) =
    BitVec.ofNat 16 (beNat ((a :: b :: tag :: count :: rest).drop (rest.length + 2)))
  counted : 1 ≤ count.toNat ∧ count.toNat ≤ 8
  requests : takeRequests count.toNat (rest.take (rest.length - 2)) = some f.requests
  alone : restartAlone f.requests = true
  tagged : f.seqTag = tag.toNat

/-- A frame of the lengths R196 allows, its check not yet judged. -/
theorem readFrame_of_length {a b tag count : Byte} {rest : List Byte} (hfilled : 2 ≤ rest.length)
    (hdeclared : a.toNat * 256 + b.toNat = rest.length + 4) (hshort : rest.length + 4 ≤ 256) :
    readFrame (a :: b :: tag :: count :: rest) =
      if crc16 ((a :: b :: tag :: count :: rest).take (rest.length + 2)) ≠
          BitVec.ofNat 16 (beNat ((a :: b :: tag :: count :: rest).drop (rest.length + 2))) then none
      else if count.toNat = 0 ∨ 8 < count.toNat then none
      else (takeRequests count.toNat (rest.take (rest.length - 2))).bind fun rs =>
        if restartAlone rs then some ⟨tag.toNat, rs⟩ else none := by
  have hlen : ¬ (rest.length + 4 < 6 ∨ 256 < rest.length + 4
      ∨ rest.length + 4 ≠ (a :: b :: tag :: count :: rest).length) := by
    simp only [List.length_cons]
    omega
  simp only [readFrame, takeNat_two, takeNat_cons, Option.bind_eq_bind, Option.bind_some, hdeclared, if_neg hlen,
    show rest.length + 4 - 2 = rest.length + 2 from rfl]
  rfl

/-- A frame of another length than it declares, or than R196 allows, is malformed. -/
theorem readFrame_length {bytes : List Byte} (h : (readFrame bytes).isSome = true) :
    ∃ a b tag count rest, bytes = a :: b :: tag :: count :: rest ∧ 2 ≤ rest.length
      ∧ a.toNat * 256 + b.toNat = rest.length + 4 ∧ rest.length + 4 ≤ 256 := by
  rcases bytes with _ | ⟨a, _ | ⟨b, bytes⟩⟩
  · simp [readFrame, takeNat] at h
  · simp [readFrame, takeNat] at h
  · simp only [readFrame, takeNat_two, Option.bind_eq_bind, Option.bind_some] at h
    split at h
    · cases h
    · next hlen =>
      simp only [List.length_cons] at hlen
      rcases bytes with _ | ⟨tag, _ | ⟨count, rest⟩⟩
      · simp only [List.length_nil] at hlen
        omega
      · simp only [List.length_cons, List.length_nil] at hlen
        omega
      · simp only [List.length_cons] at hlen
        exact ⟨a, b, tag, count, rest, rfl, by omega, by omega, by omega⟩

theorem readFrame_eq_some {bytes : List Byte} {f : Frame} :
    readFrame bytes = some f ↔
      ∃ a b tag count rest, bytes = a :: b :: tag :: count :: rest ∧ f.ReadFrom a b tag count rest := by
  constructor
  · intro h
    obtain ⟨a, b, tag, count, rest, rfl, hfilled, hdeclared, hshort⟩ := readFrame_length (by rw [h]; rfl)
    rw [readFrame_of_length hfilled hdeclared hshort] at h
    split at h
    · cases h
    · next hcheck =>
      split at h
      · cases h
      · next hcount =>
        obtain ⟨rs, hrs, hframe⟩ := Option.bind_eq_some_iff.mp h
        split at hframe
        · next halone =>
          cases hframe
          exact ⟨a, b, tag, count, rest, rfl, hfilled, hdeclared, hshort, not_not.mp hcheck, by omega, hrs, halone, rfl⟩
        · cases hframe
  · rintro ⟨a, b, tag, count, rest, rfl, h⟩
    obtain ⟨hfilled, hdeclared, hshort, hchecked, ⟨hone, height⟩, hrequests, halone, htagged⟩ := h
    rw [readFrame_of_length hfilled hdeclared hshort, if_neg (not_not.mpr hchecked), if_neg (by omega), hrequests,
      Option.bind_some, if_pos halone, ← htagged]

theorem beNat_check (check : BitVec 16) : beNat (beBytes 2 check.toNat) = check.toNat := beNat_beBytes check.isLt

/-- The bytes of a sealed frame. -/
theorem sealed_cons (tag count : Byte) (body : List Byte) :
    sealed (beBytes 2 (body.length + 6) ++ tag :: count :: body) =
      BitVec.ofNat 8 ((body.length + 6) / 256) :: BitVec.ofNat 8 (body.length + 6) :: tag :: count ::
        (body ++ beBytes 2 (crc16 (beBytes 2 (body.length + 6) ++ tag :: count :: body)).toNat) := by
  simp [sealed, beBytes]

/-- A sealed frame is read when its length, its count and its requests are in order. -/
theorem readFrame_sealed {tag count : Byte} {body : List Byte} {f : Frame} :
    readFrame (sealed (beBytes 2 (body.length + 6) ++ tag :: count :: body)) = some f ↔
      body.length + 6 ≤ 256 ∧ (1 ≤ count.toNat ∧ count.toNat ≤ 8) ∧ takeRequests count.toNat body = some f.requests
        ∧ restartAlone f.requests = true ∧ f.seqTag = tag.toNat := by
  have hheader : beBytes 2 (body.length + 6) ++ tag :: count :: body =
      BitVec.ofNat 8 ((body.length + 6) / 256) :: BitVec.ofNat 8 (body.length + 6) :: tag :: count :: body := by
    simp [beBytes]
  rw [readFrame_eq_some, sealed_cons, hheader]
  constructor
  · rintro ⟨a, b, tag, count, rest, hbytes, h⟩
    cases hbytes
    have hshort := h.short
    have hrequests := h.requests
    simp only [List.length_append, length_beBytes, Nat.add_sub_cancel, List.take_left] at hshort hrequests
    exact ⟨hshort, h.counted, hrequests, h.alone, h.tagged⟩
  · rintro ⟨hshort, hcount, hrequests, halone, htagged⟩
    refine ⟨_, _, _, _, _, rfl, ?_, ?_, ?_, ?_, hcount, ?_, halone, htagged⟩
    · simp
    · simp only [BitVec.toNat_ofNat, List.length_append, length_beBytes]
      omega
    · simp only [List.length_append, length_beBytes]
      omega
    · simp [beNat_check]
    · simp only [List.length_append, length_beBytes, Nat.add_sub_cancel, List.take_left]
      exact hrequests

/-- A row of entries that is read is well formed entry by entry, and holds no RESTART beside another request. -/
theorem readFrame_entries {tag count : Byte} {rs : List (Byte × List Byte)} (hlen : ∀ r ∈ rs, r.2.length < 256)
    {extra : List Byte} {f : Frame}
    (h : readFrame (sealed (beBytes 2 ((rs.flatMap requestEntry).length + extra.length + 6) ++
      tag :: count :: (rs.flatMap requestEntry ++ extra))) = some f) :
    ∃ m first later, count.toNat = rs.length + m ∧ Spelt rs first ∧ takeRequests m extra = some later
      ∧ f.requests = first ++ later ∧ restartAlone f.requests = true := by
  rw [← List.length_append] at h
  obtain ⟨-, -, hrequests, halone, -⟩ := readFrame_sealed.mp h
  obtain ⟨m, first, later, hcount, hfirst, hlater, heq⟩ := takeRequests_entries extra rs _ _ hlen hrequests
  exact ⟨m, first, later, hcount, hfirst, hlater, heq, halone⟩

theorem restartAlone_of_mem {rs : List Request} (hmem : .restart ∈ rs) (h : restartAlone rs = true) : rs.length = 1 := by
  simpa [restartAlone, hmem] using h

/-- An entry with RESTART's code spells RESTART. -/
theorem Spells.restart {r : Byte × List Byte} {q : Request} (h : Spells r q) (hcode : r.1 = 0x7F#8) : q = .restart := by
  obtain ⟨-, hbody⟩ := h
  rw [hcode] at hbody
  exact (Option.some.inj hbody).symm

/-- A well-formed frame is read back from its bytes. -/
theorem readFrame_bytes {f : Frame} (h : f.wf = true) : readFrame f.bytes = some f := by
  simp only [Frame.wf, Bool.and_eq_true, decide_eq_true_eq, fitsBytes_iff, List.all_eq_true] at h
  obtain ⟨⟨⟨⟨⟨htag, hone⟩, height⟩, hwf⟩, hshort⟩, halone⟩ := h
  have hbytes : f.bytes = sealed (beBytes 2 ((requestBytes f.requests).length + 6) ++
      BitVec.ofNat 8 f.seqTag :: BitVec.ofNat 8 f.requests.length :: requestBytes f.requests) := by
    simp [Frame.bytes, beBytes_one]
  have hcount : (BitVec.ofNat 8 f.requests.length).toNat = f.requests.length := by
    rw [BitVec.toNat_ofNat]
    omega
  rw [hbytes, readFrame_sealed, hcount]
  refine ⟨hshort, ⟨hone, height⟩, takeRequests_requestBytes hwf, halone, ?_⟩
  rw [BitVec.toNat_ofNat]
  omega

/-- A frame whose check fails is not read. -/
theorem readFrame_unchecked {bytes : List Byte} {a b : Byte} (h : a.toNat * 256 + b.toNat ≠ (crc16 bytes).toNat) :
    readFrame (bytes ++ [a, b]) = none := by
  refine Option.eq_none_iff_forall_ne_some.mpr fun f hread => h ?_
  obtain ⟨x, y, tag, count, rest, hbytes, hfrom⟩ := readFrame_eq_some.mp hread
  have hlen := congrArg List.length hbytes
  simp only [List.length_append, List.length_cons, List.length_nil] at hlen
  have hchecked := hfrom.checked
  rw [← hbytes, show rest.length + 2 = bytes.length by omega, List.take_left, List.drop_left] at hchecked
  have hspelt : beNat [a, b] = a.toNat * 256 + b.toNat := by simp [beNat]
  rw [hchecked, hspelt, BitVec.toNat_ofNat, Nat.mod_eq_of_lt]
  have := a.isLt
  have := b.isLt
  omega

/-- A kind code with its body's length, where the table has the code (R209). -/
abbrev kindLength (c : Nat) : Option (Nat × Nat) := (bodyLength c).map fun n => (c, n)

/-- The lengths of R209, evaluated in four parts. -/
theorem kindLengths :
    (List.range 256).filterMap kindLength =
      [(0x01, 26), (0x02, 29), (0x03, 3), (0x04, 1), (0x05, 4), (0x06, 4), (0x07, 4), (0x10, 21), (0x11, 1),
        (0x18, 26), (0x19, 1), (0x1A, 12), (0x1B, 1), (0x1C, 1), (0x20, 29), (0x21, 0), (0x22, 4), (0x23, 0),
        (0x28, 1), (0x29, 0), (0x2A, 0), (0x30, 5), (0x31, 4), (0x32, 2), (0x33, 2), (0x34, 6), (0x35, 4), (0x36, 2),
        (0x37, 2), (0x38, 2), (0x39, 2)] ++
      [(0x40, 16), (0x41, 1), (0x42, 1), (0x43, 3), (0x44, 1), (0x45, 1), (0x50, 0), (0x51, 1), (0x52, 5), (0x53, 1),
        (0x7F, 0)] := by
  have hsplit : List.range 256 =
      List.range' 0 64 ++ (List.range' 64 64 ++ (List.range' 128 64 ++ List.range' 192 64)) := by decide +kernel
  have hthird : (List.range' 128 64).filterMap kindLength = [] := by decide +kernel
  have hfourth : (List.range' 192 64).filterMap kindLength = [] := by decide +kernel
  rw [hsplit, List.filterMap_append, List.filterMap_append, List.filterMap_append, hthird, hfourth]
  exact congrArg₂ _ (by decide +kernel) (by decide +kernel)

/-- Settles O8: a frame that is read has passed every check (`readFrame_eq_some`), and its row is read entry by entry
(`takeRequests_entries`), each figure of a request from its bytes (`takeRequestBody_put`). -/
theorem framesRoundTrip : Obligations.FramesRoundTrip := by
  refine ⟨fun f hf => readFrame_bytes hf, fun bytes hlen => ?_, fun a b rest hlen => ?_,
    fun bytes a b hcheck => readFrame_unchecked hcheck, fun a b tag count rest hcount => ?_,
    fun tag count rs hlen => ⟨fun hcount => ?_, fun extra hextra hcount => ?_, fun code len body hbody hcount => ?_,
      fun r hr hkind => ?_, fun r hr hcode hmany => ?_⟩, kindLengths⟩
  all_goals refine Option.eq_none_iff_forall_ne_some.mpr fun f hread => ?_
  · obtain ⟨a, b, tag, count, rest, rfl, hfrom⟩ := readFrame_eq_some.mp hread
    have hfilled := hfrom.filled
    have hshort := hfrom.short
    simp only [List.length_cons] at hlen
    omega
  · obtain ⟨a, b, tag, count, rest, hbytes, hfrom⟩ := readFrame_eq_some.mp hread
    cases hbytes
    exact hlen hfrom.declared
  · obtain ⟨a, b, tag, count, rest, hbytes, hfrom⟩ := readFrame_eq_some.mp hread
    cases hbytes
    have hcounted := hfrom.counted
    omega
  · obtain ⟨m, first, later, hm, -, hlater, -⟩ := readFrame_entries hlen hread
    obtain ⟨rfl, -⟩ := takeRequests_nil hlater
    exact hcount hm
  · obtain ⟨m, first, later, hm, -, hlater, -⟩ := readFrame_entries hlen hread
    obtain rfl : m = 0 := by omega
    exact hextra (takeRequests_zero hlater)
  · obtain ⟨m, first, later, hm, -, hlater, -⟩ := readFrame_entries hlen hread
    obtain rfl : m = 1 := by omega
    rw [takeRequests_short hbody] at hlater
    cases hlater
  · obtain ⟨m, first, later, -, hfirst, -⟩ := readFrame_entries hlen hread
    obtain ⟨q, -, hq, -⟩ := hfirst.of_mem hr
    exact hkind hq
  · obtain ⟨m, first, later, -, hfirst, -, hrequests, halone⟩ := readFrame_entries hlen hread
    obtain ⟨q, hq, hspells⟩ := hfirst.of_mem hr
    obtain rfl := hspells.restart hcode
    have hone := restartAlone_of_mem (hrequests ▸ List.mem_append_left later hq) halone
    rw [hrequests, List.length_append, ← hfirst.length_eq] at hone
    omega

end Sys2Proof
end

section
/-! ## The transactions of the request ports (R195, R196) -/

namespace Sys2Proof.Machine

open Sys2Proof

theorem Port.stateByte_eq (q : Port) (early : Bool) :
    BitVec.ofNat 8 (q.statusAtStart early).code = q.stateByte early := by
  unfold Port.statusAtStart Port.stateByte
  split <;> split <;> simp_all [PortStatus.code]

/-- With nothing to send, the state byte is followed by 0xFF alone (R195). -/
theorem shiftedOut_nothing (q : Port) (early : Bool) (n : Nat) :
    shiftedOut (q.statusAtStart early) [] n = q.stateByte early :: List.replicate n 0xFF#8 := by
  simp [shiftedOut, q.stateByte_eq]

theorem Port.wroteFrame_taken {q : Port} {x : WriteTransaction} {f : Frame} (hidle : q.status = .idle)
    (hread : readFrame x.bytes = some f) :
    q.wroteFrame x =
      ⟨.executing, f.seqTag, f.requests.length, false, f.requests, [], .executing, [q.stateByte x.early]⟩ := by
  rw [Port.wroteFrame, hidle, hread, shiftedOut_nothing]
  rfl

theorem Port.wroteFrame_malformed {q : Port} {x : WriteTransaction} (hidle : q.status = .idle)
    (hread : readFrame x.bytes = none) :
    q.wroteFrame x =
      ⟨.answerReady, frameTag x.bytes, 0, true, [], [], .answerReady, [q.stateByte x.early]⟩ := by
  rw [Port.wroteFrame, hidle, hread, shiftedOut_nothing]
  rfl

theorem Port.wroteFrame_discarded {q : Port} (x : WriteTransaction) (hbusy : q.status ≠ .idle) :
    q.wroteFrame x = q.unchanged [q.stateByte x.early] := by
  rw [Port.wroteFrame, shiftedOut_nothing]
  cases hs : q.status with
  | idle => exact absurd hs hbusy
  | executing => rfl
  | answerReady => rfl

theorem Port.readAnswer_ready {q : Port} (hready : q.status = .answerReady) (early : Bool) (n : Nat) :
    q.readAnswer early n = ⟨.idle, 0, 0, false, [], [], .idle, q.stateByte early ::
      (q.answerFrame.take n ++ List.replicate (n - q.answerFrame.length) 0xFF#8)⟩ := by
  rw [Port.readAnswer, hready, ← q.stateByte_eq]
  rfl

theorem Port.readAnswer_unready {q : Port} (hunready : q.status ≠ .answerReady) (early : Bool) (n : Nat) :
    q.readAnswer early n = q.unchanged (q.stateByte early :: List.replicate n 0xFF#8) := by
  rw [Port.readAnswer, shiftedOut_nothing]
  cases hs : q.status with
  | idle => rfl
  | executing => rfl
  | answerReady => exact absurd hs hunready

theorem Port.transacted_read (q : Port) (early : Bool) (n : Nat) :
    q.transacted ⟨0x20#8, early, n⟩ = q.readAnswer early n := if_pos rfl

theorem Port.transacted_other (q : Port) {code : Byte} (hcode : code ≠ 0x20#8) (early : Bool) (n : Nat) :
    q.transacted ⟨code, early, n⟩ = q.unchanged [q.stateByte early] := by
  rw [Port.transacted, if_neg hcode, shiftedOut_nothing]
  rfl

/-! ### What a request leaves of its port -/

/-- Taking and answering a request of a written frame leaves the state that an early transaction has read (R195). -/
theorem Port.settled_of_taking {q q' : Port} {r : Request} (hexec : q.status = .executing) (h : q.taking r = some q') :
    q'.settled = q.settled := by
  simp only [Port.taking, hexec] at h
  split at h
  · split at h
    · cases h
      rfl
    · cases h
  · cases h

theorem Port.answered_settled (q : Port) (code : Nat) (result : Result) (body : AnswerBody) :
    (q.answered code result body).settled = q.settled := by
  unfold Port.answered
  dsimp only
  split <;> rfl

theorem Port.stateByte_early {q q' : Port} (h : q'.settled = q.settled) : q'.stateByte true = q.stateByte true := by
  simp [Port.stateByte, h]

/-- A transaction rewrites its port alone. -/
theorem exec_writeFrame {s : State} (hrun : s.inReset = false) (p : PortId) (x : WriteTransaction) :
    exec (.writeFrame p x) s = .next (s.setPort p ((s.port p).wroteFrame x)) :=
  exec_running (f := fun s => s.setPort p ((s.port p).wroteFrame x)) rfl hrun

theorem exec_readAnswer {s : State} (hrun : s.inReset = false) (p : PortId) (x : ReadTransaction) :
    exec (.readAnswer p x) s = .next (s.setPort p ((s.port p).transacted x)) :=
  exec_running (f := fun s => s.setPort p ((s.port p).transacted x)) rfl hrun

/-- Settles O10: the transactions by the port's state, and a well-formed frame is read (`readFrame_bytes`). -/
theorem portTransactionsComplete : Obligations.PortTransactionsComplete := by
  intro s p early hrun
  dsimp only
  refine ⟨fun f hf hidle => ?_, fun bytes hread hidle => ?_, fun bytes hbusy => ?_, fun n hready => ?_,
    fun n hunready => ?_, fun code n hcode => ?_, fun hexec r q' code result body htaking => ?_⟩
  · rw [exec_writeFrame hrun, Port.wroteFrame_taken hidle (readFrame_bytes hf)]
  · rw [exec_writeFrame hrun, Port.wroteFrame_malformed hidle hread]
  · rw [exec_writeFrame hrun, Port.wroteFrame_discarded _ hbusy]
    rfl
  · rw [exec_readAnswer hrun, Port.transacted_read, Port.readAnswer_ready hready]
  · rw [exec_readAnswer hrun, Port.transacted_read, Port.readAnswer_unready hunready]
    rfl
  · rw [exec_readAnswer hrun, Port.transacted_other _ hcode]
    rfl
  · exact Port.stateByte_early ((q'.answered_settled code result body).trans (Port.settled_of_taking hexec htaking))

end Sys2Proof.Machine
end

section
/-! ## Requests as events of a port (R198) -/

namespace Sys2Proof.Machine

open Sys2Proof

theorem Port.answered_refused (q : Port) (code : Nat) {result : Result} (body : AnswerBody) (h : result ≠ .ok) :
    q.answered code result body =
      { q with
        answers := q.answers ++ ⟨code, result, body⟩ :: q.remaining.map fun r => ⟨r.code, .cancelled, .empty⟩
        remaining := []
        status := .answerReady } := by
  rw [Port.answered, if_neg h, List.append_assoc, List.singleton_append]

theorem Port.answered_ok (q : Port) (code : Nat) (body : AnswerBody) :
    q.answered code .ok body =
      { q with
        answers := q.answers ++ [⟨code, .ok, body⟩]
        status := if q.remaining.isEmpty then .answerReady else .executing } := by
  simp [Port.answered]

/-- Settles O11: a taken request is answered with what its reply says (`exec_reply`), and a refusal leaves the state
(`replyOf_refused`). -/
theorem requestsAreAnsweredAsOneEvent : Obligations.RequestsAreAnsweredAsOneEvent := by
  refine ⟨fun p r s => ⟨fun q htakes => ?_, fun _ hnot => ?_⟩, fun q code result body => ⟨q.answered_refused code body, ?_⟩⟩
  · refine ⟨_, _, _, exec_reply htakes rfl, fun hrefused hr => ?_⟩
    rw [replyOf_result] at hrefused
    rw [replyOf_refused hr hrefused]
    exact ⟨rfl, rfl⟩
  · rw [exec_request, applyRequest_discarded (.inr hnot)]
  · rintro rfl
    exact q.answered_ok code body

end Sys2Proof.Machine
end

section
/-! ## The Notice Table (R200 to R204) -/

namespace Sys2Proof.Machine

open Sys2Proof

/-! ### The operations on an entry -/

/-- The entry with the pending flag of one port clear, and with none left, count and subject 0 (R201). -/
theorem NoticeEntry.clearFor_eq (e : NoticeEntry) (p : PortId) : e.clearFor p = match p with
    | .portA => { e with
        pendingA := false, subject := if e.pendingB then e.subject else 0, count := if e.pendingB then e.count else 0 }
    | .portB => { e with
        pendingB := false, subject := if e.pendingA then e.subject else 0, count := if e.pendingA then e.count else 0 } := by
  obtain ⟨a, b, subject, count, routeA, routeB⟩ := e
  cases p
  · cases b <;> rfl
  · cases a <;> rfl

theorem NoticeEntry.clearFor_pendingFor (e : NoticeEntry) (p : PortId) : (e.clearFor p).pendingFor p = false := by
  rw [clearFor_eq]
  cases p <;> rfl

/-- Removing a port from the routing clears its flag first (R204). -/
theorem NoticeEntry.dropRoute_eq (e : NoticeEntry) (p : PortId) : e.dropRoute p = match p with
    | .portA => { e.clearFor .portA with routeA := false }
    | .portB => { e.clearFor .portB with routeB := false } := by
  obtain ⟨a, b, subject, count, routeA, routeB⟩ := e
  cases p
  · cases b <;> rfl
  · cases a <;> rfl

theorem NoticeEntry.raise_unrouted {e : NoticeEntry} (hA : e.routeA = false) (hB : e.routeB = false) (subject : Nat) :
    e.raise subject = e := by simp [NoticeEntry.raise, hA, hB]

theorem NoticeEntry.raise_routed {e : NoticeEntry} (h : e.routeA = true ∨ e.routeB = true) (subject : Nat) :
    e.raise subject = { e with
      pendingA := e.pendingA || e.routeA, pendingB := e.pendingB || e.routeB, subject := subject
      count := min 255 (e.count + 1) } := if_pos (by simpa using h)

/-- A raising adds a port's flag exactly where the entry is routed. -/
theorem NoticeEntry.raise_pendingA (e : NoticeEntry) (subject : Nat) :
    (e.raise subject).pendingA = (e.pendingA || e.routeA) := by
  obtain ⟨a, b, n, count, routeA, routeB⟩ := e
  cases routeA <;> cases routeB <;> simp [NoticeEntry.raise]

theorem NoticeEntry.raise_pendingB (e : NoticeEntry) (subject : Nat) :
    (e.raise subject).pendingB = (e.pendingB || e.routeB) := by
  obtain ⟨a, b, n, count, routeA, routeB⟩ := e
  cases routeA <;> cases routeB <;> simp [NoticeEntry.raise]

/-! ### The table -/

theorem State.notice_of_getElem? {s : State} {k : NoticeKind} {e : NoticeEntry} (h : s.notices[k.code]? = some e) :
    s.notice k = e := Option.some.inj ((s.notice_def k).symm.trans h)

theorem State.notice_map (s : State) (f : NoticeEntry → NoticeEntry) (k : NoticeKind) :
    ({ s with notices := s.notices.map f } : State).notice k = f (s.notice k) :=
  State.notice_of_getElem? (by simp [s.notice_def k])

theorem State.notice_mapIdx (s : State) (f : Nat → NoticeEntry → NoticeEntry) (k : NoticeKind) :
    ({ s with notices := s.notices.mapIdx f } : State).notice k = f k.code (s.notice k) :=
  State.notice_of_getElem? (by simp [s.notice_def k])

theorem State.notice_modAt (s : State) (k j : NoticeKind) (f : NoticeEntry → NoticeEntry) :
    ({ s with notices := modAt s.notices k.code f } : State).notice j = if j = k then f (s.notice j) else s.notice j := by
  refine State.notice_of_getElem? ?_
  show (modAt s.notices k.code f)[j.code]? = _
  rw [modAt_getElem?, s.notice_def j]
  by_cases h : j = k
  · simp [h]
  · rw [if_neg fun hcode => h (NoticeKind.code_inj hcode).symm, if_neg h]

theorem modAt_self {α : Type} {n : Nat} {v : Vector α n} {i : Nat} {f : α → α} (h : ∀ a, v[i]? = some a → f a = a) :
    modAt v i f = v := by
  ext1 j hj
  refine Option.some.inj ?_
  rw [← Vector.getElem?_eq_getElem hj, ← Vector.getElem?_eq_getElem hj, modAt_getElem?]
  split
  · next hij =>
    subst hij
    rw [Vector.getElem?_eq_getElem hj, Option.map_some, h _ (Vector.getElem?_eq_getElem hj)]
  · rfl

theorem State.notice_mem (s : State) (k : NoticeKind) : s.notice k ∈ s.notices.toList := by
  rw [Vector.mem_toList_iff, Vector.mem_iff_getElem?]
  exact ⟨k.code, s.notice_def k⟩

/-- A pending entry asserts its port's line in the running part (R202). -/
theorem alertLine_of_pending {s : State} {p : PortId} {k : NoticeKind} (hrun : s.inReset = false)
    (h : (s.notice k).pendingFor p = true) : alertLine s p = true := by
  simp only [alertLine, hrun, Bool.not_false, Bool.true_and, List.any_eq_true]
  exact ⟨_, s.notice_mem k, h⟩

/-- Settles O40: a raising rewrites the entry of its kind alone, by `NoticeEntry.raise`. -/
theorem raisedNoticesArePending : Obligations.RaisedNoticesArePending := by
  intro s k subject
  dsimp only
  have hentry : (s.raise k subject).notice k = (s.notice k).raise subject := by rw [State.notice_raise, if_pos rfl]
  have hpendingA := (s.notice k).raise_pendingA subject
  have hpendingB := (s.notice k).raise_pendingB subject
  rw [hentry]
  refine ⟨rfl, fun j hj => by rw [State.notice_raise, if_neg hj], fun hA hB => ?_, fun hrouted => ?_, fun hA => ?_,
    fun hB => ?_, fun hA => ?_, fun hB => ?_⟩
  · have hsame : modAt s.notices k.code (NoticeEntry.raise subject) = s.notices := modAt_self fun e he => by
      rw [← State.notice_of_getElem? he]
      exact NoticeEntry.raise_unrouted hA hB subject
    rw [State.raise, hsame]
  · rw [NoticeEntry.raise_routed hrouted]
    exact ⟨rfl, rfl⟩
  · have hset : ((s.notice k).raise subject).pendingA = true := by rw [hpendingA, hA, Bool.or_true]
    exact ⟨hset, fun hrun => alertLine_of_pending (p := .portA) (k := k) hrun (hentry ▸ hset)⟩
  · have hset : ((s.notice k).raise subject).pendingB = true := by rw [hpendingB, hB, Bool.or_true]
    exact ⟨hset, fun hrun => alertLine_of_pending (p := .portB) (k := k) hrun (hentry ▸ hset)⟩
  · rw [hpendingA, hA, Bool.or_false]
  · rw [hpendingB, hB, Bool.or_false]

end Sys2Proof.Machine
end

section
/-! ## The requests of the Notice Table (R203, R204) -/

namespace Sys2Proof.Machine

open Sys2Proof

theorem NoticeKind.ofCode_code (k : NoticeKind) : NoticeKind.ofCode k.code = some k := by cases k <;> rfl

theorem NoticeKind.mem_all (k : NoticeKind) : k ∈ NoticeKind.all := by cases k <;> decide

theorem NoticeKind.all_ascending : NoticeKind.all.Pairwise fun j k => j.code < k.code := by decide

theorem ClearMode.ofCode_code (m : ClearMode) : ClearMode.ofCode m.code = some m := by cases m <;> rfl

theorem portOfCode_code (p : PortId) : portOfCode (if p = .portA then 0 else 1) = some p := by cases p <;> rfl

/-! ### READ_NOTICES -/

theorem State.mem_noticesFor {s : State} {p : PortId} {x : NoticeCopy} :
    x ∈ s.noticesFor p ↔ ∃ k, (s.notice k).pendingFor p = true
      ∧ x = ⟨k, (s.notice k).subject, (s.notice k).count, standing s k (s.notice k).subject⟩ := by
  simp only [State.noticesFor, List.mem_map, List.mem_filter, NoticeKind.mem_all, true_and]
  exact exists_congr fun k => and_congr_right fun _ => eq_comm

theorem State.noticesFor_ascending (s : State) (p : PortId) :
    (s.noticesFor p).Pairwise fun x y => x.kind.code < y.kind.code :=
  List.pairwise_map.mpr (NoticeKind.all_ascending.filter _)

/-- What is pending for the port is cleared (R203). -/
def State.noticesCleared (s : State) (p : PortId) : State :=
  { s with notices := s.notices.map fun e => if e.pendingFor p then e.clearFor p else e }

theorem reqReadNotices_checked {s : State} (h : s.clearMode = .checked) (p : PortId) :
    reqReadNotices p s = ⟨.ok, .notices (s.noticesFor p), s⟩ := by
  unfold reqReadNotices
  split
  · next hmode => exact absurd (hmode.symm.trans h) (by decide)
  · rfl

theorem reqReadNotices_clearing {s : State} (h : s.clearMode = .readClears) (p : PortId) :
    reqReadNotices p s = ⟨.ok, .notices (s.noticesFor p), s.noticesCleared p⟩ := by
  unfold reqReadNotices
  split
  · rfl
  · next hmode => exact absurd (hmode.symm.trans h) (by decide)

theorem State.notice_noticesCleared (s : State) (p : PortId) (k : NoticeKind) :
    (s.noticesCleared p).notice k = if (s.notice k).pendingFor p then (s.notice k).clearFor p else s.notice k :=
  s.notice_map _ k

theorem State.pendingFor_noticesCleared (s : State) (p : PortId) (k : NoticeKind) :
    ((s.noticesCleared p).notice k).pendingFor p = false := by
  rw [State.notice_noticesCleared]
  split
  · exact NoticeEntry.clearFor_pendingFor _ p
  · next h => exact Bool.eq_false_iff.mpr h

/-! ### CLEAR_NOTICE -/

/-- The entry of one kind is cleared for the port (R203). -/
def State.noticeCleared (s : State) (p : PortId) (k : NoticeKind) : State :=
  { s with notices := modAt s.notices k.code fun e => e.clearFor p }

theorem reqClearNotice_eq (p : PortId) (k : NoticeKind) (s : State) :
    reqClearNotice p k.code s =
      if !(s.notice k).pendingFor p then s.accept
      else if s.clearMode = .checked && standing s k (s.notice k).subject then s.refuse .stillStanding
      else (s.noticeCleared p k).accept := by
  rw [reqClearNotice, NoticeKind.ofCode_code]
  rfl

theorem State.notice_noticeCleared (s : State) (p : PortId) (k j : NoticeKind) :
    (s.noticeCleared p k).notice j = if j = k then (s.notice j).clearFor p else s.notice j :=
  s.notice_modAt k j _

/-! ### SET_ROUTING and SET_NOTICE_MODE -/

/-- The routing of port `o` is rewritten (R204). -/
def State.rerouted (s : State) (o : PortId) (add drop : BitVec 16) : State :=
  { s with notices := s.notices.mapIdx fun c e => routed o add drop c e }

theorem reqSetRouting_reroutes {p o : PortId} {add drop : BitVec 16} {s : State}
    (hright : s.hasRight p .maintain = true) (hadd : add.toNat < 8192) (hdrop : drop.toNat < 8192)
    (hdisjoint : add &&& drop = 0#16) :
    reqSetRouting p (if o = .portA then 0 else 1) add drop s = (s.rerouted o add drop).accept := by
  simp only [reqSetRouting, hright, portOfCode_code]
  rw [if_neg (by simp), if_neg (by simp [hdisjoint, hadd, hdrop])]
  rfl

theorem State.notice_rerouted (s : State) (o : PortId) (add drop : BitVec 16) (k : NoticeKind) :
    (s.rerouted o add drop).notice k = routed o add drop k.code (s.notice k) := s.notice_mapIdx _ k

/-- No bit is set in both masks of a SET_ROUTING that is accepted. -/
theorem getLsbD_disjoint {add drop : BitVec 16} (h : add &&& drop = 0#16) {c : Nat} (hdrop : drop.getLsbD c = true) :
    add.getLsbD c = false := by
  have hbit := congrArg (·.getLsbD c) h
  simpa [hdrop] using hbit

theorem reqSetNoticeMode_sets {p : PortId} {s : State} (m : ClearMode) (hright : s.hasRight p .maintain = true) :
    reqSetNoticeMode p m.code s = ({ s with clearMode := m } : State).accept := by
  simp [reqSetNoticeMode, hright, ClearMode.ofCode_code]

end Sys2Proof.Machine
end

section
/-! ### The standing conditions (R200) -/

namespace Sys2Proof.Machine

open Sys2Proof

theorem standing_noMode {s : State} {i : Nat} :
    standing s .noMode i = true ↔ ∃ o, s.offtake i = some o ∧ o.noMode = true := Option.any_eq_true ..

theorem standing_cut {s : State} {i : Nat} :
    standing s .cut i = true ↔ ∃ o, s.offtake i = some o ∧ o.supply = .cut := by
  simp [standing, State.offtake, Option.any_eq_true]

theorem standing_lockout {s : State} {i : Nat} :
    standing s .lockout i = true ↔ ∃ o, s.offtake i = some o ∧ o.supply = .lockout := by
  simp [standing, State.offtake, Option.any_eq_true]

theorem Grade.ofCode_eq_some {n : Nat} {g : Grade} : Grade.ofCode n = some g ↔ g.code = n := by
  constructor
  · intro h
    rcases n with _ | _ | _ | n <;> cases h <;> rfl
  · rintro rfl
    cases g <;> rfl

theorem standing_reserve {s : State} {n : Nat} :
    standing s .reserve n = true ↔ ∃ g : Grade, g.code = n ∧ (s.grades.get g).inReserve = true := by
  simp [standing, Option.any_eq_true, Grade.ofCode_eq_some]

theorem standing_meterStale {s : State} {c : Nat} :
    standing s .meterStale c = true ↔ ∃ ch, s.channels[c]? = some ch ∧ ch.condition ≠ .normal := by
  simp [standing, Option.any_eq_true]

theorem standing_meterFailed {s : State} {c : Nat} :
    standing s .meterFailed c = true ↔ ∃ ch, s.channels[c]? = some ch ∧ ch.condition = .failed := by
  simp [standing, Option.any_eq_true]

theorem standing_meterReversed {s : State} {c : Nat} :
    standing s .meterReversed c = true ↔ ∃ ch, s.channels[c]? = some ch ∧ ch.reversed = true := by
  simp [standing, Option.any_eq_true]

theorem standing_tariffMiss {s : State} {n : Nat} :
    standing s .tariffMiss n = true ↔
      ∃ e a, s.accountAt e = some a ∧ a.number = n ∧ a.flags.unpriced = true := by
  simp only [standing, List.any_eq_true, State.mem_accounts, Option.any_eq_true, Bool.and_eq_true, decide_eq_true_eq]
  constructor
  · rintro ⟨_, ⟨e, he⟩, a, rfl, hn, hmissed⟩
    exact ⟨e, a, by simp [State.accountAt, he], hn, hmissed⟩
  · rintro ⟨e, a, ha, hn, hmissed⟩
    exact ⟨some a, ⟨e, Option.join_eq_some_iff.mp ha⟩, a, rfl, hn, hmissed⟩

/-- Settles O39: what each request leaves of an entry is `clearFor` or `routed` of it, and each standing condition is
read off. -/
theorem noticeRequestsComplete : Obligations.NoticeRequestsComplete := by
  intro p s q quiet
  have hquiet : ∀ port e, quiet port e = e.clearFor port := fun port e => (e.clearFor_eq port).symm
  simp only [hquiet]
  refine ⟨fun htakes => ?_, fun k htakes => ⟨fun hclear => ?_, fun hpending hmode hstands => ?_, fun hpending hfree => ?_⟩,
    fun o add drop hright htakes hadd hdrop hdisjoint => ?_, fun m hright htakes => ?_, fun subject => ?_⟩
  · obtain hmode | hmode : s.clearMode = .checked ∨ s.clearMode = .readClears := by cases s.clearMode <;> simp
    · exact ⟨_, s, exec_reply htakes (reqReadNotices_checked hmode p), rfl, fun x => State.mem_noticesFor,
        s.noticesFor_ascending p, fun _ => rfl, fun h => absurd (hmode.symm.trans h) (by decide)⟩
    · refine ⟨_, s.noticesCleared p, exec_reply htakes (reqReadNotices_clearing hmode p), rfl,
        fun x => State.mem_noticesFor, s.noticesFor_ascending p, fun h => absurd (hmode.symm.trans h) (by decide),
        fun _ k => ⟨s.pendingFor_noticesCleared p k, fun h => ?_, fun h => ?_⟩⟩
      · rw [State.notice_noticesCleared, if_pos h]
      · rw [State.notice_noticesCleared, h, if_neg Bool.false_ne_true]
  · exact exec_reply htakes ((reqClearNotice_eq p k s).trans (if_pos (by simp [hclear])))
  · have hreply : reqClearNotice p k.code s = s.refuse .stillStanding := by
      rw [reqClearNotice_eq, if_neg (by simp [hpending]), if_pos (by simp [hmode, hstands])]
    exact exec_reply htakes hreply
  · have hreply : reqClearNotice p k.code s = (s.noticeCleared p k).accept := by
      rw [reqClearNotice_eq, if_neg (by simp [hpending]), if_neg]
      rcases hfree with hmode | hstands
      · simp [hmode]
      · simp [hstands]
    have hentry : (s.noticeCleared p k).notice k = (s.notice k).clearFor p := by
      rw [State.notice_noticeCleared, if_pos rfl]
    refine ⟨_, exec_reply htakes hreply, rfl, ?_, hentry, fun j hj => ?_⟩
    · rw [State.accept_state, hentry]
      exact NoticeEntry.clearFor_pendingFor _ p
    · rw [State.accept_state, State.notice_noticeCleared, if_neg hj]
  · refine ⟨_, exec_reply htakes (reqSetRouting_reroutes hright hadd hdrop hdisjoint), rfl, fun k => ⟨fun hset => ?_,
      fun hset => ?_, fun hadd hdrop => ?_⟩⟩
    all_goals rw [State.accept_state, State.notice_rerouted, routed]
    · rw [if_pos hset]
      cases o <;> rfl
    · rw [getLsbD_disjoint hdisjoint hset, if_neg Bool.false_ne_true, if_pos hset]
      exact NoticeEntry.dropRoute_eq _ o
    · rw [hadd, hdrop]
      rfl
  · exact exec_reply htakes (reqSetNoticeMode_sets m hright)
  · refine ⟨standing_noMode, standing_cut, standing_lockout, standing_reserve, standing_meterStale, standing_meterFailed,
      standing_meterReversed, standing_tariffMiss, ?_⟩
    rintro k (rfl | rfl | rfl | rfl) <;> rfl

end Sys2Proof.Machine
end

section
/-! ## The settled notices and the waiting commands (R198, R200, R201, R204)

An entry is written by a raising, a clear, a routing and RESTART alone, each of which keeps it settled, and no operation
writes the queue of waiting commands. `State.KeepsNotices` says both of every operation. -/

namespace Sys2Proof.Machine

open Sys2Proof

/-! ### The operations keep an entry settled -/

namespace NoticeEntry.ok

variable {e : NoticeEntry}

theorem raise (h : e.ok) (subject : Nat) : (e.raise subject).ok := by
  by_cases hrouted : e.routeA = true ∨ e.routeB = true
  · obtain ⟨hA, hB, -⟩ := h
    rw [NoticeEntry.raise_routed hrouted]
    refine ⟨fun h => ?_, fun h => ?_, min_le_left _ _, fun hnoA hnoB => ?_, fun _ => ?_⟩
    · exact (Bool.or_eq_true _ _ ▸ h).elim hA id
    · exact (Bool.or_eq_true _ _ ▸ h).elim hB id
    · rcases hrouted with hroute | hroute
      · simp [hroute] at hnoA
      · simp [hroute] at hnoB
    · show 1 ≤ min 255 (e.count + 1)
      omega
  · rwa [NoticeEntry.raise, if_neg (by simpa using hrouted)]

/-- A clear leaves what is pending for the other port (R201, R203). -/
theorem clearFor (h : e.ok) (p : PortId) : (e.clearFor p).ok := by
  obtain ⟨hA, hB, hcount, -, hraised⟩ := h
  rw [NoticeEntry.clearFor_eq]
  cases p with
  | portA =>
    cases hb : e.pendingB with
    | true => exact ⟨nofun, fun _ => hB hb, hcount, nofun, fun _ => hraised (.inr hb)⟩
    | false => exact ⟨nofun, nofun, Nat.zero_le _, fun _ _ => ⟨rfl, rfl⟩, by simp⟩
  | portB =>
    cases ha : e.pendingA with
    | true => exact ⟨fun _ => hA ha, nofun, hcount, nofun, fun _ => hraised (.inl ha)⟩
    | false => exact ⟨nofun, nofun, Nat.zero_le _, fun _ _ => ⟨rfl, rfl⟩, by simp⟩

theorem addRoute (h : e.ok) (p : PortId) : (e.addRoute p).ok := by
  obtain ⟨hA, hB, hcount⟩ := h
  cases p with
  | portA => exact ⟨fun _ => rfl, hB, hcount⟩
  | portB => exact ⟨hA, fun _ => rfl, hcount⟩

/-- A port without its flag can lose its route (R204). -/
theorem dropRoute (h : e.ok) (p : PortId) : (e.dropRoute p).ok := by
  obtain ⟨hA, hB, hcount⟩ := h.clearFor p
  rw [NoticeEntry.dropRoute_eq]
  cases p with
  | portA => exact ⟨fun h => absurd h (by simp [e.clearFor_eq]), hB, hcount⟩
  | portB => exact ⟨hA, fun h => absurd h (by simp [e.clearFor_eq]), hcount⟩

theorem routed (h : e.ok) (o : PortId) (add drop : BitVec 16) (c : Nat) : (routed o add drop c e).ok := by
  unfold Machine.routed
  repeat' split
  · exact h.addRoute o
  · exact h.dropRoute o
  · exact h

theorem restarted (e : NoticeEntry) : e.restarted.ok :=
  ⟨nofun, nofun, Nat.zero_le _, fun _ _ => ⟨rfl, rfl⟩, by simp [NoticeEntry.restarted]⟩

end NoticeEntry.ok

/-! ### The table -/

theorem NoticeKind.exists_code : ∀ c : Fin 13, ∃ k : NoticeKind, k.code = c := by
  intro c
  have hall : ∀ c : Fin 13, ∃ k ∈ NoticeKind.all, k.code = c := by decide
  obtain ⟨k, -, hk⟩ := hall c
  exact ⟨k, hk⟩

/-- The law of the table, kind by kind. -/
theorem State.noticesOk_iff {s : State} : s.noticesOk ↔ ∀ k, (s.notice k).ok := by
  constructor
  · exact fun h k => h _ (s.notice_mem k)
  · intro h e he
    obtain ⟨i, hi⟩ := Vector.mem_iff_getElem?.mp (Vector.mem_toList_iff.mp he)
    obtain ⟨hlt, -⟩ := Vector.getElem?_eq_some_iff.mp hi
    obtain ⟨k, hk⟩ := NoticeKind.exists_code ⟨i, hlt⟩
    have hentry : s.notices[k.code]? = some e := (congrArg (s.notices[·]?) hk).trans hi
    rw [← State.notice_of_getElem? hentry]
    exact h k

/-- `t` has the waiting commands of `s`, and its notices are settled if those of `s` are. -/
structure State.KeepsNotices (s t : State) : Prop where
  pending : t.pending = s.pending
  settled : s.noticesOk → t.noticesOk

/-- What `State.KeepsNotices` reads. -/
def State.noticeView (s : State) : List Instr × Vector NoticeEntry 13 := (s.pending, s.notices)

theorem State.noticeView_congr {s t : State} (hpending : t.pending = s.pending) (hnotices : t.notices = s.notices) :
    t.noticeView = s.noticeView := by rw [noticeView, noticeView, hpending, hnotices]

namespace State.KeepsNotices

variable {s t u : State}

theorem refl (s : State) : s.KeepsNotices s := ⟨rfl, id⟩

theorem trans (h : s.KeepsNotices t) (h' : t.KeepsNotices u) : s.KeepsNotices u :=
  ⟨h'.pending.trans h.pending, h'.settled ∘ h.settled⟩

/-- Nothing of the two is written. -/
theorem view (h : s.KeepsNotices t) (hview : u.noticeView = t.noticeView) : s.KeepsNotices u := by
  obtain ⟨hpending, hnotices⟩ := Prod.mk.inj hview
  exact h.trans ⟨hpending, fun hok => by rwa [State.noticesOk, hnotices]⟩

/-- Each entry is written by an operation that keeps it settled. -/
theorem entries (h : s.KeepsNotices t) (hpending : u.pending = t.pending)
    (hentries : ∀ k, (t.notice k).ok → (u.notice k).ok) : s.KeepsNotices u :=
  h.trans ⟨hpending, fun hok => State.noticesOk_iff.mpr fun k => hentries k (State.noticesOk_iff.mp hok k)⟩

theorem raise (h : s.KeepsNotices t) (k : NoticeKind) (n : Nat) : s.KeepsNotices (t.raise k n) :=
  h.entries rfl fun j hj => by
    rw [State.notice_raise]
    split
    · exact hj.raise n
    · exact hj

/-- A notice raised once other fields are written. -/
theorem raised (h : s.KeepsNotices t) {k : NoticeKind} {n : Nat} (hview : u.noticeView = t.noticeView := by rfl) :
    s.KeepsNotices (u.raise k n) := (h.view hview).raise k n

theorem foldl {α : Type} {f : State → α → State} (hf : ∀ t a, s.KeepsNotices t → s.KeepsNotices (f t a)) (l : List α)
    (h : s.KeepsNotices t) : s.KeepsNotices (l.foldl f t) := List.foldlRecOn l f h fun t ht a _ => hf t a ht

end State.KeepsNotices

/-! ### The operations that write neither -/

@[simp] theorem State.noticeView_setPort (s : State) (p : PortId) (q : Port) :
    (s.setPort p q).noticeView = s.noticeView := State.noticeView_congr (by simp) (by simp)

@[simp] theorem State.noticeView_putOfftake (s : State) (i : Nat) (o : Option Offtake) :
    (s.putOfftake i o).noticeView = s.noticeView := rfl

@[simp] theorem State.noticeView_dropEntry (s : State) (i : Nat) : (s.dropEntry i).noticeView = s.noticeView := rfl

@[simp] theorem State.noticeView_pollEnded (s : State) : s.pollEnded.noticeView = s.noticeView := rfl

@[simp] theorem State.noticeView_setpointEnded (s : State) : s.setpointEnded.noticeView = s.noticeView := rfl

@[simp] theorem State.noticeView_modOfftake (s : State) (i : Nat) (f : Offtake → Offtake) :
    (s.modOfftake i f).noticeView = s.noticeView := (congrArg State.noticeView (s.modOfftake_frame i f) :)

@[simp] theorem State.noticeView_handGrant (s : State) (i : Nat) : (s.handGrant i).noticeView = s.noticeView :=
  (congrArg State.noticeView (s.handGrant_frame i) :)

@[simp] theorem State.noticeView_free (s : State) (i : Nat) : (s.free i).noticeView = s.noticeView :=
  (congrArg State.noticeView (s.free_frame i) :)

@[simp] theorem State.noticeView_leaveLinked (s : State) (i : Nat) : (s.leaveLinked i).noticeView = s.noticeView :=
  (congrArg State.noticeView (s.leaveLinked_frame i) :)

@[simp] theorem State.noticeView_enterQuiet (s : State) (i : Nat) : (s.enterQuiet i).noticeView = s.noticeView :=
  (congrArg State.noticeView (s.enterQuiet_frame i) :)

@[simp] theorem State.noticeView_joinSupply (s : State) (i : Nat) : (s.joinSupply i).noticeView = s.noticeView :=
  (congrArg State.noticeView (s.joinSupply_frame i) :)

@[simp] theorem State.noticeView_retire (s : State) (i : Nat) (o : Offtake) : (s.retire i o).noticeView = s.noticeView :=
  (congrArg State.noticeView (s.retire_frame i o) :)

@[simp] theorem State.noticeView_modAccount (s : State) (n : Nat) (f : Account → Account) :
    (s.modAccount n f).noticeView = s.noticeView := State.noticeView_congr (by simp) (by simp)

@[simp] theorem State.noticeView_bindCount (s : State) (n : Option Nat) : (s.bindCount n).noticeView = s.noticeView :=
  (congrArg State.noticeView (s.bindCount_frame n) :)

@[simp] theorem State.noticeView_unbindCount (s : State) (n : Option Nat) :
    (s.unbindCount n).noticeView = s.noticeView := (congrArg State.noticeView (s.unbindCount_frame n) :)

@[simp] theorem State.noticeView_setExport (s : State) (n : Option Nat) : (s.setExport n).noticeView = s.noticeView :=
  (congrArg State.noticeView (s.setExport_frame n) :)

@[simp] theorem State.noticeView_readmit (s : State) : s.readmit.noticeView = s.noticeView :=
  (congrArg State.noticeView s.readmit_frame :)

end Sys2Proof.Machine
end

section
/-! ### The operations and events that raise notices -/

namespace Sys2Proof.Machine

open Sys2Proof

namespace State.KeepsNotices

variable {s t : State}

theorem linkLoss (h : s.KeepsNotices t) (i : Nat) : s.KeepsNotices (t.linkLoss i) := h.raised (by simp)

theorem cutRecord (h : s.KeepsNotices t) (i : Nat) : s.KeepsNotices (t.cutRecord i) :=
  (h.raise .cut i).view (State.noticeView_congr (by rw [State.cutRecord_frame]; rfl) (t.cutRecord_notices i))

theorem releaseIdle (h : s.KeepsNotices t) (i : Nat) : s.KeepsNotices (t.releaseIdle i) := by
  unfold State.releaseIdle
  split
  · split
    · exact h.view (by simp)
    · refine view (t := if _ then _ else _) ?_ (State.noticeView_enterQuiet _ i)
      split
      · exact h.raised (by simp)
      · exact h.view (by simp)
  · exact h

theorem push (h : s.KeepsNotices t) (level : Nat) (origin : Origin) (cause : Cause) (lead : List Nat) :
    s.KeepsNotices (t.push level origin cause lead) :=
  (h.raise .curtailUp level).view (congrArg State.noticeView (t.push_frame level origin cause lead) :)

theorem pop (h : s.KeepsNotices t) : s.KeepsNotices t.pop := by
  unfold State.pop
  dsimp only
  split
  · exact h
  · exact h.raised

theorem recover (h : s.KeepsNotices t) : s.KeepsNotices t.recover := by
  unfold State.recover
  split
  · exact h.pop
  · exact h

/-! #### The offtake link -/

theorem silenceExpiry (h : s.KeepsNotices t) (i : Nat) : s.KeepsNotices (t.silenceExpiry i) := by
  unfold State.silenceExpiry
  repeat' split
  · exact h
  · exact h
  · exact h.view (by simp)
  all_goals exact h.linkLoss i

theorem failAttempt (h : s.KeepsNotices t) : s.KeepsNotices t.failAttempt := by
  unfold State.failAttempt
  dsimp only
  repeat' split
  · exact (h.view t.noticeView_setpointEnded).linkLoss _
  all_goals exact h.view rfl

theorem takeReply {α : Type} (h : s.KeepsNotices t) (addr : Byte) (data : Option α) (f : State → Nat → α → State)
    (hf : ∀ t i d, s.KeepsNotices t → s.KeepsNotices (f t i d)) : s.KeepsNotices (t.takeReply addr data f) := by
  unfold State.takeReply
  repeat' split
  · exact hf _ _ _ (h.view t.noticeView_pollEnded)
  · exact h.view rfl
  · exact h.view rfl
  · exact h.failAttempt
  · exact h

theorem listenAdvert (h : s.KeepsNotices t) (i : Nat) (a : AdvertData) : s.KeepsNotices (t.listenAdvert i a) := by
  unfold State.listenAdvert
  dsimp only
  repeat' split
  · exact h
  · exact h.view rfl
  · exact h.view rfl
  · exact h.raised

theorem confirmAdvert (h : s.KeepsNotices t) (i : Nat) (o : Offtake) (a : AdvertData) :
    s.KeepsNotices (t.confirmAdvert i o a) := by
  unfold State.confirmAdvert
  repeat' split
  · exact h.view (by simp)
  · exact h.view rfl
  · exact h.view rfl
  · exact (h.view (State.noticeView_putOfftake _ _ _)).listenAdvert i a

theorem takeAdvert (t : State) (i : Nat) (a : AdvertData) (h : s.KeepsNotices t) :
    s.KeepsNotices (t.takeAdvert i a) := by
  have hbound : s.KeepsNotices (t.boundAdvert i (storedAdvert a)) := by
    unfold State.boundAdvert
    exact listenAdvert (h.view (by simp)) i _
  unfold State.takeAdvert
  repeat' split
  · exact h
  · exact h.listenAdvert i _
  · exact h.confirmAdvert i _ _
  · exact hbound
  · exact hbound
  · exact h

theorem takeStatus (t : State) (i : Nat) (c : CallData) (h : s.KeepsNotices t) : s.KeepsNotices (t.takeStatus i c) := by
  unfold State.takeStatus
  split
  · exact h.view (by simp)
  · exact h

theorem listenLegacy (h : s.KeepsNotices t) (i : Nat) (o : Offtake) (c : CallData) :
    s.KeepsNotices (t.listenLegacy i o c) := by
  unfold State.listenLegacy
  dsimp only
  repeat' split
  · exact h.view rfl
  · exact h.view (by simp)
  · exact h.view rfl
  · exact h.raised

theorem takeLegacy (t : State) (i : Nat) (c : CallData) (h : s.KeepsNotices t) : s.KeepsNotices (t.takeLegacy i c) := by
  unfold State.takeLegacy
  repeat' split
  · exact h
  · exact h.listenLegacy i _ c
  · exact h.view (by simp)
  all_goals exact h

theorem takeAck (h : s.KeepsNotices t) (m : LinkMsg) : s.KeepsNotices (t.takeAck m) := by
  unfold State.takeAck State.acknowledge
  dsimp only
  repeat' split
  · exact h.view rfl
  · exact h.view (by simp)
  · exact h.view (by simp)
  · exact h.failAttempt
  all_goals exact h.view rfl

/-! #### The meters and the metering tick -/

theorem takeSample (h : s.KeepsNotices t) (d : SampleData) : s.KeepsNotices (t.takeSample d) := by
  unfold State.takeSample
  dsimp only
  repeat' split
  iterate 3 · exact h.view rfl
  · exact h.raised
  · exact h.view rfl
  · exact h.raised
  · exact h.view rfl

theorem ageExpiry (h : s.KeepsNotices t) (c : Nat) : s.KeepsNotices (t.ageExpiry c) := by
  unfold State.ageExpiry
  dsimp only
  repeat' split
  · exact h
  · exact h
  · exact h.raised
  · exact h.view rfl

theorem staleExpiry (h : s.KeepsNotices t) (c : Nat) : s.KeepsNotices (t.staleExpiry c) := by
  unfold State.staleExpiry
  repeat' split
  · exact h
  · exact h
  · exact h.raised

theorem carry (h : s.KeepsNotices t) (n amount : Nat) : s.KeepsNotices (t.carry n amount) := by
  have hraised : ∀ {u : State} (ans : PriceAnswer), s.KeepsNotices u → s.KeepsNotices (u.raiseCarry n ans) := by
    intro u ans hu
    unfold State.raiseCarry
    dsimp only
    repeat' split
    · exact (hu.raise _ _).raise _ _
    · exact hu.raise _ _
    · exact hu.raise _ _
    · exact hu
  unfold State.carry
  dsimp only
  repeat' split
  · exact h
  · exact h.view (by simp)
  · exact hraised _ (h.view (by simp))

theorem feedAccount (t : State) (n : Nat) (h : s.KeepsNotices t) : s.KeepsNotices (t.feedAccount n) := by
  rcases t.feedAccount_cases n with hsame | ⟨est, amount, below, above, hfed⟩
  · rwa [hsame]
  · rw [hfed]
    have hmarked : s.KeepsNotices (t.markEstimated n est) :=
      h.view (congrArg State.noticeView (t.markEstimated_frame n est) :)
    exact (hmarked.carry n amount).view (congrArg State.noticeView (State.deviate_frame _ n below above) :)

theorem supervise (t : State) (i : Nat) (h : s.KeepsNotices t) : s.KeepsNotices (t.supervise i) := by
  cases ho : t.offtake i with
  | none => rwa [State.supervise_vacant ho]
  | some o =>
    rw [State.supervise_eq ho]
    cases t.judge o with
    | stays o' => exact h.view rfl
    | cuts o' => exact (h.view (State.noticeView_putOfftake _ _ _)).cutRecord i
    | releases o' => exact (h.view (State.noticeView_putOfftake _ _ _)).releaseIdle i

theorem meteringTick (h : s.KeepsNotices t) : s.KeepsNotices t.meteringTick := by
  have hmetered : s.KeepsNotices t.metered := foldl feedAccount _ (h.view (u := t.measure) rfl)
  have hsupervised := foldl supervise slotNumbers hmetered
  rw [State.meteringTick_eq]
  generalize slotNumbers.foldl State.supervise _ = u at hsupervised ⊢
  exact hsupervised.view rfl

/-! #### The passes -/

theorem judgeReserve (t : State) (g : Grade) (h : s.KeepsNotices t) : s.KeepsNotices (t.judgeReserve g) := by
  unfold State.judgeReserve
  dsimp only
  split
  · exact h.raised
  · exact h.view rfl

theorem beginPass (h : s.KeepsNotices t) : s.KeepsNotices t.beginPass := by
  unfold State.beginPass
  split
  · exact h
  · exact (foldl judgeReserve _ (h.view t.noticeView_readmit)).view rfl

theorem takeSheds (h : s.KeepsNotices t) (ms : List ShedMember) : s.KeepsNotices (t.takeSheds ms) := by
  by_cases habove : t.level < observedLevel ms
  · rw [State.takeSheds_above habove]
    exact h.push _ _ _ _
  · rw [State.takeSheds_within habove]
    exact h.view (congrArg State.noticeView (shedEach_frame _ t) :)

theorem takeOutcome (h : s.KeepsNotices t) (ms : List ShedMember) (interval : Nat) :
    s.KeepsNotices (t.takeOutcome ms interval) := by
  have hjudged : s.KeepsNotices ((t.takeSheds ms).judgeTimer (observedLevel ms) interval) := (h.takeSheds ms).view rfl
  exact hjudged.recover

theorem writeBalance (h : s.KeepsNotices t) (b : Balance) : s.KeepsNotices (t.writeBalance b) := by
  unfold State.writeBalance
  dsimp only
  split
  · exact h.raised
  · exact h.view rfl

theorem figuresWritten (h : s.KeepsNotices t) (p : Pass) : s.KeepsNotices (t.figuresWritten p) := by
  have hresults : s.KeepsNotices ((t.grantsWritten p).writeResults p.view.result) :=
    h.view (congrArg State.noticeView (t.grantsWritten_frame p) :)
  unfold State.figuresWritten
  exact (hresults.writeBalance _).view rfl

theorem completePass (h : s.KeepsNotices t) : s.KeepsNotices t.completePass := by
  cases hp : t.pass with
  | none => rwa [State.completePass_none hp]
  | some p =>
    rw [State.completePass_some hp]
    have houtcome := (h.figuresWritten p).takeOutcome p.shedMembers p.view.interval
    revert houtcome
    generalize (t.figuresWritten p).takeOutcome p.shedMembers p.view.interval = u
    exact fun houtcome => houtcome.view rfl

theorem cutSlot (h : s.KeepsNotices t) (i : Nat) : s.KeepsNotices (t.cutSlot i) := by
  unfold State.cutSlot
  repeat' split
  · exact h.cutRecord i
  · exact h
  · exact h

theorem idleSlot (h : s.KeepsNotices t) (i : Nat) : s.KeepsNotices (t.idleSlot i) := by
  unfold State.idleSlot
  repeat' split
  · exact h.releaseIdle i
  · exact h
  · exact h

/-- Every event. -/
theorem event {c : Instr} {f : State → State} (hf : eventOf c = some f) (s : State) : s.KeepsNotices (f s) := by
  have h := refl s
  cases c <;> simp only [eventOf, Option.some.injEq, reduceCtorEq] at hf <;> subst hf
  case writeFrame p x => exact h.view (by simp)
  case readAnswer p x => exact h.view (by simp)
  case sampleMessage bytes =>
    dsimp only
    split
    · exact h.takeSample _
    · exact h
  case ageExpiry c => exact h.ageExpiry c
  case staleTimerExpiry c => exact h.staleExpiry c
  case quietHoldExpiry i =>
    dsimp only [State.quietExpiry]
    repeat' split
    · exact h
    · exact h.view (by simp)
    · exact h
  case silenceExpiry i => exact h.silenceExpiry i
  case poll | pollTimeout | setpoint =>
    dsimp only [State.beginPoll, State.pollTimedOut, State.beginSetpoint]
    repeat' split
    all_goals exact h.view rfl
  case advert m => exact h.takeReply _ _ _ takeAdvert
  case status m => exact h.takeReply _ _ _ takeStatus
  case legacy m => exact h.takeReply _ _ _ takeLegacy
  case setpointAck m => exact h.takeAck m
  case failedAttempt => exact h.failAttempt
  case meteringTick => exact h.meteringTick
  case cut i => exact h.cutSlot i
  case idleRelease i => exact h.idleSlot i
  case passBegin => exact h.beginPass
  case passCompletion => exact h.completePass
  case recoveryHoldExpiry => exact h.recover

/-! #### Requests -/

theorem repriceBand (h : s.KeepsNotices t) (n : Nat) (b : Band) : s.KeepsNotices (t.repriceBand n b) := by
  unfold State.repriceBand
  dsimp only
  repeat' split
  · exact h
  · exact h
  · exact h.raised (by simp)
  · exact h.view (by simp)

theorem reqReprice (h : s.KeepsNotices t) (p : PortId) (n : Nat) : s.KeepsNotices (reqReprice p n t).state := by
  have hpriced := ((h.repriceBand n .primary).repriceBand n .secondary).view
    (State.noticeView_modAccount _ n Account.settleUnpriced)
  unfold Machine.reqReprice
  dsimp only
  repeat' split
  · exact h
  · exact h
  · exact hpriced
  · exact hpriced

theorem reqPushCurtail (h : s.KeepsNotices t) (p : PortId) (level : Nat) :
    s.KeepsNotices (reqPushCurtail p level t).state := by
  unfold Machine.reqPushCurtail
  repeat' split
  iterate 3 · exact h
  exact h.push _ _ _ _

theorem reqPopCurtail (h : s.KeepsNotices t) (p : PortId) : s.KeepsNotices (reqPopCurtail p t).state := by
  unfold Machine.reqPopCurtail
  repeat' split
  iterate 3 · exact h
  exact h.pop

theorem reqReadNotices (h : s.KeepsNotices t) (p : PortId) : s.KeepsNotices (reqReadNotices p t).state := by
  unfold Machine.reqReadNotices
  dsimp only
  split
  · refine h.entries (u := t.noticesCleared p) rfl fun k hk => ?_
    rw [State.notice_noticesCleared]
    split
    · exact hk.clearFor p
    · exact hk
  · exact h

theorem reqClearNotice (h : s.KeepsNotices t) (p : PortId) (c : Nat) : s.KeepsNotices (reqClearNotice p c t).state := by
  unfold Machine.reqClearNotice
  repeat' split
  iterate 3 · exact h
  next k _ _ _ =>
    refine h.entries (u := t.noticeCleared p k) rfl fun j hj => ?_
    rw [State.notice_noticeCleared]
    split
    · exact hj.clearFor p
    · exact hj

theorem reqSetRouting (h : s.KeepsNotices t) (p : PortId) (port : Nat) (add drop : BitVec 16) :
    s.KeepsNotices (reqSetRouting p port add drop t).state := by
  unfold Machine.reqSetRouting
  repeat' split
  iterate 3 · exact h
  next o _ _ =>
    refine h.entries (u := t.rerouted o add drop) rfl fun k hk => ?_
    rw [State.notice_rerouted]
    exact hk.routed o add drop k.code

/-- RESTART clears every entry (R206). -/
theorem reqRestart (h : s.KeepsNotices t) (p : PortId) : s.KeepsNotices (reqRestart p t).state := by
  unfold Machine.reqRestart
  split
  · exact h
  · rw [State.accept_state, State.restarted_frame]
    refine h.entries rfl fun k _ => ?_
    rw [State.notice_of_getElem? (e := (t.notice k).restarted) (by simp [t.notice_def k])]
    exact .restarted _

/-- Every request. -/
theorem request (p : PortId) (r : Request) (s : State) : s.KeepsNotices (replyOf p r s).state := by
  have h := refl s
  cases r
  case readPlant | readBalance | readCurtail => exact h
  case reprice n => exact h.reqReprice p n
  case pushCurtail level => exact h.reqPushCurtail p level
  case popCurtail => exact h.reqPopCurtail p
  case readNotices => exact h.reqReadNotices p
  case clearNotice c => exact h.reqClearNotice p c
  case setRouting port add drop => exact h.reqSetRouting p port add drop
  case restart => exact h.reqRestart p
  case findOfftake t | readOfftake i | readChannel n | readGrade g | readWindow w | readAccount n | readTariff i
      | createOfftake b | setChannel b | setGrade b | setWindow b | clearWindow w | setPlant b | setCommitment v
      | openAccount n k key | retireAccount n | writeTariff b | invalidateTariff i | probeTariff m key | setSeason n
      | setBand b | setNoticeMode m =>
    dsimp only [replyOf, reqFindOfftake, reqReadOfftake, reqReadChannel, reqReadGrade, reqReadWindow, reqReadAccount,
      reqReadTariff, reqCreateOfftake, reqSetChannel, reqSetGrade, reqSetWindow, reqClearWindow, reqSetPlant,
      reqSetCommitment, reqOpenAccount, reqRetireAccount, State.closeEntry, reqWriteTariff, reqInvalidateTariff,
      reqProbeTariff, reqSetSeason, reqSetBand, reqSetNoticeMode]
    repeat' split
    all_goals exact h.view rfl
  case amendOfftake b | retireOfftake i t | renegotiate i t | release i t | amendAccount n key | bindAccount i t n
      | unbindAccount i t | setExportAccount n | closePeriod n | takeStatement n =>
    dsimp only [replyOf, reqAmendOfftake, reqRetireOfftake, reqRenegotiate, reqRelease, reqAmendAccount, reqBindAccount,
      reqUnbindAccount, reqSetExportAccount, reqClosePeriod, reqTakeStatement]
    repeat' split
    all_goals exact h.view (by simp)

end State.KeepsNotices

/-! ### Every command -/

/-- Every command answers a next state (R198, R26, R64, R195). -/
theorem exec_answers_next (c : Instr) (s : State) : ∃ t, exec c s = .next t := by
  rcases exec_cases c with rfl | ⟨m, n, rfl⟩ | ⟨p, r, rfl⟩ | ⟨f, hf⟩
  · exact ⟨_, rfl⟩
  · exact ⟨_, rfl⟩
  · rw [exec_request, applyRequest]
    repeat' split
    · exact ⟨_, rfl⟩
    · exact ⟨_, rfl⟩
    · exact ⟨_, rfl⟩
  · rw [exec_event hf]
    exact ⟨_, rfl⟩

/-- The queue of waiting commands is `step`'s alone: no command writes it. -/
theorem exec_keeps_pending {c : Instr} {s t : State} (h : exec c s = .next t) : t.pending = s.pending := by
  refine exec_keeps (P := fun u => u.pending = s.pending) (fun _ hu => hu) (fun _ _ _ hu => hu)
    (fun p r u q _ _ hu => ?_) (fun c f u hf _ hu => (State.KeepsNotices.event hf u).pending.trans hu) c s t rfl h
  rw [State.setPort_pending]
  exact (State.KeepsNotices.request p r u).pending.trans hu

/-- Settles O7: no arm of `exec` stops, and no operation writes the queue. -/
theorem everyCommandAnswersNext : Obligations.EveryCommandAnswersNext := by
  intro c s
  obtain ⟨t, ht⟩ := exec_answers_next c s
  exact ⟨t, ht, exec_keeps_pending ht⟩

theorem State.released_noticesOk (m n : Bool) (waiting : List Instr) :
    State.noticesOk { State.released m n with pending := waiting } := by
  obtain ⟨-, -, -, -, -, -, -, -, hnotices, -, -⟩ := resetIsLawful
  exact hnotices

/-- Every command keeps the notices settled. -/
theorem exec_keeps_noticesOk : ∀ (c : Instr) (s t : State), s.noticesOk → exec c s = .next t → t.noticesOk :=
  exec_keeps (P := State.noticesOk) (fun _ hs => hs) (fun _ m n _ => State.released_noticesOk m n _)
    (fun p r s _ _ _ hs => ((State.KeepsNotices.request p r s).view (by simp)).settled hs)
    (fun _ _ s hf _ hs => (State.KeepsNotices.event hf s).settled hs)

/-- Settles O60: the entries are written by the operations that keep an entry settled, and by nothing else. -/
theorem noticesStaySettled : Obligations.NoticesStaySettled := by
  intro s t hs hstep
  exact step_keeps exec_keeps_noticesOk (fun _ hs => hs) (fun _ _ hs => hs) s t hs hstep

end Sys2Proof.Machine
end

end
